-- ==== Sys2Proof/Word.lean ====
section
/-!
DEFINITION. The word types of the CL-6416 and their plainest arithmetic (R5: registers are 32 bits wide).
-/
namespace Sys2Proof

/-- One register word (R5). -/
abbrev Word := BitVec 32

/-- One byte. -/
abbrev Byte := BitVec 8

/-- A 64-bit quantity held as a _LO/_HI pair (R8). -/
abbrev DWord := BitVec 64

/-- The two halves of a pair joined, `hi` above `lo` (R8). -/
def joinPair (lo hi : Word) : DWord := hi ++ lo

/-- Two's-complement reading of the low `w` bits of `v`. -/
def toSigned (w v : Nat) : Int :=
  let m := v % 2 ^ w
  if m < 2 ^ (w - 1) then Int.ofNat m else Int.ofNat m - Int.ofNat (2 ^ w)

/-- The low `w` bits of a signed value in two's complement. -/
def ofSigned (w : Nat) (x : Int) : Nat := (x % Int.ofNat (2 ^ w)).toNat

end Sys2Proof
end

