-- ==== Sys2Proof/Syntax.lean ====
section
/-!
DEFINITION. The commands the CL-6416 takes, one constructor per row of spec/opcode_table.json. t is the instant of the
command on the device timescale in ps, m the master that makes an access (R375). What comes from outside the part (a
measured count, bytes read from host memory, the outcome of a check) is an operand.
-/
namespace Sys2Proof

/-- The master identities of R375. -/
inductive Master where
  | pcie | spi | keeper | ye (e : Fin 4) | tokDma | gleaner | lenuz | jtag
  deriving DecidableEq, Repr

/-- The identity of R375. -/
def Master.id : Master → Fin 16
  | .pcie => 1
  | .spi => 2
  | .keeper => 3
  | .ye e => ⟨4 + e.val, by omega⟩
  | .tokDma => 8
  | .gleaner => 9
  | .lenuz => 10
  | .jtag => 11

/-- The measurement status registers of R27, R40, R74, R132 and R234. -/
inductive MeasReg where
  | inp (n : Fin 16) | atom | plane (p : Fin 4) | bank (b : Fin 8) | link (n : Fin 4)
  deriving DecidableEq, Repr

/-- The drift windows of R36. -/
inductive DriftWindow where
  | w10 | w100 | w1000
  deriving DecidableEq, Repr

/-- The APLL configuration registers of R86. -/
inductive ApllCfgReg where
  | refmul | n | num | den
  deriving DecidableEq, Repr

/-- An entry of an APLL's trim table (R96): the gain of a bin, or tap j of a bin. -/
inductive TrimEntry where
  | gain (b : Fin 16) | tap (b j : Fin 16)
  deriving DecidableEq, Repr

/-- The ratio registers of R106; INT is a pair, committed by its _LO write (R8). -/
inductive RatioReg where
  | int | num | den
  deriving DecidableEq, Repr

/-- Where a hop takes effect: every member of a sheaf, or one output's immediate hop (R120). -/
inductive HopSite where
  | sheaf (k : Fin 16) | out (n : Fin 64)
  deriving DecidableEq, Repr

/-- What a bus-type fault captures (R309): master identity, access type, device or host address. -/
structure BusCapture where
  master : Fin 16
  access : Fin 4
  addr : DWord
  deriving DecidableEq, Repr

/-- The counters of R320 that a read clears. -/
inductive EvrCounter where
  | dropTrace | mergeLog | mergeAlarm
  deriving DecidableEq, Repr

/-- Where an instruction meets an uncorrectable error, if it does (R163): its own word in IMEM, or a DMEM word that it reads. -/
inductive EccAt where
  | none
  | imem
  | dmem
  deriving DecidableEq, Repr

/-- Where the main supplies fail during a capsule's commit, if they do (R271, R273): after the commit word, or in the midst of
writing it, which leaves some word. -/
inductive CommitCut where
  | none
  | afterWord
  | torn (left : BitVec 64)
  deriving DecidableEq, Repr


/-- What a phase of a calibration run has measured when it ends (R350): the settle interval the stimulus rate in Hz; phase
B each TDC's offset in 1/64 ps; phase C each output's mean of loopback time less placement, corrected for its bank TDC, in
1/64 ps; phase D GAIN and TAP0 to TAP15 of an APLL, in the units of R103. -/
inductive CalPhase where
  | settle (rate : Nat)
  | phaseB (offsets : Vector Int 25)
  | phaseC (means : Vector Int 64)
  | phaseD (x : Fin 2) (measured : Vector Rat 17)
  deriving DecidableEq, Repr

/-! ## Operands of the Yacor instructions (R192 to R211) -/

/-- Conditions of CMP and CMPI (R196). -/
inductive Cond where
  | eq | ne | lt | ge | ltu | geu
  deriving DecidableEq, Repr

/-- Functions of PLOG (R197). -/
inductive PredOp where
  | and_ | or_ | xor_ | nor
  deriving DecidableEq, Repr

/-- The device address of format D (R199): a word address, or a register plus a word offset. -/
inductive DevAddr where
  | abs (waddr : Fin 1048576)
  | idx (ra : Fin 16) (wofs : Fin 131072)
  deriving DecidableEq, Repr

/-- Commands of HOP (R207). -/
inductive HopOp where
  | hop | phase | hopPhase | cancel
  deriving DecidableEq, Repr

/-- Sources of SELREF (R208): a code, a register, or AUTO. -/
inductive SelSrc where
  | code (src : Fin 32)
  | reg (ra : Fin 16)
  | auto
  deriving DecidableEq, Repr

/-- What an event row says of the device accesses of an instruction (R169): the k-th one is never answered, or its answer
comes so many YAC cycles after its slot; and both of two such things. -/
inductive SlotEvent where
  | none
  | timeout (k : Nat)
  | late (k excess : Nat)
  | both (x y : SlotEvent)
  deriving DecidableEq, Repr

/-- The access of an instruction that a row of R169 is about, and what befalls its other accesses. -/
structure SlotAt where
  k : Nat
  more : SlotEvent
  deriving DecidableEq, Repr

/-- An access of a master to a DMEM word (R164). -/
inductive DmemAccess where
  | readLo | readHi | writeHi (v : Word) | writeLo (v : Word) | burst (lo hi : Word)
  deriving DecidableEq, Repr

/-- A write of YEe_PC, YEe_Gi or YEe_PRED (R183). -/
inductive YePoke where
  | pc (v : Word) | gHi (i : Fin 16) (v : Word) | gLo (i : Fin 16) (v : Word) | pred (v : Word)
  deriving DecidableEq, Repr

/-! ## Operands of the token engine, the resets and the host ports -/

/-- The counters of R260 that a read clears. -/
inductive TokCounter where
  | kcWait | errs
  deriving DecidableEq, Repr

/-- The resets of the host link (R380). -/
inductive HifReset where
  | perst | hotReset | linkDown | flr | island
  deriving DecidableEq, Repr

/-- How an SPI READ frame ends (R384, R385): after its words, with a word's 256 wait bytes, or within a word. -/
inductive SpiEnd where
  | whole | stalled | cut
  deriving DecidableEq, Repr
/-- An 8b/10b character of a Lenuz line (R215): a control character K or a data character D, with its byte. -/
inductive Symbol where
  | k (b : Byte)
  | d (b : Byte)
  deriving DecidableEq, Repr


/-- An APLL, and the signed phase errors of its latest detector cycles in 1/64 ps, the last one last (R91). -/
structure DetectorErrors where
  apll : Fin 2
  errs : List Int
  deriving DecidableEq, Repr

/-- What an APLL shows each millisecond: the largest phase error, and where its tuning lies between the rails, in thousandths
(R90, R96). -/
structure ApllReading where
  pherr : Nat
  tune : Nat
  deriving DecidableEq, Repr

/-- A STEP of an engine (R181): NOSLEEP of the word written, the memory error that its instruction meets (R163), and what
befalls its accesses (R169). -/
structure StepRun where
  nosleep : Bool
  ecc : EccAt
  slots : SlotEvent
  deriving DecidableEq, Repr

/-- A gate that closes with the handshake busy (R329): the island (0 YAC, 1 MGT, 2 TOK, 3 LNZ), and the access in flight where a
master waits for a read of it. A write in flight is discarded and leaves nothing. -/
structure ForcedGate where
  island : Fin 4
  reader : Option Master
  deriving DecidableEq, Repr

/-- A request for a reseed (R274): CONFIRM, and how many of its five steps are done when the supplies fail; 5: they do not. -/
structure ReseedAsk where
  confirm : Byte
  steps : Fin 6
  deriving DecidableEq, Repr

/-- A tamper sensor and its reading (R275). -/
structure TamperReading where
  sensor : Fin 9
  value : Int
  deriving DecidableEq, Repr

/-- The commands (spec/opcode_table.json). -/
inductive Instr where
  /-- REGISTER_WRITE (R6). A master writes a register field that has no behaviour of its own, under its access code (RW, RWL, W1C or W1S). -/
  | registerWrite (t : Nat) (m : Master) (addr : Nat) (v : Word)
  /-- HI_WRITE_HELD (R8). A master writes the _HI half of a pair, which is kept in that master's write holding register. -/
  | hiWriteHeld (t : Nat) (m : Master) (addr : Nat) (v : Word)
  /-- LO_WRITE_COMMIT (R8). A master writes the _LO half of a pair, which commits both halves with the holding register and clears it. -/
  | loWriteCommit (t : Nat) (m : Master) (addr : Nat) (v : Word)
  /-- BURST_PAIR_WRITE (R386). One PCIe request or SPI frame writes _LO and then its _HI, committing the pair whole at the end of the _HI word. -/
  | burstPairWrite (t : Nat) (m : Master) (addr : Nat) (lo hi : Word)
  /-- LO_READ_LATCH (R8). A read of a _LO register latches the upper half for the next _HI read by the same master. -/
  | loReadLatch (t : Nat) (m : Master) (addr : Nat)
  /-- INPUT_EDGE (R21). A retained edge of an input is timestamped by its TDC and becomes a phase sample that the Winnower and the planes consume. -/
  | inputEdge (t : Nat) (n : Fin 16)
  /-- IN_CFG_WRITE (R32). A write of INn_CFG; a change of MODE or EDGE restarts qualification. -/
  | inCfgWrite (t : Nat) (m : Master) (n : Fin 16) (v : Word)
  /-- REANCHOR (R35). A write of 1 to INn_CFG.REANCHOR clears the drift scores and re-anchors the baseline if the 1000 s window is ready. -/
  | reanchor (t : Nat) (m : Master) (n : Fin 16)
  /-- IN_TYPE_WRITE (R24). A write of INn_TYPE loads the type defaults, clears OVERRATE and restarts qualification if the value changes. -/
  | inTypeWrite (t : Nat) (m : Master) (n : Fin 16) (v : Word)
  /-- IN_DIV_WRITE (R20). A write of INn_DIV clears OVERRATE and restarts qualification if the value changes. -/
  | inDivWrite (t : Nat) (m : Master) (n : Fin 16) (v : Word)
  /-- IN_NOM_COMMIT (R408). A commit of INn_NOM restarts qualification if the value changes, and sets or clears NOM_ZERO. -/
  | inNomCommit (t : Nat) (m : Master) (n : Fin 16) (lo : Word)
  /-- SWPHASE_COMMIT (R25). A commit of INn_SWPHASE delivers one phase sample to a PTP_SW input. -/
  | swphaseCommit (t : Nat) (m : Master) (n : Fin 16) (lo : Word)
  /-- MEAS_GATE_END (R27). An input's measurement gate ends, forming a new result with SEQ incremented and running test T2. -/
  | measGateEnd (t : Nat) (n : Fin 16)
  /-- MEAS_STATUS_READ (R27). A read of INn_MEAS, ATOM_MEAS, PLn_UPD, OBb_BTMEAS or LZn_MEAS returns SEQ, STALE and VALID and latches the data registers for the reading master. -/
  | measStatusRead (t : Nat) (m : Master) (r : MeasReg)
  /-- ACTIVITY_TIMEOUT (R30). No edge or sample arrives within INn_ACT, so test T1 fails and the input becomes ABSENT. -/
  | activityTimeout (t : Nat) (n : Fin 16)
  /-- DRIFT_OBSERVATION (R36). An observation interval ends and the mean of its samples enters the drift windows. -/
  | driftObservation (t : Nat) (n : Fin 16)
  /-- DRIFT_EVAL (R37). Every W/10 the Winnower forms the divergence of a drift window and updates its score and test T4. -/
  | driftEval (t : Nat) (n : Fin 16) (w : DriftWindow)
  /-- HOLDOFF_EXPIRE (R31). Every test has passed without interruption for INn_HOLDOFF, so the input becomes GOOD. -/
  | holdoffExpire (t : Nat) (n : Fin 16)
  /-- XO_COARSE_GATE (R39). A 1 ms gate of XO against ROSC_A ends, and the coarse qualification passes or fails. -/
  | xoCoarseGate (t : Nat) (err : Rat)
  /-- XO_FINE_GATE (R39). A 1 s gate of XO against ATOM_IN ends, and XO_STAT.FINE and FINE_ERR are written. -/
  | xoFineGate (t : Nat) (err : Rat)
  /-- ATOM_EDGE (R40). An ATOM_IN edge, divided as its type requires, is timestamped by the ATOM TDC. -/
  | atomEdge (t : Nat)
  /-- ATOM_GATE_END (R40). An ATOM_GATE ends; a least-squares result is formed unless PRESENT fell during the gate. -/
  | atomGateEnd (t : Nat)
  /-- ATOM_CFG_WRITE (R78). A write of ATOM_CFG; a change of TYPE restarts the gates, ATOM_PHASE and presence detection. -/
  | atomCfgWrite (t : Nat) (m : Master) (v : Word)
  /-- ATOM_PRESENT_RISE (R78). ATOM_IN first meets its presence criterion and PRESENT rises. -/
  | atomPresentRise (t : Nat)
  /-- ATOM_PRESENT_FALL (R78). ATOM_IN first fails its presence criterion and PRESENT falls. -/
  | atomPresentFall (t : Nat)
  /-- PLANE_TICK (R44). The 8 us plane tick, at which each plane updates its loop, swaps, recalls, changes state, applies pending model actions and forms its bound. -/
  | planeTick
  /-- CORRECTION_IN_FORCE (R108). The word computed at a tick comes into force at the outputs and the TOD 160 ns after the tick. -/
  | correctionInForce
  /-- PL_CTRL_WRITE (R53). A write of PLn_CTRL, whose EN, MODE and FORCE_HO move the plane under the state machine. -/
  | plCtrlWrite (t : Nat) (m : Master) (p : Fin 4) (v : Word)
  /-- PL_REFSEL_WRITE (R71). A write of PLn_REFSEL is a reference switch, which loads defaults and commits or enters ACQUIRE. -/
  | plRefselWrite (t : Nat) (m : Master) (p : Fin 4) (v : Word)
  /-- SHADOW_CAND_WRITE (R168). A write of PLn_SHADOW_CAND changes the candidate unless a commit is pending. -/
  | shadowCandWrite (t : Nat) (m : Master) (p : Fin 4) (v : Word)
  /-- PBO_WRITE (R72). A committed write of PLn_PBO clears RSUM and takes effect at the next update. -/
  | pboWrite (t : Nat) (m : Master) (p : Fin 4) (lo : Word)
  /-- STEER_COMMIT (R56). A commit of PLn_STEER sets the STEERED word at the next tick, latches STEER_BOUND and restarts the growth term. -/
  | steerCommit (t : Nat) (m : Master) (p : Fin 4) (lo : Word)
  /-- HISTORY_RECORD (R58). Once per second a LOCKED plane records its correction word into the holdover history. -/
  | historyRecord (t : Nat) (p : Fin 4)
  /-- GROWTH_SECOND (R61). Once per second the holdover growth term advances by r and d. -/
  | growthSecond (t : Nat) (p : Fin 4)
  /-- COMMIT_BEGIN (R67). A write of PLn_COMMIT.BEGIN opens a speculation region with a preferred reference. -/
  | commitBegin (t : Nat) (m : Master) (p : Fin 4) (pref : Fin 32)
  /-- COMMIT_GO (R67). A write of PLn_COMMIT.GO, with or without FORCE, issues or refuses a commit in the open region. -/
  | commitGo (t : Nat) (m : Master) (p : Fin 4) (force : Bool)
  /-- COMMIT_ABANDON (R71). A write of PLn_COMMIT.ABANDON closes a region before its swap. -/
  | commitAbandon (t : Nat) (m : Master) (p : Fin 4)
  /-- MODEL_LOAD (R82). Master 3 writes MODEL_CTRL.LOAD, which makes a model load pending for the next tick. -/
  | modelLoad (t : Nat) (m : Master) (withClear : Bool)
  /-- MODEL_CLEAR (R83). A write of MODEL_CTRL.CLEAR makes the withdrawal of the model pending for the next tick. -/
  | modelClear (t : Nat) (m : Master)
  /-- MODEL_AGE_SECOND (R83). MODEL_AGE counts one second, and MODEL_OLD rises once it exceeds 3600. -/
  | modelAgeSecond (t : Nat)
  /-- XO_LOSS (R76). No XO edge arrives within 200 ns, which sets XO_MON.LOST, puts the APLLs in TUNE_HOLD and raises XO_LOST. -/
  | xoLoss (t : Nat)
  /-- APLL_ENABLE (R86). EN changes from 0 to 1, which checks the configuration and starts the lock sequence or enters CFG_ERR. -/
  | apllEnable (t : Nat) (m : Master) (x : Fin 2) (v : Word)
  /-- APLL_DISABLE (R101). A write of EN = 0 swaps every output it can and then stops the APLL. -/
  | apllDisable (t : Nat) (m : Master) (x : Fin 2) (v : Word)
  /-- APLL_CONFIG_WRITE (R86). A write of REFMUL, N, NUM or DEN, which is ignored with CFG_ERR while EN is 1. -/
  | apllConfigWrite (t : Nat) (m : Master) (x : Fin 2) (r : ApllCfgReg) (v : Word)
  /-- APLL_RELOCK (R88). A write of APLLx_CTRL.RELOCK starts a relock of an idle APLL in LOST or FAIL. -/
  | apllRelock (t : Nat) (m : Master) (x : Fin 2) (v : Word)
  /-- APLL_BANDSEL_DONE (R88). The band search ends, and the APLL enters ACQ. -/
  | apllBandselDone (t : Nat) (x : Fin 2)
  /-- APLL_LOCK_ACHIEVED (R88). The phase error stays within 20 ps for 4096 cycles, so the APLL becomes LOCKED and releases its taps. -/
  | apllLockAchieved (t : Nat) (x : Fin 2)
  /-- APLL_LOCK_TIMEOUT (R88). Lock has not occurred 2 ms after the start, so the APLL enters FAIL. -/
  | apllLockTimeout (t : Nat) (x : Fin 2)
  /-- APLL_RETRY (R88). 1 ms after a first failure the band search restarts once. -/
  | apllRetry (t : Nat) (x : Fin 2)
  /-- APLL_DEPART (R91). The detector error exceeds DEP_THR for DEP_CNT cycles, which sets DEPART and starts an output source swap. `errs`: for each APLL, the signed phase errors of its latest detector cycles in 1/64 ps, the last one last. -/
  | apllDepart (t : Nat) (x : Fin 2) (errs : Vector (List Int) 2)
  /-- APLL_LOCK_LOST (R91). The detector error exceeds 200 ps at four cycles in 64, so the APLL enters LOST and withdraws its taps. -/
  | apllLockLost (t : Nat) (x : DetectorErrors)
  /-- APLL_AUTO_RELOCK (R93). A LOST APLL with AUTO_RELOCK relocks once no PIFD draws on it. -/
  | apllAutoRelock (t : Nat) (x : Fin 2)
  /-- TRIM_UPDATE (R96). Every 1 ms the APLL reads Tj, interpolates its trim table and slews the applied corrections. -/
  | trimUpdate (t : Nat) (x : Fin 2) (tj : Int) (seen : ApllReading)
  /-- TRIM_TABLE_WRITE (R97). A write of the trim table, which is accepted only while FREEZE is 1 and otherwise sets WERR. -/
  | trimTableWrite (t : Nat) (m : Master) (x : Fin 2) (e : TrimEntry) (v : Word)
  /-- XPH_MEASURE (R98). Every 1 ms the cross-phase monitor measures the static offset between the two APLLs. -/
  | xphMeasure (t : Nat) (xph : Int)
  /-- SWAP_EDGE (R98). The first output edge not yet fixed is placed on the other APLL's taps, completing an output source swap. -/
  | swapEdge (t : Nat) (n : Fin 64)
  /-- OUTPUT_EDGE_PLACE (R107). 100 ns ahead, the PIFD fixes the placement of an output's next rising edge under the period-stretch rule. -/
  | outputEdgePlace (t : Nat) (n : Fin 64)
  /-- OUT_CFG_WRITE (R127). A write of OUTn_CFG, whose EN, FMT, EDGE, DRIVE and POL changes take effect as the rules state. -/
  | outCfgWrite (t : Nat) (m : Master) (n : Fin 64) (v : Word)
  /-- OUT_RATIO_WRITE (R106). A write of the active ratio registers, which is ignored with WERR unless the output is STOPPED or WAITING. -/
  | outRatioWrite (t : Nat) (m : Master) (n : Fin 64) (r : RatioReg) (v : Word)
  /-- OUT_SHADOW_RATIO_WRITE (R120). A write of the shadow ratio registers, which is ignored with WERR while a hop is pending. -/
  | outShadowRatioWrite (t : Nat) (m : Master) (n : Fin 64) (r : RatioReg) (v : Word)
  /-- OUTPUT_START (R128). A WAITING output's start conditions hold, and it anchors at the next whole second. -/
  | outputStart (t : Nat) (n : Fin 64)
  /-- PHASE_COMMIT (R113). A commit of OUTn_PHASE starts a step or a slew toward the setpoint. -/
  | phaseCommit (t : Nat) (m : Master) (n : Fin 64) (lo : Word)
  /-- OUT_DELAY_WRITE (R113). A write of OUTn_DELAY changes D at the first edge not yet fixed. -/
  | outDelayWrite (t : Nat) (m : Master) (n : Fin 64) (v : Word)
  /-- OUT_SLEW_WRITE (R115). A write of OUTn_SLEW.SLOPE during a slew changes its rate or applies the remainder as a step. -/
  | outSlewWrite (t : Nat) (m : Master) (n : Fin 64) (v : Word)
  /-- OUT_HOP (R120). A write of OUTn_CMD.HOP, with SYNC as its alignment, issues an immediate hop effective 200 ns later. -/
  | outHop (t : Nat) (m : Master) (n : Fin 64) (sync : Bool)
  /-- OUT_RESTART (R112). A write of OUTn_CMD.RESTART re-anchors a running RATIO output at the next whole second. -/
  | outRestart (t : Nat) (m : Master) (n : Fin 64)
  /-- STOPSLEW (R115). A write of OUTn_CMD.STOPSLEW sets the setpoint to the applied offset. -/
  | stopslew (t : Nat) (m : Master) (n : Fin 64)
  /-- OUT_SRC_PL_WRITE (R125). A write of OUTn_SRC.PL moves the output to another plane at the next in-force boundary. -/
  | outSrcPlWrite (t : Nat) (m : Master) (n : Fin 64) (v : Word)
  /-- OUT_SRC_APLL_WRITE (R125). A write of OUTn_SRC.APLL requests a source swap, which is refused or discarded when its conditions fail. -/
  | outSrcApllWrite (t : Nat) (m : Master) (n : Fin 64) (v : Word)
  /-- EDGEADJ_READ (R119). A read of OUTn_EDGEADJ returns the edge count adjustment and clears it. -/
  | edgeadjRead (t : Nat) (m : Master) (n : Fin 64)
  /-- BANK_SUPPLY_CHANGE (R131). VDD_OBb leaves or returns to its operating range, which squelches the bank or starts its stability timer. -/
  | bankSupplyChange (t : Nat) (b : Fin 8) (level : Fin 4)
  /-- BANK_SUPPLY_STABLE (R131). The bank supply has been stable for 1 ms, and its outputs resume. -/
  | bankSupplyStable (t : Nat) (b : Fin 8)
  /-- SHED3_STEP (R130). Every STEP interval in SHED3 the next LOW output is shed, or on exit restored. -/
  | shed3Step (t : Nat)
  /-- BT_GATE_END (R132). A bank TDC gate ends, forming BTERR and BTMISS and testing them against the limit. -/
  | btGateEnd (t : Nat) (b : Fin 8) (err : Int) (miss : Nat)
  /-- BTSEL_WRITE (R132). A write of OBb_BTSEL restarts the bank TDC gate. -/
  | btselWrite (t : Nat) (m : Master) (b : Fin 8) (v : Word)
  /-- SHEAF_MEMBERS_WRITE (R122). A write of SHk_MEMBERS, which is ignored with WERR unless the sheaf is IDLE and sets or clears CONFLICT. -/
  | sheafMembersWrite (t : Nat) (m : Master) (k : Fin 16) (lo : Word)
  /-- SHEAF_HOP (R123). SHk_CMD OP 1 arms a hop of the sheaf after the arming tests. -/
  | sheafHop (t : Nat) (m : Master) (k : Fin 16) (sync asap : Bool) (pl : Fin 4)
  /-- SHEAF_PHASE (R123). SHk_CMD OP 2 arms a phase change of every member by SHk_DPHASE. -/
  | sheafPhase (t : Nat) (m : Master) (k : Fin 16) (sync asap : Bool) (pl : Fin 4)
  /-- SHEAF_HOP_PHASE (R123). SHk_CMD OP 3 arms a hop followed by a phase change on the new ratio. -/
  | sheafHopPhase (t : Nat) (m : Master) (k : Fin 16) (sync asap : Bool) (pl : Fin 4)
  /-- SHEAF_CANCEL (R123). SHk_CMD OP 4 cancels an ARMED command or sets CANCEL_LATE when FIXED. -/
  | sheafCancel (t : Nat) (m : Master) (k : Fin 16) (pl : Fin 4)
  /-- SHEAF_FIX (R123). At E minus 2 us the sheaf becomes FIXED and computes each member's new schedule. -/
  | sheafFix (t : Nat) (k : Fin 16)
  /-- SHEAF_PLACE (R412). At E minus 100 ns the first new placements are fixed and members' OUTn_PHASE are committed. -/
  | sheafPlace (t : Nat) (k : Fin 16)
  /-- HOP_EFFECTIVE (R121). At E every member changes ratio and the active and shadow registers exchange. -/
  | hopEffective (t : Nat) (h : HopSite)
  /-- SHEAF_DONE (R123). At E plus 200 ns the sheaf returns to IDLE and writes its result, DONE_AT and event flags. -/
  | sheafDone (t : Nat) (k : Fin 16)
  /-- TOD_SET_TICK (R141). TODp_CMD OP 1 makes a SET_TICK pending, or refuses it. -/
  | todSetTick (t : Nat) (m : Master) (p : Fin 4)
  /-- TOD_SET_SEC (R141). TODp_CMD OP 2 makes a SET_SEC pending for the next whole second, or refuses it. -/
  | todSetSec (t : Nat) (m : Master) (p : Fin 4)
  /-- TOD_ADJ (R141). TODp_CMD OP 3 makes an ADJ step pending, or refuses it. -/
  | todAdj (t : Nat) (m : Master) (p : Fin 4)
  /-- TOD_STEP_APPLY (R143). A pending TOD command takes effect, steps TODp and PBO, and acts on outputs and sheafs. -/
  | todStepApply (t : Nat) (p : Fin 4)
  /-- SECOND_BOUNDARY (R144). TODp reaches a whole second, which sets SEC, pulses the event line and applies boundary actions. -/
  | secondBoundary (t : Nat) (p : Fin 4)
  /-- STAMP_CAPTURE (R149). A stamp channel records a time record of a source event into its FIFO, or discards it and counts it. -/
  | stampCapture (t : Nat) (j : Fin 16)
  /-- STAMP_POP (R150). A read of STAMPj_REC0 pops the oldest record into the reading master's latch. -/
  | stampPop (t : Nat) (m : Master) (j : Fin 16)
  /-- STAMP_LOST_READ (R150). A read of STAMPj_STAT.LOST returns the lost count and clears it. -/
  | stampLostRead (t : Nat) (m : Master) (j : Fin 16)
  /-- STAMP_CFG_WRITE (R149). A write of STAMPj_CFG; writing EN = 0 flushes the channel's FIFO. -/
  | stampCfgWrite (t : Nat) (m : Master) (j : Fin 16) (v : Word)
  /-- STAMP_NOW (R151). A write of STAMP_NOW.GO captures one time record of each plane in the same cycle. -/
  | stampNow (t : Nat) (m : Master)
  /-- TOD_REC_READ (R160). A read of TODp_REC0 latches the plane's current record for the reading master. -/
  | todRecRead (t : Nat) (m : Master) (p : Fin 4)
  /-- TEB_TOTAL_READ (R160). A read of TEBp_TOTAL latches the seven terms and PROV of the same tick. -/
  | tebTotalRead (t : Nat) (m : Master) (p : Fin 4)
  /-- ADD (R195). Yacor ADD instruction. -/
  | add (t : Nat) (e : Fin 4) (rd ra rb : Fin 16)
  /-- SUB (R195). Yacor SUB instruction. -/
  | sub (t : Nat) (e : Fin 4) (rd ra rb : Fin 16)
  /-- AND (R195). Yacor AND instruction. -/
  | and_ (t : Nat) (e : Fin 4) (rd ra rb : Fin 16)
  /-- OR (R195). Yacor OR instruction. -/
  | or_ (t : Nat) (e : Fin 4) (rd ra rb : Fin 16)
  /-- XOR (R195). Yacor XOR instruction. -/
  | xor_ (t : Nat) (e : Fin 4) (rd ra rb : Fin 16)
  /-- SHL (R195). Yacor SHL instruction. -/
  | shl (t : Nat) (e : Fin 4) (rd ra rb : Fin 16)
  /-- SHR (R195). Yacor SHR instruction. -/
  | shr (t : Nat) (e : Fin 4) (rd ra rb : Fin 16)
  /-- SAR (R195). Yacor SAR instruction. -/
  | sar (t : Nat) (e : Fin 4) (rd ra rb : Fin 16)
  /-- MUL (R195). Yacor MUL instruction, low half of the product, three cycles. -/
  | mul (t : Nat) (e : Fin 4) (rd ra rb : Fin 16)
  /-- MULH (R195). Yacor MULH instruction, upper half of the signed product, three cycles. -/
  | mulh (t : Nat) (e : Fin 4) (rd ra rb : Fin 16)
  /-- SAT (R195). Yacor SAT instruction, signed saturation to w bits. -/
  | sat (t : Nat) (e : Fin 4) (rd ra : Fin 16) (w : Fin 64)
  /-- ADDI (R195). Yacor ADDI instruction. -/
  | addi (t : Nat) (e : Fin 4) (rd ra : Fin 16) (imm : Fin 262144)
  /-- ANDI (R195). Yacor ANDI instruction. -/
  | andi (t : Nat) (e : Fin 4) (rd ra : Fin 16) (imm : Fin 262144)
  /-- ORI (R195). Yacor ORI instruction. -/
  | ori (t : Nat) (e : Fin 4) (rd ra : Fin 16) (imm : Fin 262144)
  /-- XORI (R195). Yacor XORI instruction. -/
  | xori (t : Nat) (e : Fin 4) (rd ra : Fin 16) (imm : Fin 262144)
  /-- SHLI (R195). Yacor SHLI instruction. -/
  | shli (t : Nat) (e : Fin 4) (rd ra : Fin 16) (n : Fin 64)
  /-- SHRI (R195). Yacor SHRI instruction. -/
  | shri (t : Nat) (e : Fin 4) (rd ra : Fin 16) (n : Fin 64)
  /-- SARI (R195). Yacor SARI instruction. -/
  | sari (t : Nat) (e : Fin 4) (rd ra : Fin 16) (n : Fin 64)
  /-- LI (R195). Yacor LI instruction, loads a sign-extended 22-bit immediate. -/
  | li (t : Nat) (e : Fin 4) (rd : Fin 16) (imm : Fin 4194304)
  /-- LIS (R195). Yacor LIS instruction, shifts left by 16 and ORs in an immediate. -/
  | lis (t : Nat) (e : Fin 4) (rd : Fin 16) (imm : Fin 65536)
  /-- CMP (R196). Yacor CMP instruction, sets a predicate from a register comparison. -/
  | cmp (t : Nat) (e : Fin 4) (pd : Fin 4) (cc : Cond) (ra rb : Fin 16)
  /-- CMPI (R196). Yacor CMPI instruction, sets a predicate from a comparison with an immediate. -/
  | cmpi (t : Nat) (e : Fin 4) (pd : Fin 4) (cc : Cond) (ra : Fin 16) (imm : Fin 131072)
  /-- PLOG (R197). Yacor PLOG instruction, combines two predicates with AND, OR, XOR or NOR. -/
  | plog (t : Nat) (e : Fin 4) (pd pa pb : Fin 4) (fn : PredOp)
  /-- JMP (R197). Yacor JMP instruction. -/
  | jmp (t : Nat) (e : Fin 4) (tgt : Fin 4096)
  /-- BT (R197). Yacor BT instruction, branches if the predicate is 1. -/
  | bt (t : Nat) (e : Fin 4) (ps : Fin 4) (tgt : Fin 4096)
  /-- BF (R197). Yacor BF instruction, branches if the predicate is 0. -/
  | bf (t : Nat) (e : Fin 4) (ps : Fin 4) (tgt : Fin 4096)
  /-- JAL (R197). Yacor JAL instruction, jump and link. -/
  | jal (t : Nat) (e : Fin 4) (rd : Fin 16) (tgt : Fin 4096)
  /-- JR (R197). Yacor JR instruction, jumps through a register or traps PC_END. -/
  | jr (t : Nat) (e : Fin 4) (ra : Fin 16)
  /-- LD (R198). Yacor LD instruction, reads a DMEM word. -/
  | ld (t : Nat) (e : Fin 4) (rd ra : Fin 16) (ofs : Fin 262144) (ecc : Bool)
  /-- ST (R198). Yacor ST instruction, writes a DMEM word. -/
  | st (t : Nat) (e : Fin 4) (rs ra : Fin 16) (ofs : Fin 262144)
  /-- RDS (R203). Yacor RDS instruction, reads engine state selected by SEL. -/
  | rds (t : Nat) (e : Fin 4) (rd : Fin 16) (sel : Fin 8)
  /-- RDD (R199). Yacor RDD instruction, one device read. -/
  | rdd (t : Nat) (e : Fin 4) (rd : Fin 16) (a : DevAddr)
  /-- RDDP (R199). Yacor RDDP instruction, reads a 64-bit pair in two slots. -/
  | rddp (t : Nat) (e : Fin 4) (rd : Fin 16) (a : DevAddr)
  /-- WRD (R199). Yacor WRD instruction, one device write. -/
  | wrd (t : Nat) (e : Fin 4) (rs : Fin 16) (a : DevAddr)
  /-- WRDP (R199). Yacor WRDP instruction, writes _HI then _LO of a pair. -/
  | wrdp (t : Nat) (e : Fin 4) (rs : Fin 16) (a : DevAddr)
  /-- WAITEV (R173). Yacor WAITEV instruction, waits on an event mask and timer mask. -/
  | waitev (t : Nat) (e : Fin 4) (rd ra tm : Fin 16)
  /-- WAITEV_RELEASE (R173). A waiting WAITEV releases, writing pending events and timer predicates and clearing them. -/
  | waitevRelease (t : Nat) (e : Fin 4) (idle : Nat)
  /-- EVPOLL (R202). Yacor EVPOLL instruction, takes and clears masked EVPEND bits without waiting. -/
  | evpoll (t : Nat) (e : Fin 4) (rd ra : Fin 16)
  /-- TSET (R203). Yacor TSET instruction, starts a one-shot timer. -/
  | tset (t : Nat) (e : Fin 4) (i : Fin 4) (ra : Fin 16)
  /-- TSETP (R203). Yacor TSETP instruction, starts a periodic timer. -/
  | tsetp (t : Nat) (e : Fin 4) (i : Fin 4) (ra : Fin 16)
  /-- TSTOP (R202). Yacor TSTOP instruction, stops a timer. -/
  | tstop (t : Nat) (e : Fin 4) (i : Fin 4)
  /-- MEAS_STAT (R204). Yacor MEAS.STAT instruction, reads INn_MEAS, latching, and sets a predicate. -/
  | measStat (t : Nat) (e : Fin 4) (pd : Fin 4) (rd n : Fin 16)
  /-- MEAS_FREQ (R204). Yacor MEAS.FREQ instruction, reads the latched frequency. -/
  | measFreq (t : Nat) (e : Fin 4) (rd n : Fin 16)
  /-- MEAS_RAW (R204). Yacor MEAS.RAW instruction, reads the latched phase sample. -/
  | measRaw (t : Nat) (e : Fin 4) (rd n : Fin 16)
  /-- MEAS_PHASE (R204). Yacor MEAS.PHASE instruction, reads the phase and resolves its wrap against an expectation. -/
  | measPhase (t : Nat) (e : Fin 4) (rd ra n : Fin 16)
  /-- STEER (R205). Yacor STEER instruction, writes STEER_BOUND and commits PLn_STEER. -/
  | steer (t : Nat) (e : Fin 4) (p : Fin 4) (ra rb : Fin 16)
  /-- PHSTEP (R206). Yacor PHSTEP instruction, commits an output's phase setpoint. -/
  | phstep (t : Nat) (e : Fin 4) (n : Fin 64) (ra : Fin 16)
  /-- HOP (R207). Yacor HOP instruction, writes SHk_AT and SHk_CMD and returns SHk_STAT. -/
  | hop (t : Nat) (e : Fin 4) (rd k : Fin 16) (p : Fin 4) (ra rb : Fin 16) (op : HopOp) (sync asap : Bool)
  /-- SELREF (R208). Yacor SELREF instruction, writes PLn_SHADOW_CAND. -/
  | selref (t : Nat) (e : Fin 4) (p : Fin 4) (src : SelSrc)
  /-- SPEC_BEGIN (R209). Yacor SPEC.BEGIN instruction, opens a region and returns a status word. -/
  | specBegin (t : Nat) (e : Fin 4) (rd : Fin 16) (p : Fin 4) (pref : Fin 32)
  /-- SPEC_COMMIT (R209). Yacor SPEC.COMMIT instruction, issues a commit, with optional FORCE, in an owned region. -/
  | specCommit (t : Nat) (e : Fin 4) (rd : Fin 16) (p : Fin 4) (force : Bool)
  /-- SPEC_ABANDON (R209). Yacor SPEC.ABANDON instruction, abandons an owned region. -/
  | specAbandon (t : Nat) (e : Fin 4) (rd : Fin 16) (p : Fin 4)
  /-- POST (R210). Yacor POST instruction, posts a whole message into a bound mailbox or idles. -/
  | post (t : Nat) (e : Fin 4) (rd c ra n : Fin 16) (ecc : Bool)
  /-- FETCH (R210). Yacor FETCH instruction, reads waiting words of a bound mailbox into DMEM. -/
  | fetch (t : Nat) (e : Fin 4) (rd c ra n : Fin 16)
  /-- TNOW (R211). Yacor TNOW instruction, reads the plane's time record into DMEM and its bound into a register. -/
  | tnow (t : Nat) (e : Fin 4) (rd : Fin 16) (p : Fin 4) (ra : Fin 16)
  /-- WATCHDOG_EXPIRE (R179). The engine's watchdog count reaches YEe_WDOG, and it traps WDOG at the next boundary. -/
  | watchdogExpire (t : Nat) (e : Fin 4)
  /-- TRAP_RESTART (R180). 1 ms after a trap under the RESTART policy the engine resets and starts at its entry. -/
  | trapRestart (t : Nat) (e : Fin 4)
  /-- RSTCNT_CLEAR (R180). 60 s pass without a trap, and RSTCNT returns to 0. -/
  | rstcntClear (t : Nat) (e : Fin 4)
  /-- TIMER_EXPIRE (R174). A Yacor timer expires at a microsecond boundary, setting PEND and reloading if periodic. -/
  | timerExpire (t : Nat) (e i : Fin 4)
  /-- EVENT_LINE_PULSE (R172). A source pulses an event line, which sets its EVPEND bit in all engines within 40 ns, or EVOVF if already set. -/
  | eventLinePulse (t : Nat) (line : Fin 64)
  /-- DEV_ACCESS_OVERRUN (R169). A device access target answers after its slot, and the engine sets LATE and counts the overrun. -/
  | devAccessOverrun (t : Nat) (e : Fin 4) (k : SlotAt) (excess : Nat)
  /-- DEV_ACCESS_TIMEOUT (R169). An access unanswered after 4096 cycles completes as zero or discarded, setting DEV_TMO. -/
  | devAccessTimeout (t : Nat) (e : Fin 4) (k : SlotAt)
  /-- YE_START (R181). YEe_CTRL.START resumes the engine, or starts it from RESET subject to signing. -/
  | yeStart (t : Nat) (m : Master) (e : Fin 4) (nosleep : Bool)
  /-- YE_HALT (R181). YEe_CTRL.HALT stops the engine at an instruction boundary. -/
  | yeHalt (t : Nat) (m : Master) (e : Fin 4) (nosleep : Bool)
  /-- YE_STEP (R181). YEe_CTRL.STEP executes one instruction and halts again. -/
  | yeStep (t : Nat) (m : Master) (e : Fin 4) (run : StepRun)
  /-- YE_RESET (R162). YEe_CTRL.RESET resets the engine's architectural state. -/
  | yeReset (t : Nat) (m : Master) (e : Fin 4) (nosleep : Bool)
  /-- YE_VERIFY (R188). YEe_CTRL.VERIFY sets SIG to PENDING and asks the keeper to verify the program signature. -/
  | yeVerify (t : Nat) (m : Master) (e : Fin 4) (nosleep : Bool)
  /-- SIG_VERIFY_DONE (R188). The keeper finishes verification, and SIG becomes OK or FAIL with SIG_DONE set. -/
  | sigVerifyDone (t : Nat) (e : Fin 4)
  /-- IMEM_WRITE (R164). A master writes IMEM, accepted only in RESET, HALTED or TRAPPED and clearing SIG after VERIFY. -/
  | imemWrite (t : Nat) (m : Master) (e : Fin 4) (a : Fin 4096) (v : Word)
  /-- DMEM_MASTER_ACCESS (R164). A master reads or writes a DMEM word through its pair registers. -/
  | dmemMasterAccess (t : Nat) (m : Master) (e : Fin 4) (a : Fin 1024) (d : DmemAccess)
  /-- YE_REG_WRITE (R183). A master writes YEe_PC, YEe_Gi or YEe_PRED, accepted on the BE while HALTED or TRAPPED and otherwise ignored with WERR. -/
  | yeRegWrite (t : Nat) (m : Master) (e : Fin 4) (r : YePoke)
  /-- YE_SWEV (R171). A write of 1 to YE_SWEV pulses software event line 62 or 63. -/
  | yeSwev (t : Nat) (m : Master) (v : Word)
  /-- YE_DETLOSS_READ (R169). A read of YEe_DETLOSS returns the overrun counts and clears them. -/
  | yeDetlossRead (t : Nat) (m : Master) (e : Fin 4)
  /-- LZ_FRAME_TX (R215). At each microsecond a link sends a frame and stamps its marker's departure. `us`: the microsecond whose frame it is. -/
  | lzFrameTx (t : Nat) (n : Fin 4) (us : Nat)
  /-- LZ_FRAME_RX (R219). A link receives a whole frame, stamps its marker, checks it and pairs stamps into rtd and offset. `mark`: its marker's arrival at the ball; `start`, `rest`: the two characters that start it, and those that follow. -/
  | lzFrameRx (t : Nat) (n : Fin 4) (mark : Nat) (start rest : List Symbol)
  /-- LZ_ALIGN_FOUND (R221). The receiver finds K28.5 alignment, and the link enters SYNC. -/
  | lzAlignFound (t : Nat) (n : Fin 4)
  /-- LZ_RTD_MEAN (R221). Every 1 ms the link forms the mean of rtd and judges lock or loss of lock. -/
  | lzRtdMean (t : Nat) (n : Fin 4)
  /-- LZ_RX_TIMEOUT (R222). No valid frame arrives for 4 us, and the link returns to ALIGN. -/
  | lzRxTimeout (t : Nat) (n : Fin 4)
  /-- LZ_CFG_WRITE (R221). A write of LZn_CFG; EN = 1 starts training, and a write to gated LNZ wakes it. -/
  | lzCfgWrite (t : Nat) (m : Master) (n : Fin 4) (v : Word)
  /-- LZ_ACAL_GO (R228). A write of LZn_ACAL.GO starts a pair-swap calibration run, or refuses it. -/
  | lzAcalGo (t : Nat) (m : Master) (n : Fin 4) (v : Word)
  /-- LZ_ACAL_END (R228). The third gate ends, and alpha_c and its uncertainty are written and samples resume. -/
  | lzAcalEnd (t : Nat) (n : Fin 4)
  /-- LZ_TAKEOVER (R231). An unlocked standby takes over ACTIVE after its ALIVE silence or WAIT expires. -/
  | lzTakeover (t : Nat) (n : Fin 4)
  /-- LZ_ERRCNT_READ (R217). A read of LZn_ERRCNT returns the discard count and clears it. -/
  | lzErrcntRead (t : Nat) (m : Master) (n : Fin 4)
  /-- TOK_SQ_DOORBELL (R236). A write of TOK_SQq_TAIL announces descriptors and wakes a gated TOK. -/
  | tokSqDoorbell (t : Nat) (m : Master) (q : Fin 4) (v : Word)
  /-- TOK_DESC_FETCH (R236). The engine fetches the next descriptor of a ring, advancing its head. -/
  | tokDescFetch (t : Nat) (q : Fin 4) (desc src pre : List Byte) (ok : Bool)
  /-- TOK_ADMIT (R236). A fetched descriptor is admitted once every condition holds, reserving a completion entry and snapshotting keys. -/
  | tokAdmit (t : Nat) (q : Fin 4) (tag : Fin 512)
  /-- NOP (R251). A NOP job, which writes nothing and is stamped. -/
  | nop (t : Nat) (tag : Fin 512) (ecc : Bool)
  /-- NTS_RESPOND (R247). An NTS_RESP job in RESPOND mode, which opens a cookie, checks the request, seals fresh cookies and the response. -/
  | ntsRespond (t : Nat) (tag : Fin 512) (ecc : Bool)
  /-- NTS_KE (R248). An NTS_RESP job in KE mode, which seals fresh cookies from exported keys. -/
  | ntsKe (t : Nat) (tag : Fin 512) (ecc : Bool)
  /-- PTP_AUTH (R249). A PTP_AUTH job, which computes or verifies an HMAC ICV over a PTP message. -/
  | ptpAuth (t : Nat) (tag : Fin 512) (ecc : Bool)
  /-- GCM_SEAL (R250). A GCM_SEAL job, which encrypts text with AES-256-GCM. -/
  | gcmSeal (t : Nat) (tag : Fin 512) (ecc : Bool)
  /-- GCM_OPEN (R250). A GCM_OPEN job, which decrypts and verifies AES-256-GCM text. -/
  | gcmOpen (t : Nat) (tag : Fin 512) (ecc : Bool)
  /-- STAMP (R251). A STAMP job, which writes a time record with NTP and PTP forms. -/
  | stamp (t : Nat) (tag : Fin 512) (ecc : Bool)
  /-- TOK_STAMP_STAGE (R242). A job reaches its stamp stage and takes one time record of its plane. -/
  | tokStampStage (t : Nat) (tag : Fin 512)
  /-- TOK_COMPLETION_WRITE (R241). The engine writes a job's output and then its completion entry with its phase bit, freeing the slot. -/
  | tokCompletionWrite (t : Nat) (tag : Fin 512) (okOut okCpl : Bool)
  /-- TOK_CQ_HEAD_WRITE (R237). A write of TOK_CQq_HEAD frees completion entries, or is ignored with WERR if it passes the tail. -/
  | tokCqHeadWrite (t : Nat) (m : Master) (q : Fin 4) (v : Word)
  /-- TOK_CQ_IRQ_TIMER (R238). TIME us pass since the first unsignalled completion, and the ring signals its vector. -/
  | tokCqIrqTimer (t : Nat) (q : Fin 4)
  /-- TOK_SQ_DISABLE (R259). A write of EN = 0 to a submission ring stops fetching from it. -/
  | tokSqDisable (t : Nat) (m : Master) (q : Fin 4) (v : Word)
  /-- TOK_CQ_DISABLE (R259). A write of EN = 0 to a completion ring aborts its admitted jobs internally. -/
  | tokCqDisable (t : Nat) (m : Master) (q : Fin 4) (v : Word)
  /-- TOK_NTS_KEYS_WRITE (R254). A write of TOK_NTS_KEYS applies to jobs admitted afterwards. -/
  | tokNtsKeysWrite (t : Nat) (m : Master) (v : Word)
  /-- TOK_DVFS_STEP (R258). In AUTO mode the load condition holds for its time, and TOK steps one point up or down. -/
  | tokDvfsStep (t : Nat) (up : Bool)
  /-- TOK_ENTROPY_FAIL (R252). The entropy health test fails, clearing ENTROPY_OK and raising the token engine fault source. -/
  | tokEntropyFail (t : Nat)
  /-- TOK_COUNTER_READ (R260). A read of TOK_KC_WAIT or TOK_ERRS returns its count and clears it. -/
  | tokCounterRead (t : Nat) (m : Master) (c : TokCounter)
  /-- CAPSULE_SUBMIT (R270). A write of GRN_CAP_CTRL.SUBMIT starts the checks, decryption and signature verification of a capsule. -/
  | capsuleSubmit (t : Nat) (m : Master)
  /-- CAPSULE_STAGED (R270). The capsule's verification completes, and RESULT becomes STAGED or a failure code. -/
  | capsuleStaged (t : Nat)
  /-- CAPSULE_COMMIT (R271). Master 3 writes COMMIT, and the Granary writes the commit word, applies the entries and sets UPD_CTR. -/
  | capsuleCommit (t : Nat) (m : Master) (cut : CommitCut)
  /-- GRN_ZEROISE (R276). A write of GRN_CTRL.ZEROISE with CONFIRM 0x5A zeroises the vault. -/
  | grnZeroise (t : Nat) (m : Master) (confirm : Byte)
  /-- GRN_RESEED (R274). A write of GRN_CTRL.RESEED with CONFIRM 0x5A blows a fuse, draws RS and derives a new identity, or is refused. -/
  | grnReseed (t : Nat) (m : Master) (ask : ReseedAsk)
  /-- TAMPER_DETECT (R275). An enabled tamper sensor fires, and the vault zeroises within 20 us. -/
  | tamperDetect (t : Nat) (seen : TamperReading)
  /-- TAMPER_SAMPLE (R275). In KEEP, every 125 ms tamper sensors 0 to 6 are sampled. -/
  | tamperSample (t : Nat) (readings : Vector Int 7)
  /-- MB_TX_WRITE (R285). A write of MBn_TX adds a word to the outbound queue, testing space at a header and committing at the last word. -/
  | mbTxWrite (t : Nat) (m : Master) (n : Fin 16) (v : Word)
  /-- MB_RX_READ (R286). A read of MBn_RX pops one inbound word, or sets RX_UNDER when none waits. -/
  | mbRxRead (t : Nat) (m : Master) (n : Fin 16)
  /-- MB_LOCK_READ (R283). A read of MBn_LOCK acquires the semaphore or reports its holder. -/
  | mbLockRead (t : Nat) (m : Master) (n : Fin 16)
  /-- MB_LOCK_WRITE (R283). A write of MBn_LOCK by the holder releases the semaphore. -/
  | mbLockWrite (t : Nat) (m : Master) (n : Fin 16) (v : Word)
  /-- MB_BIND_WRITE (R281). A write of MBn_BIND rebinds a channel's ends, or is ignored with WERR. -/
  | mbBindWrite (t : Nat) (m : Master) (n : Fin 16) (v : Word)
  /-- MB_ENDRST (R289). A write of MBn_CTRL.ENDRST performs an end reset of the writing end. -/
  | mbEndrst (t : Nat) (m : Master) (n : Fin 16) (v : Word)
  /-- MB_TMO_EXPIRE (R288). An outbound queue holds committed words for MS ms without a read, setting TX_TMO. -/
  | mbTmoExpire (t : Nat) (n : Fin 16) (i : Fin 2)
  /-- VERSION (R294). Keeper request for its version, image, fallback reason and uptime. -/
  | version (t : Nat) (n : Fin 16)
  /-- GET_CERT (R294). Keeper request for parts of the identity certificate. -/
  | getCert (t : Nat) (n : Fin 16)
  /-- ATTEST (R294). Keeper request for an attestation signature over a nonce under the identity key. -/
  | attest (t : Nat) (n : Fin 16)
  /-- LOAD_YACOR (R294). Keeper request to load, verify and optionally start a program from boot flash. -/
  | loadYacor (t : Nat) (n : Fin 16)
  /-- BOOT_SELECT (R294). Keeper request to set the keeper image for the next start-up. -/
  | bootSelect (t : Nat) (n : Fin 16)
  /-- FAULT_RECORD (R294). Keeper request for its record of a fault reaction's software half. -/
  | faultRecord (t : Nat) (n : Fin 16) (record : Option (List Word))
  /-- KEEPER_LOAD (R294). Keeper request for its load, classes shed and DVFS point. -/
  | keeperLoad (t : Nat) (n : Fin 16)
  /-- TELEMETRY (R294). Keeper request for the latest telemetry sample. -/
  | telemetry (t : Nat) (n : Fin 16)
  /-- REFIT_NOW (R294). Keeper request to refit and load the drift model at once. -/
  | refitNow (t : Nat) (n : Fin 16) (result : List Word)
  /-- LOG_READ (R294). Keeper request for keeper log words from a cursor. -/
  | logRead (t : Nat) (n : Fin 16) (words : List Word) (cursor : Word)
  /-- UNKNOWN_TYPE (R294). A keeper request of any other type, answered with UNKNOWN_TYPE. -/
  | unknownType (t : Nat) (n : Fin 16)
  /-- FLASH_READ (R370). Recovery service request to read 13 flash words. -/
  | flashRead (t : Nat) (n : Fin 16)
  /-- FLASH_ERASE (R370). Recovery service request to erase a 4 KiB flash sector. -/
  | flashErase (t : Nat) (n : Fin 16)
  /-- FLASH_WRITE (R370). Recovery service request to write words to flash. -/
  | flashWrite (t : Nat) (n : Fin 16)
  /-- RECOVERY_REBOOT (R370). Recovery service request to restart the MCP under the boot order. -/
  | recoveryReboot (t : Nat) (n : Fin 16)
  /-- KEEPER_REFIT (R84). Every 100 s, or 200 s under overload, the keeper refits and loads the drift model. -/
  | keeperRefit (t : Nat)
  /-- TELEMETRY_SAMPLE (R295). Every 100 ms, or 200 ms under overload, the keeper samples telemetry. -/
  | telemetrySample (t : Nat) (tja tjb core dvs ana : Word)
  /-- KEEPER_LOAD_WINDOW (R296). A 10 ms load window ends, and the keeper adjusts its DVFS point or sheds classes. -/
  | keeperLoadWindow (t : Nat) (load : Nat)
  /-- KEEPER_BEAT (R297). Every 10 ms the keeper increments MB_KEEPER.BEAT. -/
  | keeperBeat (t : Nat)
  /-- FAULT_DETECT (R302). A fault source fires, and the collector records it at its effective level or as a masked consequence and starts its reaction. -/
  | faultDetect (t : Nat) (src : Fin 64) (inst : Byte) (cap : Option BusCapture)
  /-- REACTION_END (R301). A reaction completes, such as the release of an island or MGT reset. -/
  | reactionEnd (t : Nat) (src : Fin 64) (inst : Byte)
  /-- MASK_WINDOW_END (R306). A masking window closes after its reaction's duration plus 2 us. -/
  | maskWindowEnd (t : Nat) (src : Fin 64) (inst : Byte)
  /-- FAULT_GRACE_EXPIRE (R303). An L3 fault stays open for FLT_GRACE and escalates to L4. -/
  | faultGraceExpire (t : Nat) (src : Fin 64) (inj : Bool)
  /-- FAULT_RECOVERY (R304). The quiet timer reaches FLT_QUIET, closing every open fault and returning FLT_LEVEL to L0. -/
  | faultRecovery (t : Nat)
  /-- FLT_ACK (R305). A write of FLT_ACK closes sources' open faults and clears their STATUS bits. -/
  | fltAck (t : Nat) (m : Master) (hi : Bool) (v : Word)
  /-- FLT_INJECT (R308). A write of FLT_INJECT.GO fires a source as an injected fault, with optional reaction and level action. -/
  | fltInject (t : Nat) (m : Master) (v : Word)
  /-- FLT_REARM (R309). A write of FLT_FIRST.REARM clears the first-error capture. -/
  | fltRearm (t : Nat) (m : Master)
  /-- FLT_SWRAISE (R299). Master 3 writes FLT_SWRAISE, raising source 63 with a detail. -/
  | fltSwraise (t : Nat) (m : Master) (v : Word)
  /-- ALIVE_TOGGLE (R310). Every 500 us of the device timescale ALIVE toggles while enabled and below L4. -/
  | aliveToggle (t : Nat)
  /-- COAL_HOLD_EXPIRE (R316). A log source's coalescing hold ends, and its pending record is written as a coalesced entry. -/
  | coalHoldExpire (t : Nat) (src : Nat)
  /-- GLEANER_MOVE (R317). The Gleaner moves an on-chip entry to the host ring when room allows. -/
  | gleanerMove (t : Nat) (ok : Bool)
  /-- EVR_HOST_IRQ_TIMER (R317). The host ring's interrupt moderation time expires and the ring signals. -/
  | evrHostIrqTimer (t : Nat)
  /-- EVR_ENTRY_POP (R318). A read of EVR_ENTRY0 while EN is 0 pops the oldest entry into the reader's latch. -/
  | evrEntryPop (t : Nat) (m : Master)
  /-- EVR_COUNTER_READ (R315). A read of EVR_DROP_TRACE, EVR_MERGE_LOG or EVR_MERGE_ALARM returns its count and clears it. -/
  | evrCounterRead (t : Nat) (m : Master) (c : EvrCounter)
  /-- ROSC_CROSSCHECK (R322). A count of ROSC_B over 256 ROSC_A cycles ends and the pair is qualified or fails. -/
  | roscCrosscheck (t : Nat) (count : Nat)
  /-- ROSC_XO_MEASURE (R322). Every 1 ms each ROSC is measured against XO and marked BAD if out of range. -/
  | roscXoMeasure (t : Nat) (a b : Nat)
  /-- MONITOR_WINDOW_END (R323). A privileged island monitor window ends, tripping if the count is out of tolerance. -/
  | monitorWindowEnd (t : Nat) (i : Fin 3) (ratio : Rat)
  /-- CLK_RETURN (R326). A write of CLK_CTRL.RETURN moves an island back to its primary source, or sets WERR. -/
  | clkReturn (t : Nat) (m : Master) (v : Word)
  /-- NP_CLOCK_COAST (R327). A non-privileged island's source fails, and its multiplier coasts. -/
  | npClockCoast (t : Nat) (i : Fin 4)
  /-- NP_CLOCK_RELOCK (R327). A coasting island's source returns, and its multiplier relocks. -/
  | npClockRelock (t : Nat) (i : Fin 4)
  /-- MUX_HANG (R328). A non-privileged mux has not switched after sixteen new-clock cycles, raising ISLAND_HANG. -/
  | muxHang (t : Nat) (i : Fin 4)
  /-- GATE_REQUEST (R329). A request to gate an island, which closes once the handshake is idle. -/
  | gateRequest (t : Nat) (i : Fin 4) (idle : Bool)
  /-- GATE_FORCE (R329). The handshake is not idle after 64 cycles, so the gate closes anyway and FSRC12 is raised. -/
  | gateForce (t : Nat) (g : ForcedGate)
  /-- ISLAND_WAKE (R337). A wake source ungates its island and the device enters LEAN. -/
  | islandWake (t : Nat) (i : Fin 4)
  /-- DVFS_REQUEST (R332). A write of PWR_MGT_DVFS.POINT starts a DVFS step of MGT. -/
  | dvfsRequest (t : Nat) (m : Master) (v : Word)
  /-- DVFS_DONE (R332). A DVFS step ends at 10 us and DVFS_DONE is set. -/
  | dvfsDone (t : Nat) (tok : Bool)
  /-- POWER_STATE_EVAL (R337). At each term change and every 1 us the power manager chooses the deepest state the horizon allows. -/
  | powerStateEval (t : Nat)
  /-- KEEPER_TIMER_EXPIRE (R336). PWR_KTIMER counts down to its expiry, waking MGT. -/
  | keeperTimerExpire (t : Nat)
  /-- SHED_ENTER (R338). A rail stays below a stage threshold for 1 us, and the stage is entered. -/
  | shedEnter (t : Nat) (rail : Fin 3) (mv : Nat)
  /-- SHED_EXIT (R338). Every rail stays above the threshold plus hysteresis for EXIT, and the stage is left. -/
  | shedExit (t : Nat) (core dvs ana : Nat)
  /-- BROWN_OUT (R342). A rail stays below its brown-out threshold for 1 us, which records BROWNOUT and resets the device. -/
  | brownOut (t : Nat) (rail : Fin 3) (mv : Nat)
  /-- GPIO_INPUT_CHANGE (R344). A GPIO input stays stable for its filter time, and its level changes. -/
  | gpioInputChange (t : Nat) (g : Fin 16) (level : Bool)
  /-- CAL_GO (R349). A write of CAL_CTRL.GO starts a calibration run, or refuses it with BUSY. -/
  | calGo (t : Nat) (m : Master) (v : Word)
  /-- CAL_ABORT (R352). A write of CAL_CTRL.ABORT ends a run with ABORTED. -/
  | calAbort (t : Nat) (m : Master) (v : Word)
  /-- CAL_PHASE_A_END (R351). Phase A ends and every TDC's histogram is tested, ending the run on failure. -/
  | calPhaseAEnd (t : Nat) (hists : Vector (Vector Nat 32) 25)
  /-- CAL_PHASE_ADVANCE (R350). The settle interval or phase B, C or D of a run completes and the next begins. -/
  | calPhaseAdvance (t : Nat) (d : CalPhase)
  /-- CAL_RUN_END (R350). The run ends, writing the image into the window and releasing the inputs. -/
  | calRunEnd (t : Nat)
  /-- CAL_APPLY_GO (R356). A write of CAL_APPLY.GO validates the window and applies or rejects the image. -/
  | calApplyGo (t : Nat) (m : Master) (v : Word)
  /-- CAL_REVERT (R358). A write of CAL_APPLY.REVERT returns every element to its silicon trim. -/
  | calRevert (t : Nat) (m : Master) (v : Word)
  /-- CAL_IMAGE_WRITE (R355). A write of the image window, which is ignored with WERR during a run. -/
  | calImageWrite (t : Nat) (m : Master) (i : Fin 1024) (v : Word)
  /-- SUPPLIES_GOOD (R392). The main supplies become good, starting the power-up sequence at step 2. -/
  | suppliesGood (t : Nat)
  /-- TRIM_LOAD_DONE (R362). Step 3 ends with fuses and trims loaded and checked, memories cleared and the commit word examined. -/
  | trimLoadDone (t : Nat) (otpOk : Bool)
  /-- BOOTCFG_READ (R365). The QSPI loader reads and validates the boot configuration record. -/
  | bootcfgRead (t : Nat)
  /-- KEEPER_BOOT (R368). The boot ROM tries a keeper image, starting it, falling back or entering the recovery service. -/
  | keeperBoot (t : Nat) (readA readB : Bool)
  /-- MAIN_SUPPLY_LOSS (R18). The main supplies fall away and the AON island enters KEEP on VBAT. -/
  | mainSupplyLoss (t : Nat)
  /-- SOFT_RESET_WARM (R372). SOFT_RESET.WARM with the key starts a warm reset, or is refused. -/
  | softResetWarm (t : Nat) (m : Master) (key : Byte)
  /-- WARM_RESET_RELEASE (R372). At 20 us the held islands are released and engines with WARMRUN start. -/
  | warmResetRelease (t : Nat)
  /-- SOFT_RESET_COLD (R371). SOFT_RESET.COLD with the key restarts the device at step 2. -/
  | softResetCold (t : Nat) (m : Master) (key : Byte)
  /-- SOFT_RESET_RECOVER (R370). SOFT_RESET.RECOVER with the key restarts the MCP into the recovery service. -/
  | softResetRecover (t : Nat) (m : Master) (key : Byte)
  /-- HIF_RESET (R380). PERST_N, a Hot Reset, link-down, FLR or HIF ISLAND_RESET resets the host link. -/
  | hifReset (t : Nat) (k : HifReset)
  /-- PCIE_LINK_UP (R377). The PCIe link trains, and HIF serves configuration space and BAR0. -/
  | pcieLinkUp (t : Nat)
  /-- PCIE_MEM_READ (R378). A PCIe memory read of BAR0, split into DW accesses or completed as unsupported. -/
  | pcieMemRead (t : Nat) (addr n : Nat) (locked : Bool)
  /-- PCIE_MEM_WRITE (R378). A PCIe memory write to BAR0, split into DW accesses or discarded as unsupported. -/
  | pcieMemWrite (t : Nat) (addr : Nat) (data : List (Word × Fin 16)) (locked : Bool)
  /-- SPI_READ (R384). An SPI READ frame returns words after wait bytes and a token. -/
  | spiRead (t : Nat) (addr : Word) (n : Nat) (ending : SpiEnd)
  /-- SPI_WRITE (R384). An SPI WRITE frame writes words, holding up to 16. -/
  | spiWrite (t : Nat) (cmd : Byte) (addr : Word) (words : List (Word × Nat)) (cut : Bool)
  /-- SPI_STATUS (R384). An SPI STATUS frame returns WIP, FERR and INT and clears FERR. -/
  | spiStatus (t : Nat) (done : Nat)
  /-- MSIX_SEND (R382). An INT_STAT bit rises while enabled, and HIF sends its MSI-X message or sets its PBA bit. -/
  | msixSend (t : Nat) (v : Fin 64)
  /-- MSIX_UNMASK (R382). A vector with its PBA bit set is unmasked and its message is sent. -/
  | msixUnmask (t : Nat) (m : Master) (v : Fin 64)
  /-- PWR_RAIL_MIN_READ (R346). A read of a PWR_RAIL register returns the lowest sample and restarts it. -/
  | pwrRailMinRead (t : Nat) (m : Master) (rail : Fin 3) (mv low : Nat)
  /-- UNDEFINED_ENCODING (R192). A Yacor engine fetches a word with an undefined encoding, an uncorrectable IMEM error, or runs past word 4095, and traps ILLEGAL, ECC_IMEM or PC_END. -/
  | undefinedEncoding (t : Nat) (e : Fin 4) (ecc : Bool)
  /-- PCIE_CONFIG_WRITE (R379). The host writes PCIe configuration space, changing Bus Master Enable, the D0/D3hot power state or the MSI-X enable and function mask. -/
  | pcieConfigWrite (t : Nat) (busMaster d3 msixOn msixMask : Bool)
  /-- ENTROPY_HEALTH_PASS (R252). The on-die entropy source completes its start-up health test, which sets TOK_STAT.ENTROPY_OK and GRN_STAT.ENTROPY_OK. -/
  | entropyHealthPass (t : Nat)
  /-- VT_MARGIN_RISE (R90). A locked APLL's VCO tuning comes within 10 % of either rail, which sets APLLx_STAT.VT_MARGIN and APLLx_EV.VT_MARGIN. -/
  | vtMarginRise (t : Nat) (x : Fin 2)
  /-- VBAT_LOSS (R277). With the main supplies absent, VBAT falls below retention, so the vault contents are lost and the next start-up finds the vault keyless with cause VBAT_LOSS. -/
  | vbatLoss (t : Nat)
  deriving DecidableEq, Repr

end Sys2Proof
end

