-- ==== Sys2Proof/Decode.lean ====
section
/-!
DEFINITION. The command a word spells. No row of the table gives its command bits: a command is an access or an event, and its
operands come with it. The words that the Yacor engines fetch are decoded in Machine/YeDecode.lean, as part of what a command
does.
-/
namespace Sys2Proof

/-- The command of a row whose bits are `w`: no row gives bits. -/
def decodeTableWord (_nbits _w : Nat) : Option Instr := none

end Sys2Proof
end

