-- ==== Sys2Proof/Config.lean ====
section
/-!
DEFINITION. What a part or a board fixes and the spec leaves open: the free values. Each is an opaque constant, so that no
proof can see what it is; a value drawn afresh each time is a function of the counter `State.draw`.
-/
namespace Sys2Proof.Config

/-- Which way a rounding goes that the spec does not state: at the site numbered `site`, the exact value `x` goes up. -/
opaque roundsUp (site : Nat) (x : Rat) : Bool

/-- The bits of a signed field at the site numbered `site`, where the exact value `x` lies outside its range and the spec
names no saturation. -/
opaque beyondField (site : Nat) (x : Int) : Nat

/-- The time test T3 extrapolates from the last samples, newest first, each an edge count and a position on the
prediction timescale in ps, for the edge with the given count (R30 states no method). -/
opaque extrapolate (last : List (Nat × Rat)) (ecnt : Nat) : Rat

/-- TIME field of the word in which a PTP_SW result reports its sample (R21 and R25 lay out no such word). -/
opaque swPhaseTime (at_ : Nat) (offset : Int) : Nat

/-- Starting value of a restarted shadow loop's integrator and third pole (R64 states none). -/
opaque shadowSeed (draw : Nat) : Rat

/-- Mean of the holdover history where it holds no record to average (R58 states none). -/
opaque emptyHistory (draw : Nat) : Rat

/-- A standard deviation is taken over one degree of freedom fewer than its values (R62 and R234 do not say). -/
opaque sampleSpread : Bool

/-- Silicon trims in OTP: GAIN of bin `b` (R96). -/
opaque trimGain (apll b : Nat) : Nat

/-- Silicon trims in OTP: TAP `j` of bin `b` (R96). -/
opaque trimTap (apll b j : Nat) : Nat

/-- A table entry where silicon trim plus delta leaves its width (R357 states no value). -/
opaque trimOverflow (x : Int) : Nat

/-- The band a search selects (R410: not specified). -/
opaque bandFound (draw : Nat) : Nat

/-- Where the delay line and the vernier of TDC `tdc` put an edge that its silicon trim places `fine` ps into a SYS cycle: one of 32
bins, and how far through it (R350, R357: the silicon trims' own bin edges are not stated). -/
opaque tdcCode (tdc fine : Nat) : Nat × Rat

/-- The mean of a bank TDC's gate under calibrated bin edges, in 1/64 ps, where it is `mean` under the silicon trim (R357: the bins
of its edges are not stated). -/
opaque tableMean (tdc : Nat) (edges : List Nat) (mean : Int) : Int

/-- The part is a CL-6416-BL, and not a CL-6416-BE (R2, GLOBAL_ID.VARIANT in OTP). -/
opaque partBL : Bool

/-- How long before the instant 0 the triangle of an island's spread last stood at 0, in ps (R343 states no phase). -/
opaque spreadPhase (island : Nat) : Nat

/-- The 128-bit unique ID in OTP, GRN_UID0 in its lowest word (R264). -/
opaque uid : BitVec 128

/-- Where a link's character boundaries lie within a character of 3.2 ns, in ps of the device timescale (R215: the PHY
multiplier's phase is not stated). -/
opaque charPhase (link : Nat) : Nat

/-- Word `i` of the time record in a link's very first frame, before which no marker has departed (R216 states none). -/
opaque firstTxrec (draw i : Nat) : Word

/-- SEQ and arrival time, in units of 2⁻¹⁶ ns, that a link's frames echo before any marker has arrived (R216 states none). -/
opaque firstEcho (draw : Nat) : Nat × Nat

/-- A 128-bit draw of the on-die entropy source (R252). -/
opaque entropy128 (draw : Nat) : BitVec 128

/-- A 256-bit draw of the on-die entropy source (R265). -/
opaque entropy256 (draw : Nat) : BitVec 256

/-- The next bit that a tamper loop in ACTIVE mode drives (R275: a pseudo-random sequence). -/
opaque tamperBit (draw : Nat) : Bool

/-- The per-message scalar of an ECDSA signature the keeper makes (R294 states none). -/
opaque ecdsaNonce (draw : Nat) : Nat

/-- The boot public key in the boot ROM, its two coordinates (R369). -/
opaque bootKey : Nat × Nat

/-- The identity certificate that the keeper serves (R266 gives its kind and not its bytes). -/
opaque certificate : List (BitVec 8)

/-- The word in which KEEPER_LOAD reports the classes shed: C3 dropped, C2 halved (R294 lays out no such word). -/
opaque classesShed (c3 c2 : Bool) : Word

/-- The residual of a fit in units of 10⁻¹⁵, as TELEMETRY reports it (R294 does not define it). -/
opaque fitResidual (draw : Nat) : Word

/-- Word `i` of a TELEMETRY reply before the keeper has taken its first sample (R294 states none). -/
opaque firstSample (draw i : Nat) : Word

/-- YAC cycles that pass while an engine is stopped, up to a START or STEP (R161: CYC counts them; their number is the board's). -/
opaque idleCycles (draw : Nat) : Nat

/-- The AON real-time count, in seconds, at an instant (R276; its epoch is not stated). -/
opaque realTime (now : Nat) : Nat

/-- The instance that an injected fault of a source with several instances names (R308 and R314 state none but for the sources
that name it themselves). -/
opaque injectedInst (draw : Nat) : Nat

/-- Master, access type and address that an injected bus-type fault captures (R309: no access lies behind it). -/
opaque injectedAccess (draw : Nat) : Fin 16 × Fin 4 × BitVec 64

/-- The instance in the entry that a start-up posts for FLT_PREV, where the source does not fix it (R311: FLT_PREV holds none). -/
opaque previousInst (draw : Nat) : Nat

/-- Access type and address that FSRC38 captures for an SPI frame with no known command (R385, R309: such a frame has neither). -/
opaque badFrame (draw : Nat) : Fin 4 × Nat

end Sys2Proof.Config
end

