-- ==== Sys2Proof/Machine/Regs.lean ====
section
/-!
DEFINITION. The register map as the spec tabulates it: every register and every field of every block (R42, R43, R74, R103,
R104, R135 to R137, R160, R191, R234, R260, R279, R298, R319, R320, R346, R361, R374, R388, R406), with its place, its
access code (R6) and its value after power-on reset. A register's constructor is the spec's name for it; a field's
constructor is the register's name, followed by the field's name where the register has more than one field.
-/
namespace Sys2Proof.Machine

/-- The access codes of R6. `view` marks a field that is computed from other state when it is read, and `latched` a
data register that returns the reading master's latched copy (R27, R150, R160, R318). -/
inductive Acc where
  | ro | rw | rwl | w1c | w1s | wo | rc | view | latched
  deriving DecidableEq, Repr

/-- The clock islands, in the order of the island code of R346, and the blocks that sit outside the islands (R13). -/
inductive Island where
  | aon | sys | out | yac | mgt | tok | hif | lnz
  deriving DecidableEq, Repr

/-- The registers of the device, one constructor per register (a _LO/_HI pair of R8 is one register). -/
inductive Reg where
  /- reference input n (R42) -/
  | INn_CFG
  | INn_TYPE
  | INn_DIV
  | INn_DELAY
  | INn_NOM
  | INn_DELAY_UNC
  | INn_BOUND
  | INn_WANDER
  | INn_NOISE
  | INn_LIMITS
  | INn_HOLDOFF
  | INn_ACT
  | INn_MGATE
  | INn_MAXAGE
  | INn_QUAL
  | INn_QUAL_EV
  | INn_SCORE
  | INn_BASE
  | INn_DIVERG_10
  | INn_DIVERG_100
  | INn_DIVERG_1000
  | INn_MEAS
  | INn_MEAS_FREQ
  | INn_MEAS_PHASE
  | INn_SWPHASE
  /- XO and ATOM measurement, drift model (R43) -/
  | XO_NOM
  | XO_STAT
  | ATOM_CFG
  | ATOM_GATE
  | ATOM_MAXAGE
  | ATOM_MEAS
  | ATOM_FOFF
  | ATOM_PHASE
  | XO_MON
  | MODEL_CTRL
  | MODEL_Y0
  | MODEL_Y1
  | MODEL_Y2
  | MODEL_FITAGE
  | MODEL_AGE
  | MODEL_SPAN
  /- timing plane n (R74) -/
  | PLn_CTRL
  | PLn_STATE
  | PLn_REFSEL
  | PLn_BW
  | PLn_LOOP
  | PLn_LOCK
  | PLn_UNLOCK
  | PLn_UPD
  | PLn_FREQ
  | PLn_PHASE_ERR
  | PLn_SHADOW_CAND
  | PLn_CANDMASK
  | PLn_SHADOW_STAT
  | PLn_SHADOW_OFFSET
  | PLn_COMMIT
  | PLn_PBO
  | PLn_RSUM
  | PLn_STEER
  | PLn_STEER_BOUND
  | PLn_SLOPE
  | PLn_FMAX
  | PLn_HO_CFG
  | PLn_HOY
  | PLn_HOD_ASSIST
  | PLn_HOD_DEGR
  | PLn_HOD_XO
  | PLn_HO_AGE
  | PLn_TEB
  | PLn_EV
  /- APLL x (0 A, 1 B) (R103) -/
  | APLLx_CTRL
  | APLLx_STAT
  | APLLx_N
  | APLLx_NUM
  | APLLx_DEN
  | APLLx_DEP
  | APLLx_PHERR
  | APLLx_EV
  | APLLx_TEMP
  | APLLx_TRIM_CTRL
  | APLLx_SWAP_OK
  | APLLx_SWAP_DONE
  | APLLx_XPH
  /- DTC gain trim; index 16x + b (R103) -/
  | APLLx_GAIN
  /- tap position trim; index 256x + 16b + j (R103) -/
  | APLLx_TAP
  /- output n (R135) -/
  | OUTn_CFG
  | OUTn_SRC
  | OUTn_INT
  | OUTn_NUM
  | OUTn_DEN
  | OUTn_S_INT
  | OUTn_S_NUM
  | OUTn_S_DEN
  | OUTn_PHASE
  | OUTn_PHASE_NOW
  | OUTn_SLEW
  | OUTn_MINPER
  | OUTn_DELAY
  | OUTn_DELAY_UNC
  | OUTn_PRIO
  | OUTn_STAT
  | OUTn_EV
  | OUTn_CMD
  | OUTn_TPER
  | OUTn_PW
  | OUTn_EDGEADJ
  /- bank b (R136) -/
  | OBb_STAT
  | OBb_BTSEL
  | OBb_BTMEAS
  | OBb_BTERR
  | OBb_BTMISS
  | OBb_BTLIM
  | OBb_EV
  /- sheaf k (R137) -/
  | SHk_MEMBERS
  | SHk_AT_S
  | SHk_AT_NS
  | SHk_DPHASE
  | SHk_CMD
  | SHk_STAT
  | SHk_DONE_AT_S
  | SHk_DONE_AT_NS
  | SHk_EV
  /- time of day and error bound of plane p (R160) -/
  | TODp_REC
  | TODp_SET_S
  | TODp_SET_NS
  | TODp_ADJ
  | TODp_CMD
  | TODp_STAT
  | TODp_EV
  | TEBp_TOTAL
  | TEBp_REF
  | TEBp_INP
  | TEBp_LOOP
  | TEBp_SW
  | TEBp_GROW
  | TEBp_CAL
  | TEBp_OUTP
  | TEBp_PROV
  | TEBp_LIMIT
  | TEBp_EV
  /- UTC base and stamp-now (R160) -/
  | UTC_BASE
  | STAMP_NOW
  /- stamp-now record of plane p (R160) -/
  | STAMP_NOW_RECp
  /- leap entry i (R160) -/
  | LEAPi_T
  | LEAPi_NEW
  /- stamp channel j (R160) -/
  | STAMPj_CFG
  | STAMPj_STAT
  | STAMPj_REC
  /- Yacor engine e (R191) -/
  | YEe_CTRL
  | YEe_STAT
  | YEe_EV
  | YEe_PC
  | YEe_ENTRY
  | YEe_TRAP
  | YEe_TRAPCFG
  | YEe_WDOG
  | YEe_BKPT
  | YEe_DETLOSS
  | YEe_CYC
  | YEe_EVPEND
  | YEe_EVOVF
  | YEe_TMR
  | YEe_TMRt_REM
  | YEe_BOOT
  | YEe_SIGLEN
  | YEe_SIGs
  | YEe_Gi
  | YEe_PRED
  /- Yacor common registers (R191) -/
  | YE_SWEV
  | YE_POLICY
  /- Lenuz link n (R234) -/
  | LZn_CFG
  | LZn_STAT
  | LZn_EV
  | LZn_ERRCNT
  | LZn_RTD
  | LZn_RTD_SD
  | LZn_MEAS
  | LZn_OFFSET
  | LZn_PEER_TEB
  | LZn_PEER_PROV
  | LZn_ASYM
  | LZn_ASYM_UNC
  | LZn_LINKTERM
  | LZn_ACAL
  | LZn_ACT
  /- token engine (R260) -/
  | TOK_CTRL
  | TOK_STAT
  | TOK_EV
  | TOK_DVFS
  | TOK_NTS_KEYS
  | TOK_NTS_MAXAGE
  | TOK_KC_WAIT
  | TOK_JOBS
  | TOK_ERRS
  /- submission ring q (R260) -/
  | TOK_SQq_BASE
  | TOK_SQq_CFG
  | TOK_SQq_TAIL
  | TOK_SQq_HEAD
  /- completion ring q (R260) -/
  | TOK_CQq_BASE
  | TOK_CQq_CFG
  | TOK_CQq_HEAD
  | TOK_CQq_TAIL
  | TOK_CQq_IRQ
  /- Granary (R279) -/
  | GRN_STAT
  | GRN_CTRL
  | GRN_VGEN
  | GRN_UPD_CTR
  | GRN_UIDi
  | GRN_TAMP_CFG
  | GRN_TAMP_STAT
  | GRN_ZCOUNT
  | GRN_TAMP_TIME
  | GRN_IDPUBi
  | GRN_CAP_CTRL
  | GRN_CAP_STAT
  | GRN_CAP_LEN
  | GRN_PUB_SEL
  | GRN_PUB_DATAi
  | GRN_CAPWIN
  /- key slot n (R279) -/
  | GRN_SLOTn_META
  | GRN_SLOTn_EPOCH
  /- mailbox channel n (R298) -/
  | MBn_BIND
  | MBn_LOCK
  | MBn_TX
  | MBn_RX
  | MBn_STAT
  | MBn_EV
  | MBn_CTRL
  | MBn_TMO
  /- mailbox common registers (R298) -/
  | MB_LOCKTAB
  | MB_KEEPER
  /- fault collector (R319) -/
  | FLT_STATUS
  | FLT_ACK
  | FLT_CONSEQ
  | FLT_INJSTAT
  | FLT_LEVEL
  | FLT_CFG
  | FLT_GRACE
  | FLT_QUIET
  | FLT_RECOVERIES
  | FLT_CAPMODE
  | FLT_FIRST
  | FLT_CAP_INFO
  | FLT_CAP_ADDR
  | FLT_CAP_TODw
  | FLT_INJECT
  | FLT_MASK
  | FLT_LVLi
  | FLT_PREV
  | FLT_SWRAISE
  /- level of fault source n (FLT_LVL0 to FLT_LVL7, nibble n) (R319) -/
  | FLT_LVL
  /- alarm output a (R319) -/
  | FLT_ALMa_MASK
  | FLT_ALMa_CFG
  /- Gleaner and event ring (R320) -/
  | EVR_CTRL
  | EVR_STAT
  | EVR_COAL
  | EVR_TRACE_RSV
  | EVR_DROP_TRACE
  | EVR_MERGE_LOG
  | EVR_MERGE_ALARM
  | EVR_HBASE
  | EVR_HCFG
  | EVR_HHEAD
  | EVR_HTAIL
  | EVR_HIRQ
  | EVR_ENTRY
  /- clock and power controller (R346) -/
  | CLK_STAT
  | CLK_NMI
  | CLK_CTRL
  | CLK_GATE
  | CLK_ROSC
  | PWR_STATE
  | PWR_HORIZON
  | PWR_KTIMER
  | PWR_TOKCAP
  | PWR_MGT_DVFS
  | PWR_EV
  | SHED_STATE
  | PWR_SHED_CFG
  /- supply rail reading (0 VDD_CORE, 1 VDD_DVS, 2 VDD_ANA) (R346) -/
  | PWR_RAIL
  /- GPIO glitch filter g (R346) -/
  | PWR_GPIO_FILTg
  /- board calibration (R361) -/
  | CAL_CTRL
  | CAL_STATE
  | CAL_APPLY
  | CAL_EV
  | CAL_GEN
  | CAL_BOARDIDi
  | CAL_DTC
  | CAL_IMAGE
  /- identity, interrupts, start-up and reset (R374) -/
  | GLOBAL_ID
  | GLOBAL_MAP
  | DEV_STATE
  | RESET_CAUSE
  | SOFT_RESET
  | BOOT_STAT
  | INT_STAT
  | INT_EN
  | INT_SPI_EN
  /- GPIO g (R406) -/
  | GPIO_FUNCg
  deriving DecidableEq, Repr

/-- The fields of the registers. -/
inductive Field where
  | INn_CFG_EN | INn_CFG_MODE | INn_CFG_TERM | INn_CFG_ACBIAS | INn_CFG_EDGE | INn_CFG_VTH | INn_CFG_GLITCH | INn_CFG_PRED_PL | INn_CFG_REANCHOR
  | INn_TYPE
  | INn_DIV
  | INn_DELAY
  | INn_NOM
  | INn_DELAY_UNC
  | INn_BOUND
  | INn_WANDER
  | INn_NOISE
  | INn_LIMITS_FWIN | INn_LIMITS_PSTEP
  | INn_HOLDOFF
  | INn_ACT
  | INn_MGATE
  | INn_MAXAGE
  | INn_QUAL_GRADE | INn_QUAL_FREQ_FAIL | INn_QUAL_STEP_SUSP | INn_QUAL_STEP_BAD | INn_QUAL_DRIFT_SUSP | INn_QUAL_DRIFT_BAD | INn_QUAL_OVERRATE | INn_QUAL_RECONFIG | INn_QUAL_CAL | INn_QUAL_HOLDING | INn_QUAL_PRED_XO | INn_QUAL_STEPS | INn_QUAL_NOM_ZERO
  | INn_QUAL_EV
  | INn_SCORE_S10 | INn_SCORE_S100 | INn_SCORE_S1000 | INn_SCORE_RDY
  | INn_BASE
  | INn_DIVERG_10
  | INn_DIVERG_100
  | INn_DIVERG_1000
  | INn_MEAS_SEQ | INn_MEAS_VALID | INn_MEAS_STALE
  | INn_MEAS_FREQ
  | INn_MEAS_PHASE
  | INn_SWPHASE
  | XO_NOM
  | XO_STAT_COARSE | XO_STAT_FINE | XO_STAT_COARSE_ERR | XO_STAT_FINE_ERR
  | ATOM_CFG_TYPE | ATOM_CFG_TERM | ATOM_CFG_GLITCH
  | ATOM_GATE
  | ATOM_MAXAGE
  | ATOM_MEAS_SEQ | ATOM_MEAS_VALID | ATOM_MEAS_PRESENT | ATOM_MEAS_STALE
  | ATOM_FOFF
  | ATOM_PHASE
  | XO_MON_LOST | XO_MON_LOST_EV
  | MODEL_CTRL_LOAD | MODEL_CTRL_CLEAR | MODEL_CTRL_APPLIED | MODEL_CTRL_PENDING | MODEL_CTRL_LOAD_LOST | MODEL_CTRL_OLD | MODEL_CTRL_SEQ
  | MODEL_Y0
  | MODEL_Y1
  | MODEL_Y2
  | MODEL_FITAGE
  | MODEL_AGE
  | MODEL_SPAN
  | PLn_CTRL_EN | PLn_CTRL_MODE | PLn_CTRL_FORCE_HO | PLn_CTRL_AUTOCOMMIT | PLn_CTRL_COMMIT_ON_SUSPECT | PLn_CTRL_ACQ | PLn_CTRL_BLEED
  | PLn_STATE_STATE | PLn_STATE_HIST_VALID | PLn_STATE_SHORT_HIST | PLn_STATE_ANCHORED | PLn_STATE_ASSIST | PLn_STATE_MODEL_OLD | PLn_STATE_FORCED | PLn_STATE_BW_CLAMP | PLn_STATE_FMAX_HIT | PLn_STATE_SLOPE_HIT
  | PLn_REFSEL_SRC | PLn_REFSEL_KEEP
  | PLn_BW
  | PLn_LOOP_DAMP | PLn_LOOP_M
  | PLn_LOCK_LTHR | PLn_LOCK_LTIME
  | PLn_UNLOCK_UTHR | PLn_UNLOCK_UCNT
  | PLn_UPD_SEQ | PLn_UPD_VALID | PLn_UPD_STALE
  | PLn_FREQ
  | PLn_PHASE_ERR
  | PLn_SHADOW_CAND_SRC | PLn_SHADOW_CAND_AUTO
  | PLn_CANDMASK
  | PLn_SHADOW_STAT_RUN | PLn_SHADOW_STAT_READY | PLn_SHADOW_STAT_SRC
  | PLn_SHADOW_OFFSET
  | PLn_COMMIT_BEGIN | PLn_COMMIT_GO | PLn_COMMIT_ABANDON | PLn_COMMIT_FORCE | PLn_COMMIT_PREF | PLn_COMMIT_RESULT | PLn_COMMIT_BUSY
  | PLn_PBO
  | PLn_RSUM
  | PLn_STEER
  | PLn_STEER_BOUND
  | PLn_SLOPE
  | PLn_FMAX
  | PLn_HO_CFG_AVG | PLn_HO_CFG_GUARD
  | PLn_HOY
  | PLn_HOD_ASSIST
  | PLn_HOD_DEGR
  | PLn_HOD_XO
  | PLn_HO_AGE
  | PLn_TEB
  | PLn_EV_STATE_CHG | PLn_EV_REGION_END | PLn_EV_RECALL | PLn_EV_LOCK_LOST | PLn_EV_LIMIT
  | APLLx_CTRL_EN | APLLx_CTRL_REFMUL | APLLx_CTRL_BW | APLLx_CTRL_DITHER | APLLx_CTRL_AUTO_RELOCK | APLLx_CTRL_RELOCK | APLLx_CTRL_BANDSEL_MAN | APLLx_CTRL_BAND
  | APLLx_STAT_STATE | APLLx_STAT_BAND | APLLx_STAT_VT_MARGIN | APLLx_STAT_USERS
  | APLLx_N
  | APLLx_NUM
  | APLLx_DEN
  | APLLx_DEP_DEP_THR | APLLx_DEP_DEP_CNT
  | APLLx_PHERR
  | APLLx_EV_LOCK | APLLx_EV_LOST | APLLx_EV_DEPART | APLLx_EV_SWAPPED | APLLx_EV_VT_MARGIN | APLLx_EV_CFG_ERR
  | APLLx_TEMP
  | APLLx_TRIM_CTRL_FREEZE | APLLx_TRIM_CTRL_SRC | APLLx_TRIM_CTRL_WERR | APLLx_TRIM_CTRL_BIN
  | APLLx_SWAP_OK
  | APLLx_SWAP_DONE
  | APLLx_XPH
  | APLLx_GAIN
  | APLLx_TAP
  | OUTn_CFG_EN | OUTn_CFG_FMT | OUTn_CFG_EDGE | OUTn_CFG_DRIVE | OUTn_CFG_MODE | OUTn_CFG_START | OUTn_CFG_SQ | OUTn_CFG_PMODE | OUTn_CFG_STEPWRAP | OUTn_CFG_TIMEREF | OUTn_CFG_POL
  | OUTn_SRC_APLL | OUTn_SRC_PL
  | OUTn_INT
  | OUTn_NUM
  | OUTn_DEN
  | OUTn_S_INT
  | OUTn_S_NUM
  | OUTn_S_DEN
  | OUTn_PHASE
  | OUTn_PHASE_NOW
  | OUTn_SLEW
  | OUTn_MINPER
  | OUTn_DELAY
  | OUTn_DELAY_UNC
  | OUTn_PRIO_CLASS | OUTn_PRIO_RANK
  | OUTn_STAT_RUN | OUTn_STAT_EARLY | OUTn_STAT_SHED | OUTn_STAT_SLEWING | OUTn_STAT_CATCHUP | OUTn_STAT_PEND | OUTn_STAT_NOAPLL | OUTn_STAT_NOSUPPLY | OUTn_STAT_CFG_ERR
  | OUTn_EV_WERR | OUTn_EV_SRC_REJ | OUTn_EV_SRC_DISC | OUTn_EV_HOP_DONE | OUTn_EV_HOP_FAIL | OUTn_EV_PHASE_DONE | OUTn_EV_SQUELCH | OUTn_EV_START
  | OUTn_CMD_HOP | OUTn_CMD_SYNC | OUTn_CMD_RESTART | OUTn_CMD_STOPSLEW
  | OUTn_TPER
  | OUTn_PW
  | OUTn_EDGEADJ
  | OBb_STAT_SUPPLY | OBb_STAT_VLEVEL
  | OBb_BTSEL_SEL | OBb_BTSEL_EN | OBb_BTSEL_GATE
  | OBb_BTMEAS_SEQ | OBb_BTMEAS_VALID | OBb_BTMEAS_STALE
  | OBb_BTERR
  | OBb_BTMISS
  | OBb_BTLIM
  | OBb_EV_SUPPLY_CHG | OBb_EV_BT_LIMIT | OBb_EV_BT_MISS
  | SHk_MEMBERS
  | SHk_AT_S
  | SHk_AT_NS
  | SHk_DPHASE
  | SHk_CMD_OP | SHk_CMD_SYNC | SHk_CMD_ASAP | SHk_CMD_PL
  | SHk_STAT_STATE | SHk_STAT_RESULT | SHk_STAT_CONFLICT
  | SHk_DONE_AT_S
  | SHk_DONE_AT_NS
  | SHk_EV_DONE | SHk_EV_WERR | SHk_EV_CANCEL_LATE
  | TODp_REC
  | TODp_SET_S
  | TODp_SET_NS
  | TODp_ADJ
  | TODp_CMD
  | TODp_STAT_SEC_VALID | TODp_STAT_PEND | TODp_STAT_UTCV | TODp_STAT_LEAP_PEND | TODp_STAT_LEAP_DEL | TODp_STAT_UTC_OFF
  | TODp_EV_SEC | TODp_EV_STEPPED | TODp_EV_LEAP | TODp_EV_REFUSED
  | TEBp_TOTAL
  | TEBp_REF
  | TEBp_INP
  | TEBp_LOOP
  | TEBp_SW
  | TEBp_GROW
  | TEBp_CAL
  | TEBp_OUTP
  | TEBp_PROV
  | TEBp_LIMIT
  | TEBp_EV_OVER | TEBp_EV_UNDER
  | UTC_BASE_OFF | UTC_BASE_VALID
  | STAMP_NOW
  | STAMP_NOW_RECp
  | LEAPi_T
  | LEAPi_NEW_NEW | LEAPi_NEW_VALID
  | STAMPj_CFG_EN | STAMPj_CFG_SRC | STAMPj_CFG_PL | STAMPj_CFG_DIV
  | STAMPj_STAT_COUNT | STAMPj_STAT_OVF | STAMPj_STAT_LOST
  | STAMPj_REC
  | YEe_CTRL_START | YEe_CTRL_HALT | YEe_CTRL_STEP | YEe_CTRL_RESET | YEe_CTRL_VERIFY | YEe_CTRL_NOSLEEP
  | YEe_STAT_STATE | YEe_STAT_LATE | YEe_STAT_SIG | YEe_STAT_SIGREQ | YEe_STAT_RSTCNT | YEe_STAT_HREASON
  | YEe_EV_TRAP | YEe_EV_HALTED | YEe_EV_SIG_DONE | YEe_EV_WERR | YEe_EV_START_REJ | YEe_EV_LATE | YEe_EV_RESTART | YEe_EV_DEV_TMO
  | YEe_PC
  | YEe_ENTRY
  | YEe_TRAP_CAUSE | YEe_TRAP_PC
  | YEe_TRAPCFG_POLICY | YEe_TRAPCFG_MAXRST
  | YEe_WDOG
  | YEe_BKPT_PC | YEe_BKPT_EN
  | YEe_DETLOSS_COUNT | YEe_DETLOSS_MAXOVER
  | YEe_CYC
  | YEe_EVPEND
  | YEe_EVOVF
  | YEe_TMR_RUN | YEe_TMR_PEND | YEe_TMR_PERIODIC
  | YEe_TMRt_REM
  | YEe_BOOT
  | YEe_SIGLEN_IMEM_WORDS | YEe_SIGLEN_DMEM_WORDS
  | YEe_SIGs
  | YEe_Gi
  | YEe_PRED
  | YE_SWEV_SW0 | YE_SWEV_SW1
  | YE_POLICY_SIGN_REQ | YE_POLICY_LOCK | YE_POLICY_SIGSLOT
  | LZn_CFG_EN | LZn_CFG_ROLE | LZn_CFG_PL | LZn_CFG_TXDRV | LZn_CFG_RXEQ | LZn_CFG_ALIVE_SEL
  | LZn_STAT_STATE | LZn_STAT_SWAPPED | LZn_STAT_ACTIVE | LZn_STAT_PEER_ACTIVE | LZn_STAT_LOOP | LZn_STAT_RANGE | LZn_STAT_PEER_ROLE
  | LZn_EV_STATE_CHG | LZn_EV_PEER_STEP | LZn_EV_ACAL_DONE | LZn_EV_TAKEOVER
  | LZn_ERRCNT
  | LZn_RTD
  | LZn_RTD_SD
  | LZn_MEAS_SEQ | LZn_MEAS_VALID | LZn_MEAS_STALE
  | LZn_OFFSET
  | LZn_PEER_TEB
  | LZn_PEER_PROV
  | LZn_ASYM
  | LZn_ASYM_UNC
  | LZn_LINKTERM
  | LZn_ACAL_GO | LZn_ACAL_RESULT | LZn_ACAL_GATE
  | LZn_ACT_PRIO | LZn_ACT_TAKEOVER_EN | LZn_ACT_YIELD | LZn_ACT_WAIT
  | TOK_CTRL
  | TOK_STAT_INFLIGHT | TOK_STAT_ENTROPY_OK | TOK_STAT_STOP | TOK_STAT_KC_USED | TOK_STAT_KC_PINNED
  | TOK_EV_WERR | TOK_EV_DMA_ERR | TOK_EV_ECC | TOK_EV_ENTROPY_FAIL | TOK_EV_SCRUB
  | TOK_DVFS_MODE | TOK_DVFS_POINT | TOK_DVFS_CUR
  | TOK_NTS_KEYS_CUR | TOK_NTS_KEYS_PREV | TOK_NTS_KEYS_PREV_EN
  | TOK_NTS_MAXAGE
  | TOK_KC_WAIT
  | TOK_JOBS
  | TOK_ERRS
  | TOK_SQq_BASE
  | TOK_SQq_CFG_EN | TOK_SQq_CFG_SIZE | TOK_SQq_CFG_CQ | TOK_SQq_CFG_WEIGHT
  | TOK_SQq_TAIL
  | TOK_SQq_HEAD
  | TOK_CQq_BASE
  | TOK_CQq_CFG_EN | TOK_CQq_CFG_SIZE | TOK_CQq_CFG_IRQ_EN
  | TOK_CQq_HEAD
  | TOK_CQq_TAIL_TAIL | TOK_CQq_TAIL_PHASE
  | TOK_CQq_IRQ_COUNT | TOK_CQq_IRQ_TIME
  | GRN_STAT_KEYLESS | GRN_STAT_CLAIMED | GRN_STAT_TAMPER_AT_BOOT | GRN_STAT_TAMPER_IN_KEEP | GRN_STAT_AON_FINISHED | GRN_STAT_VGEN_EXH | GRN_STAT_ENTROPY_OK
  | GRN_CTRL_ZEROISE | GRN_CTRL_RESEED | GRN_CTRL_RFAIL | GRN_CTRL_CONFIRM
  | GRN_VGEN
  | GRN_UPD_CTR
  | GRN_UIDi
  | GRN_TAMP_CFG_EN | GRN_TAMP_CFG_ACTIVE | GRN_TAMP_CFG_LEVEL | GRN_TAMP_CFG_LOCK
  | GRN_TAMP_STAT_SENSOR | GRN_TAMP_STAT_CAUSE
  | GRN_ZCOUNT
  | GRN_TAMP_TIME
  | GRN_IDPUBi
  | GRN_CAP_CTRL_SUBMIT | GRN_CAP_CTRL_COMMIT
  | GRN_CAP_STAT_RESULT | GRN_CAP_STAT_WERR
  | GRN_CAP_LEN
  | GRN_PUB_SEL
  | GRN_PUB_DATAi
  | GRN_CAPWIN
  | GRN_SLOTn_META_USAGE | GRN_SLOTn_META_LOCK | GRN_SLOTn_META_YPAR
  | GRN_SLOTn_EPOCH
  | MBn_BIND_END0 | MBn_BIND_END1
  | MBn_LOCK
  | MBn_TX
  | MBn_RX
  | MBn_STAT
  | MBn_EV
  | MBn_CTRL
  | MBn_TMO
  | MB_LOCKTAB
  | MB_KEEPER_LOAD | MB_KEEPER_OVERLOAD | MB_KEEPER_C3_DROPPED | MB_KEEPER_C2_HALVED | MB_KEEPER_POINT | MB_KEEPER_BEAT
  | FLT_STATUS
  | FLT_ACK
  | FLT_CONSEQ
  | FLT_INJSTAT
  | FLT_LEVEL_LEVEL | FLT_LEVEL_GRACE_RUN | FLT_LEVEL_QUIET_RUN
  | FLT_CFG_PIN_LVL | FLT_CFG_ALIVE_EN | FLT_CFG_PL | FLT_CFG_LOCK
  | FLT_GRACE
  | FLT_QUIET
  | FLT_RECOVERIES
  | FLT_CAPMODE
  | FLT_FIRST_SRC | FLT_FIRST_VALID | FLT_FIRST_OVF | FLT_FIRST_INJ | FLT_FIRST_REARM
  | FLT_CAP_INFO_MASTER | FLT_CAP_INFO_ACCESS | FLT_CAP_INFO_SRC | FLT_CAP_INFO_VALID
  | FLT_CAP_ADDR
  | FLT_CAP_TODw
  | FLT_INJECT_SRC | FLT_INJECT_REACT | FLT_INJECT_LVLACT | FLT_INJECT_GO | FLT_INJECT_ISLAND
  | FLT_MASK
  | FLT_LVLi
  | FLT_PREV_SRC | FLT_PREV_LEVEL | FLT_PREV_VALID
  | FLT_SWRAISE
  | FLT_LVL
  | FLT_ALMa_MASK
  | FLT_ALMa_CFG_LVL | FLT_ALMa_CFG_EN | FLT_ALMa_CFG_POL
  | EVR_CTRL_PL | EVR_CTRL_TRACE
  | EVR_STAT_COUNT | EVR_STAT_ALM
  | EVR_COAL
  | EVR_TRACE_RSV
  | EVR_DROP_TRACE
  | EVR_MERGE_LOG
  | EVR_MERGE_ALARM
  | EVR_HBASE
  | EVR_HCFG_EN | EVR_HCFG_SIZE | EVR_HCFG_IRQ_EN
  | EVR_HHEAD
  | EVR_HTAIL_TAIL | EVR_HTAIL_PHASE
  | EVR_HIRQ_COUNT | EVR_HIRQ_TIME
  | EVR_ENTRY
  | CLK_STAT_FB | CLK_STAT_PRIM_OK | CLK_STAT_COAST | CLK_STAT_ROSC_QUAL | CLK_STAT_ROSCA_BAD | CLK_STAT_ROSCB_BAD | CLK_STAT_TB_ROSC
  | CLK_NMI_CAUSE | CLK_NMI_ISLAND | CLK_NMI_VALID
  | CLK_CTRL_RETURN | CLK_CTRL_OUT_APLL | CLK_CTRL_SSC
  | CLK_GATE_GATED | CLK_GATE_FORCED | CLK_GATE_ISLAND
  | CLK_ROSC_FA | CLK_ROSC_FB
  | PWR_STATE_STATE | PWR_STATE_MAX
  | PWR_HORIZON_H | PWR_HORIZON_TERM
  | PWR_KTIMER
  | PWR_TOKCAP
  | PWR_MGT_DVFS_POINT | PWR_MGT_DVFS_CUR | PWR_MGT_DVFS_BUSY
  | PWR_EV_STATE_CHG | PWR_EV_SHED_CHG | PWR_EV_DVFS_DONE | PWR_EV_WERR
  | SHED_STATE_STAGE | SHED_STATE_RAIL | SHED_STATE_SHED3_CNT
  | PWR_SHED_CFG_STEP | PWR_SHED_CFG_EXIT | PWR_SHED_CFG_LOCK
  | PWR_RAIL_MV | PWR_RAIL_MIN
  | PWR_GPIO_FILTg
  | CAL_CTRL_GO | CAL_CTRL_ABORT | CAL_CTRL_STIM | CAL_CTRL_HITS | CAL_CTRL_MAXDEV
  | CAL_STATE_APPLY | CAL_STATE_RUN | CAL_STATE_READY | CAL_STATE_PHASE | CAL_STATE_ERR | CAL_STATE_FAILTDC | CAL_STATE_PENDING
  | CAL_APPLY_GO | CAL_APPLY_REVERT | CAL_APPLY_STEP_OK
  | CAL_EV_DONE | CAL_EV_ACCEPT | CAL_EV_REJECT | CAL_EV_APPLIED | CAL_EV_WERR
  | CAL_GEN
  | CAL_BOARDIDi
  | CAL_DTC_OUT_A | CAL_DTC_EN_A | CAL_DTC_OUT_B | CAL_DTC_EN_B
  | CAL_IMAGE
  | GLOBAL_ID_PART | GLOBAL_ID_REV | GLOBAL_ID_VARIANT
  | GLOBAL_MAP
  | DEV_STATE_TIMING | DEV_STATE_KEEPER | DEV_STATE_WARM | DEV_STATE_ROSC_UNQUAL | DEV_STATE_ERR
  | RESET_CAUSE_POR | RESET_CAUSE_BOR | RESET_CAUSE_COLD | RESET_CAUSE_WARM
  | SOFT_RESET_WARM | SOFT_RESET_COLD | SOFT_RESET_RECOVER | SOFT_RESET_KEY | SOFT_RESET_REFUSED
  | BOOT_STAT_IMAGE | BOOT_STAT_FALLBACK | BOOT_STAT_PREF | BOOT_STAT_CFG_COPY | BOOT_STAT_CFG_VALID
  | INT_STAT
  | INT_EN
  | INT_SPI_EN
  | GPIO_FUNCg_FUNC | GPIO_FUNCg_IN
  deriving DecidableEq, Repr

/-- How the words of a register are reached: one word; a _LO/_HI pair committed whole (R8); a pair whose halves are
cleared on their own (R100, R191); or a run of words, each read on its own. -/
inductive Shape where
  | word | pair | halves | run (words : Nat)
  deriving DecidableEq, Repr

/-- Where a register stands: byte address of instance 0, distance of the instances, their number, and the words. -/
structure Place where
  base : Nat
  stride : Nat
  count : Nat
  shape : Shape
  deriving DecidableEq, Repr

/-- The place of each register: block base plus offset (the blocks of R388). -/
def Reg.place : Reg → Place
  | .INn_CFG => ⟨0x40000, 0x400, 16, .word⟩
  | .INn_TYPE => ⟨0x40004, 0x400, 16, .word⟩
  | .INn_DIV => ⟨0x40008, 0x400, 16, .word⟩
  | .INn_DELAY => ⟨0x4000c, 0x400, 16, .word⟩
  | .INn_NOM => ⟨0x40010, 0x400, 16, .pair⟩
  | .INn_DELAY_UNC => ⟨0x40018, 0x400, 16, .word⟩
  | .INn_BOUND => ⟨0x4001c, 0x400, 16, .word⟩
  | .INn_WANDER => ⟨0x40020, 0x400, 16, .word⟩
  | .INn_NOISE => ⟨0x40024, 0x400, 16, .word⟩
  | .INn_LIMITS => ⟨0x40028, 0x400, 16, .word⟩
  | .INn_HOLDOFF => ⟨0x4002c, 0x400, 16, .word⟩
  | .INn_ACT => ⟨0x40030, 0x400, 16, .word⟩
  | .INn_MGATE => ⟨0x40034, 0x400, 16, .word⟩
  | .INn_MAXAGE => ⟨0x40038, 0x400, 16, .word⟩
  | .INn_QUAL => ⟨0x40040, 0x400, 16, .word⟩
  | .INn_QUAL_EV => ⟨0x40044, 0x400, 16, .word⟩
  | .INn_SCORE => ⟨0x40048, 0x400, 16, .word⟩
  | .INn_BASE => ⟨0x4004c, 0x400, 16, .word⟩
  | .INn_DIVERG_10 => ⟨0x40050, 0x400, 16, .word⟩
  | .INn_DIVERG_100 => ⟨0x40054, 0x400, 16, .word⟩
  | .INn_DIVERG_1000 => ⟨0x40058, 0x400, 16, .word⟩
  | .INn_MEAS => ⟨0x40060, 0x400, 16, .word⟩
  | .INn_MEAS_FREQ => ⟨0x40068, 0x400, 16, .pair⟩
  | .INn_MEAS_PHASE => ⟨0x40070, 0x400, 16, .pair⟩
  | .INn_SWPHASE => ⟨0x40080, 0x400, 16, .pair⟩
  | .XO_NOM => ⟨0x48000, 0x0, 1, .word⟩
  | .XO_STAT => ⟨0x48004, 0x0, 1, .word⟩
  | .ATOM_CFG => ⟨0x48010, 0x0, 1, .word⟩
  | .ATOM_GATE => ⟨0x48014, 0x0, 1, .word⟩
  | .ATOM_MAXAGE => ⟨0x48018, 0x0, 1, .word⟩
  | .ATOM_MEAS => ⟨0x48020, 0x0, 1, .word⟩
  | .ATOM_FOFF => ⟨0x48028, 0x0, 1, .pair⟩
  | .ATOM_PHASE => ⟨0x48030, 0x0, 1, .pair⟩
  | .XO_MON => ⟨0x48060, 0x0, 1, .word⟩
  | .MODEL_CTRL => ⟨0x48080, 0x0, 1, .word⟩
  | .MODEL_Y0 => ⟨0x48088, 0x0, 1, .pair⟩
  | .MODEL_Y1 => ⟨0x48090, 0x0, 1, .pair⟩
  | .MODEL_Y2 => ⟨0x48098, 0x0, 1, .pair⟩
  | .MODEL_FITAGE => ⟨0x480a0, 0x0, 1, .word⟩
  | .MODEL_AGE => ⟨0x480a4, 0x0, 1, .word⟩
  | .MODEL_SPAN => ⟨0x480a8, 0x0, 1, .word⟩
  | .PLn_CTRL => ⟨0x50000, 0x1000, 4, .word⟩
  | .PLn_STATE => ⟨0x50004, 0x1000, 4, .word⟩
  | .PLn_REFSEL => ⟨0x50008, 0x1000, 4, .word⟩
  | .PLn_BW => ⟨0x5000c, 0x1000, 4, .word⟩
  | .PLn_LOOP => ⟨0x50010, 0x1000, 4, .word⟩
  | .PLn_LOCK => ⟨0x50014, 0x1000, 4, .word⟩
  | .PLn_UNLOCK => ⟨0x50018, 0x1000, 4, .word⟩
  | .PLn_UPD => ⟨0x50020, 0x1000, 4, .word⟩
  | .PLn_FREQ => ⟨0x50028, 0x1000, 4, .pair⟩
  | .PLn_PHASE_ERR => ⟨0x50030, 0x1000, 4, .pair⟩
  | .PLn_SHADOW_CAND => ⟨0x50038, 0x1000, 4, .word⟩
  | .PLn_CANDMASK => ⟨0x5003c, 0x1000, 4, .word⟩
  | .PLn_SHADOW_STAT => ⟨0x50040, 0x1000, 4, .word⟩
  | .PLn_SHADOW_OFFSET => ⟨0x50048, 0x1000, 4, .pair⟩
  | .PLn_COMMIT => ⟨0x50050, 0x1000, 4, .word⟩
  | .PLn_PBO => ⟨0x50058, 0x1000, 4, .pair⟩
  | .PLn_RSUM => ⟨0x50060, 0x1000, 4, .word⟩
  | .PLn_STEER => ⟨0x50068, 0x1000, 4, .pair⟩
  | .PLn_STEER_BOUND => ⟨0x50070, 0x1000, 4, .word⟩
  | .PLn_SLOPE => ⟨0x50074, 0x1000, 4, .word⟩
  | .PLn_FMAX => ⟨0x50078, 0x1000, 4, .word⟩
  | .PLn_HO_CFG => ⟨0x50080, 0x1000, 4, .word⟩
  | .PLn_HOY => ⟨0x50084, 0x1000, 4, .word⟩
  | .PLn_HOD_ASSIST => ⟨0x50088, 0x1000, 4, .word⟩
  | .PLn_HOD_DEGR => ⟨0x5008c, 0x1000, 4, .word⟩
  | .PLn_HOD_XO => ⟨0x50090, 0x1000, 4, .word⟩
  | .PLn_HO_AGE => ⟨0x50094, 0x1000, 4, .word⟩
  | .PLn_TEB => ⟨0x500a0, 0x1000, 4, .word⟩
  | .PLn_EV => ⟨0x500a4, 0x1000, 4, .word⟩
  | .APLLx_CTRL => ⟨0x60000, 0x800, 2, .word⟩
  | .APLLx_STAT => ⟨0x60004, 0x800, 2, .word⟩
  | .APLLx_N => ⟨0x60008, 0x800, 2, .word⟩
  | .APLLx_NUM => ⟨0x6000c, 0x800, 2, .word⟩
  | .APLLx_DEN => ⟨0x60010, 0x800, 2, .word⟩
  | .APLLx_DEP => ⟨0x60014, 0x800, 2, .word⟩
  | .APLLx_PHERR => ⟨0x60018, 0x800, 2, .word⟩
  | .APLLx_EV => ⟨0x6001c, 0x800, 2, .word⟩
  | .APLLx_TEMP => ⟨0x60020, 0x800, 2, .word⟩
  | .APLLx_TRIM_CTRL => ⟨0x60024, 0x800, 2, .word⟩
  | .APLLx_SWAP_OK => ⟨0x60028, 0x800, 2, .pair⟩
  | .APLLx_SWAP_DONE => ⟨0x60030, 0x800, 2, .halves⟩
  | .APLLx_XPH => ⟨0x60038, 0x800, 2, .pair⟩
  | .APLLx_GAIN => ⟨0x60100, 0x4, 32, .word⟩
  | .APLLx_TAP => ⟨0x60400, 0x4, 512, .word⟩
  | .OUTn_CFG => ⟨0x80000, 0x200, 64, .word⟩
  | .OUTn_SRC => ⟨0x80004, 0x200, 64, .word⟩
  | .OUTn_INT => ⟨0x80008, 0x200, 64, .pair⟩
  | .OUTn_NUM => ⟨0x80010, 0x200, 64, .word⟩
  | .OUTn_DEN => ⟨0x80014, 0x200, 64, .word⟩
  | .OUTn_S_INT => ⟨0x80018, 0x200, 64, .pair⟩
  | .OUTn_S_NUM => ⟨0x80020, 0x200, 64, .word⟩
  | .OUTn_S_DEN => ⟨0x80024, 0x200, 64, .word⟩
  | .OUTn_PHASE => ⟨0x80028, 0x200, 64, .pair⟩
  | .OUTn_PHASE_NOW => ⟨0x80030, 0x200, 64, .pair⟩
  | .OUTn_SLEW => ⟨0x80038, 0x200, 64, .word⟩
  | .OUTn_MINPER => ⟨0x8003c, 0x200, 64, .word⟩
  | .OUTn_DELAY => ⟨0x80040, 0x200, 64, .word⟩
  | .OUTn_DELAY_UNC => ⟨0x80044, 0x200, 64, .word⟩
  | .OUTn_PRIO => ⟨0x80048, 0x200, 64, .word⟩
  | .OUTn_STAT => ⟨0x8004c, 0x200, 64, .word⟩
  | .OUTn_EV => ⟨0x80050, 0x200, 64, .word⟩
  | .OUTn_CMD => ⟨0x80054, 0x200, 64, .word⟩
  | .OUTn_TPER => ⟨0x80058, 0x200, 64, .pair⟩
  | .OUTn_PW => ⟨0x80060, 0x200, 64, .word⟩
  | .OUTn_EDGEADJ => ⟨0x80064, 0x200, 64, .word⟩
  | .OBb_STAT => ⟨0x88000, 0x100, 8, .word⟩
  | .OBb_BTSEL => ⟨0x88004, 0x100, 8, .word⟩
  | .OBb_BTMEAS => ⟨0x88008, 0x100, 8, .word⟩
  | .OBb_BTERR => ⟨0x88010, 0x100, 8, .pair⟩
  | .OBb_BTMISS => ⟨0x88018, 0x100, 8, .word⟩
  | .OBb_BTLIM => ⟨0x8801c, 0x100, 8, .word⟩
  | .OBb_EV => ⟨0x88020, 0x100, 8, .word⟩
  | .SHk_MEMBERS => ⟨0x8c000, 0x40, 16, .pair⟩
  | .SHk_AT_S => ⟨0x8c008, 0x40, 16, .pair⟩
  | .SHk_AT_NS => ⟨0x8c010, 0x40, 16, .word⟩
  | .SHk_DPHASE => ⟨0x8c018, 0x40, 16, .pair⟩
  | .SHk_CMD => ⟨0x8c020, 0x40, 16, .word⟩
  | .SHk_STAT => ⟨0x8c024, 0x40, 16, .word⟩
  | .SHk_DONE_AT_S => ⟨0x8c028, 0x40, 16, .pair⟩
  | .SHk_DONE_AT_NS => ⟨0x8c030, 0x40, 16, .word⟩
  | .SHk_EV => ⟨0x8c034, 0x40, 16, .word⟩
  | .TODp_REC => ⟨0x90000, 0x100, 4, (.run 6)⟩
  | .TODp_SET_S => ⟨0x90020, 0x100, 4, .pair⟩
  | .TODp_SET_NS => ⟨0x90028, 0x100, 4, .word⟩
  | .TODp_ADJ => ⟨0x90030, 0x100, 4, .pair⟩
  | .TODp_CMD => ⟨0x90038, 0x100, 4, .word⟩
  | .TODp_STAT => ⟨0x9003c, 0x100, 4, .word⟩
  | .TODp_EV => ⟨0x90040, 0x100, 4, .word⟩
  | .TEBp_TOTAL => ⟨0x90080, 0x100, 4, .word⟩
  | .TEBp_REF => ⟨0x90084, 0x100, 4, .word⟩
  | .TEBp_INP => ⟨0x90088, 0x100, 4, .word⟩
  | .TEBp_LOOP => ⟨0x9008c, 0x100, 4, .word⟩
  | .TEBp_SW => ⟨0x90090, 0x100, 4, .word⟩
  | .TEBp_GROW => ⟨0x90094, 0x100, 4, .word⟩
  | .TEBp_CAL => ⟨0x90098, 0x100, 4, .word⟩
  | .TEBp_OUTP => ⟨0x9009c, 0x100, 4, .word⟩
  | .TEBp_PROV => ⟨0x900a0, 0x100, 4, .word⟩
  | .TEBp_LIMIT => ⟨0x900a4, 0x100, 4, .word⟩
  | .TEBp_EV => ⟨0x900a8, 0x100, 4, .word⟩
  | .UTC_BASE => ⟨0x90400, 0x0, 1, .word⟩
  | .STAMP_NOW => ⟨0x90c00, 0x0, 1, .word⟩
  | .STAMP_NOW_RECp => ⟨0x90c20, 0x20, 4, (.run 6)⟩
  | .LEAPi_T => ⟨0x90410, 0x10, 8, .pair⟩
  | .LEAPi_NEW => ⟨0x90418, 0x10, 8, .word⟩
  | .STAMPj_CFG => ⟨0x90800, 0x20, 16, .word⟩
  | .STAMPj_STAT => ⟨0x90804, 0x20, 16, .word⟩
  | .STAMPj_REC => ⟨0x90808, 0x20, 16, (.run 6)⟩
  | .YEe_CTRL => ⟨0x100000, 0x40000, 4, .word⟩
  | .YEe_STAT => ⟨0x100004, 0x40000, 4, .word⟩
  | .YEe_EV => ⟨0x100008, 0x40000, 4, .word⟩
  | .YEe_PC => ⟨0x10000c, 0x40000, 4, .word⟩
  | .YEe_ENTRY => ⟨0x100010, 0x40000, 4, .word⟩
  | .YEe_TRAP => ⟨0x100014, 0x40000, 4, .word⟩
  | .YEe_TRAPCFG => ⟨0x100018, 0x40000, 4, .word⟩
  | .YEe_WDOG => ⟨0x10001c, 0x40000, 4, .word⟩
  | .YEe_BKPT => ⟨0x100020, 0x40000, 4, .word⟩
  | .YEe_DETLOSS => ⟨0x100024, 0x40000, 4, .word⟩
  | .YEe_CYC => ⟨0x100028, 0x40000, 4, .pair⟩
  | .YEe_EVPEND => ⟨0x100030, 0x40000, 4, .pair⟩
  | .YEe_EVOVF => ⟨0x100038, 0x40000, 4, .halves⟩
  | .YEe_TMR => ⟨0x100040, 0x40000, 4, .word⟩
  | .YEe_TMRt_REM => ⟨0x100044, 0x40000, 4, (.run 4)⟩
  | .YEe_BOOT => ⟨0x100054, 0x40000, 4, .word⟩
  | .YEe_SIGLEN => ⟨0x100058, 0x40000, 4, .word⟩
  | .YEe_SIGs => ⟨0x100080, 0x40000, 4, (.run 16)⟩
  | .YEe_Gi => ⟨0x100100, 0x40000, 4, (.run 32)⟩
  | .YEe_PRED => ⟨0x100180, 0x40000, 4, .word⟩
  | .YE_SWEV => ⟨0x100f00, 0x0, 1, .word⟩
  | .YE_POLICY => ⟨0x100f04, 0x0, 1, .word⟩
  | .LZn_CFG => ⟨0x340000, 0x100, 4, .word⟩
  | .LZn_STAT => ⟨0x340004, 0x100, 4, .word⟩
  | .LZn_EV => ⟨0x340008, 0x100, 4, .word⟩
  | .LZn_ERRCNT => ⟨0x34000c, 0x100, 4, .word⟩
  | .LZn_RTD => ⟨0x340010, 0x100, 4, .word⟩
  | .LZn_RTD_SD => ⟨0x340014, 0x100, 4, .word⟩
  | .LZn_MEAS => ⟨0x340018, 0x100, 4, .word⟩
  | .LZn_OFFSET => ⟨0x340020, 0x100, 4, .pair⟩
  | .LZn_PEER_TEB => ⟨0x340028, 0x100, 4, .word⟩
  | .LZn_PEER_PROV => ⟨0x34002c, 0x100, 4, .word⟩
  | .LZn_ASYM => ⟨0x340030, 0x100, 4, .word⟩
  | .LZn_ASYM_UNC => ⟨0x340034, 0x100, 4, .word⟩
  | .LZn_LINKTERM => ⟨0x340038, 0x100, 4, .word⟩
  | .LZn_ACAL => ⟨0x34003c, 0x100, 4, .word⟩
  | .LZn_ACT => ⟨0x340040, 0x100, 4, .word⟩
  | .TOK_CTRL => ⟨0x200000, 0x0, 1, .word⟩
  | .TOK_STAT => ⟨0x200004, 0x0, 1, .word⟩
  | .TOK_EV => ⟨0x200008, 0x0, 1, .word⟩
  | .TOK_DVFS => ⟨0x20000c, 0x0, 1, .word⟩
  | .TOK_NTS_KEYS => ⟨0x200010, 0x0, 1, .word⟩
  | .TOK_NTS_MAXAGE => ⟨0x200014, 0x0, 1, .word⟩
  | .TOK_KC_WAIT => ⟨0x200018, 0x0, 1, .word⟩
  | .TOK_JOBS => ⟨0x200020, 0x0, 1, .pair⟩
  | .TOK_ERRS => ⟨0x200028, 0x0, 1, .word⟩
  | .TOK_SQq_BASE => ⟨0x200100, 0x40, 4, .pair⟩
  | .TOK_SQq_CFG => ⟨0x200108, 0x40, 4, .word⟩
  | .TOK_SQq_TAIL => ⟨0x20010c, 0x40, 4, .word⟩
  | .TOK_SQq_HEAD => ⟨0x200110, 0x40, 4, .word⟩
  | .TOK_CQq_BASE => ⟨0x200200, 0x40, 4, .pair⟩
  | .TOK_CQq_CFG => ⟨0x200208, 0x40, 4, .word⟩
  | .TOK_CQq_HEAD => ⟨0x20020c, 0x40, 4, .word⟩
  | .TOK_CQq_TAIL => ⟨0x200210, 0x40, 4, .word⟩
  | .TOK_CQq_IRQ => ⟨0x200214, 0x40, 4, .word⟩
  | .GRN_STAT => ⟨0x300000, 0x0, 1, .word⟩
  | .GRN_CTRL => ⟨0x300004, 0x0, 1, .word⟩
  | .GRN_VGEN => ⟨0x300008, 0x0, 1, .word⟩
  | .GRN_UPD_CTR => ⟨0x30000c, 0x0, 1, .word⟩
  | .GRN_UIDi => ⟨0x300010, 0x0, 1, (.run 4)⟩
  | .GRN_TAMP_CFG => ⟨0x300020, 0x0, 1, .word⟩
  | .GRN_TAMP_STAT => ⟨0x300024, 0x0, 1, .word⟩
  | .GRN_ZCOUNT => ⟨0x300028, 0x0, 1, .word⟩
  | .GRN_TAMP_TIME => ⟨0x30002c, 0x0, 1, .word⟩
  | .GRN_IDPUBi => ⟨0x300040, 0x0, 1, (.run 16)⟩
  | .GRN_CAP_CTRL => ⟨0x300080, 0x0, 1, .word⟩
  | .GRN_CAP_STAT => ⟨0x300084, 0x0, 1, .word⟩
  | .GRN_CAP_LEN => ⟨0x300088, 0x0, 1, .word⟩
  | .GRN_PUB_SEL => ⟨0x300300, 0x0, 1, .word⟩
  | .GRN_PUB_DATAi => ⟨0x300304, 0x0, 1, (.run 8)⟩
  | .GRN_CAPWIN => ⟨0x301000, 0x0, 1, (.run 208)⟩
  | .GRN_SLOTn_META => ⟨0x300100, 0x8, 64, .word⟩
  | .GRN_SLOTn_EPOCH => ⟨0x300104, 0x8, 64, .word⟩
  | .MBn_BIND => ⟨0x30000, 0x40, 16, .word⟩
  | .MBn_LOCK => ⟨0x30004, 0x40, 16, .word⟩
  | .MBn_TX => ⟨0x30008, 0x40, 16, .word⟩
  | .MBn_RX => ⟨0x3000c, 0x40, 16, .word⟩
  | .MBn_STAT => ⟨0x30010, 0x40, 16, .word⟩
  | .MBn_EV => ⟨0x30014, 0x40, 16, .word⟩
  | .MBn_CTRL => ⟨0x30018, 0x40, 16, .word⟩
  | .MBn_TMO => ⟨0x3001c, 0x40, 16, .word⟩
  | .MB_LOCKTAB => ⟨0x30400, 0x0, 1, .word⟩
  | .MB_KEEPER => ⟨0x30404, 0x0, 1, .word⟩
  | .FLT_STATUS => ⟨0x20000, 0x0, 1, .pair⟩
  | .FLT_ACK => ⟨0x20008, 0x0, 1, .pair⟩
  | .FLT_CONSEQ => ⟨0x20010, 0x0, 1, .pair⟩
  | .FLT_INJSTAT => ⟨0x20018, 0x0, 1, .pair⟩
  | .FLT_LEVEL => ⟨0x20020, 0x0, 1, .word⟩
  | .FLT_CFG => ⟨0x20024, 0x0, 1, .word⟩
  | .FLT_GRACE => ⟨0x20028, 0x0, 1, .word⟩
  | .FLT_QUIET => ⟨0x2002c, 0x0, 1, .word⟩
  | .FLT_RECOVERIES => ⟨0x20030, 0x0, 1, .word⟩
  | .FLT_CAPMODE => ⟨0x20034, 0x0, 1, .word⟩
  | .FLT_FIRST => ⟨0x20038, 0x0, 1, .word⟩
  | .FLT_CAP_INFO => ⟨0x2003c, 0x0, 1, .word⟩
  | .FLT_CAP_ADDR => ⟨0x20040, 0x0, 1, .pair⟩
  | .FLT_CAP_TODw => ⟨0x20048, 0x0, 1, (.run 6)⟩
  | .FLT_INJECT => ⟨0x20060, 0x0, 1, .word⟩
  | .FLT_MASK => ⟨0x20068, 0x0, 1, .pair⟩
  | .FLT_LVLi => ⟨0x20070, 0x0, 1, (.run 8)⟩
  | .FLT_PREV => ⟨0x200d0, 0x0, 1, .word⟩
  | .FLT_SWRAISE => ⟨0x200d4, 0x0, 1, .word⟩
  | .FLT_LVL => ⟨0x20070, 0x0, 64, .word⟩
  | .FLT_ALMa_MASK => ⟨0x20090, 0x10, 4, .pair⟩
  | .FLT_ALMa_CFG => ⟨0x20098, 0x10, 4, .word⟩
  | .EVR_CTRL => ⟨0x28000, 0x0, 1, .word⟩
  | .EVR_STAT => ⟨0x28004, 0x0, 1, .word⟩
  | .EVR_COAL => ⟨0x28008, 0x0, 1, .word⟩
  | .EVR_TRACE_RSV => ⟨0x2800c, 0x0, 1, .word⟩
  | .EVR_DROP_TRACE => ⟨0x28010, 0x0, 1, .word⟩
  | .EVR_MERGE_LOG => ⟨0x28014, 0x0, 1, .word⟩
  | .EVR_MERGE_ALARM => ⟨0x28018, 0x0, 1, .word⟩
  | .EVR_HBASE => ⟨0x28020, 0x0, 1, .pair⟩
  | .EVR_HCFG => ⟨0x28028, 0x0, 1, .word⟩
  | .EVR_HHEAD => ⟨0x2802c, 0x0, 1, .word⟩
  | .EVR_HTAIL => ⟨0x28030, 0x0, 1, .word⟩
  | .EVR_HIRQ => ⟨0x28034, 0x0, 1, .word⟩
  | .EVR_ENTRY => ⟨0x28040, 0x0, 1, (.run 8)⟩
  | .CLK_STAT => ⟨0x10000, 0x0, 1, .word⟩
  | .CLK_NMI => ⟨0x10004, 0x0, 1, .word⟩
  | .CLK_CTRL => ⟨0x10008, 0x0, 1, .word⟩
  | .CLK_GATE => ⟨0x1000c, 0x0, 1, .word⟩
  | .CLK_ROSC => ⟨0x10010, 0x0, 1, .word⟩
  | .PWR_STATE => ⟨0x10100, 0x0, 1, .word⟩
  | .PWR_HORIZON => ⟨0x10104, 0x0, 1, .word⟩
  | .PWR_KTIMER => ⟨0x10108, 0x0, 1, .word⟩
  | .PWR_TOKCAP => ⟨0x1010c, 0x0, 1, .word⟩
  | .PWR_MGT_DVFS => ⟨0x10110, 0x0, 1, .word⟩
  | .PWR_EV => ⟨0x10114, 0x0, 1, .word⟩
  | .SHED_STATE => ⟨0x10200, 0x0, 1, .word⟩
  | .PWR_SHED_CFG => ⟨0x10204, 0x0, 1, .word⟩
  | .PWR_RAIL => ⟨0x10208, 0x4, 3, .word⟩
  | .PWR_GPIO_FILTg => ⟨0x10300, 0x4, 16, .word⟩
  | .CAL_CTRL => ⟨0xa0000, 0x0, 1, .word⟩
  | .CAL_STATE => ⟨0xa0004, 0x0, 1, .word⟩
  | .CAL_APPLY => ⟨0xa0008, 0x0, 1, .word⟩
  | .CAL_EV => ⟨0xa000c, 0x0, 1, .word⟩
  | .CAL_GEN => ⟨0xa0010, 0x0, 1, .word⟩
  | .CAL_BOARDIDi => ⟨0xa0014, 0x0, 1, (.run 4)⟩
  | .CAL_DTC => ⟨0xa0024, 0x0, 1, .word⟩
  | .CAL_IMAGE => ⟨0xa1000, 0x0, 1, (.run 1024)⟩
  | .GLOBAL_ID => ⟨0x0, 0x0, 1, .word⟩
  | .GLOBAL_MAP => ⟨0x4, 0x0, 1, .word⟩
  | .DEV_STATE => ⟨0x100, 0x0, 1, .word⟩
  | .RESET_CAUSE => ⟨0x104, 0x0, 1, .word⟩
  | .SOFT_RESET => ⟨0x108, 0x0, 1, .word⟩
  | .BOOT_STAT => ⟨0x10c, 0x0, 1, .word⟩
  | .INT_STAT => ⟨0x200, 0x0, 1, .word⟩
  | .INT_EN => ⟨0x204, 0x0, 1, .word⟩
  | .INT_SPI_EN => ⟨0x208, 0x0, 1, .word⟩
  | .GPIO_FUNCg => ⟨0x300, 0x4, 16, .word⟩

/-- The island whose clock serves a register (R374, R387, R388, R406); `none` for the blocks outside the islands, the APLLs and
the clock and power controller, which no gate reaches (R9, R13). -/
def Reg.island : Reg → Option Island
  | .OUTn_CFG => some .out
  | .OUTn_SRC => some .out
  | .OUTn_INT => some .out
  | .OUTn_NUM => some .out
  | .OUTn_DEN => some .out
  | .OUTn_S_INT => some .out
  | .OUTn_S_NUM => some .out
  | .OUTn_S_DEN => some .out
  | .OUTn_PHASE => some .out
  | .OUTn_PHASE_NOW => some .out
  | .OUTn_SLEW => some .out
  | .OUTn_MINPER => some .out
  | .OUTn_DELAY => some .out
  | .OUTn_DELAY_UNC => some .out
  | .OUTn_PRIO => some .out
  | .OUTn_STAT => some .out
  | .OUTn_EV => some .out
  | .OUTn_CMD => some .out
  | .OUTn_TPER => some .out
  | .OUTn_PW => some .out
  | .OUTn_EDGEADJ => some .out
  | .OBb_STAT => some .out
  | .OBb_BTSEL => some .out
  | .OBb_BTMEAS => some .out
  | .OBb_BTERR => some .out
  | .OBb_BTMISS => some .out
  | .OBb_BTLIM => some .out
  | .OBb_EV => some .out
  | .SHk_MEMBERS => some .out
  | .SHk_AT_S => some .out
  | .SHk_AT_NS => some .out
  | .SHk_DPHASE => some .out
  | .SHk_CMD => some .out
  | .SHk_STAT => some .out
  | .SHk_DONE_AT_S => some .out
  | .SHk_DONE_AT_NS => some .out
  | .SHk_EV => some .out
  | .YEe_CTRL => some .yac
  | .YEe_STAT => some .yac
  | .YEe_EV => some .yac
  | .YEe_PC => some .yac
  | .YEe_ENTRY => some .yac
  | .YEe_TRAP => some .yac
  | .YEe_TRAPCFG => some .yac
  | .YEe_WDOG => some .yac
  | .YEe_BKPT => some .yac
  | .YEe_DETLOSS => some .yac
  | .YEe_CYC => some .yac
  | .YEe_EVPEND => some .yac
  | .YEe_EVOVF => some .yac
  | .YEe_TMR => some .yac
  | .YEe_TMRt_REM => some .yac
  | .YEe_BOOT => some .yac
  | .YEe_SIGLEN => some .yac
  | .YEe_SIGs => some .yac
  | .YEe_Gi => some .yac
  | .YEe_PRED => some .yac
  | .YE_SWEV => some .yac
  | .YE_POLICY => some .yac
  | .LZn_CFG => some .lnz
  | .LZn_STAT => some .lnz
  | .LZn_EV => some .lnz
  | .LZn_ERRCNT => some .lnz
  | .LZn_RTD => some .lnz
  | .LZn_RTD_SD => some .lnz
  | .LZn_MEAS => some .lnz
  | .LZn_OFFSET => some .lnz
  | .LZn_PEER_TEB => some .lnz
  | .LZn_PEER_PROV => some .lnz
  | .LZn_ASYM => some .lnz
  | .LZn_ASYM_UNC => some .lnz
  | .LZn_LINKTERM => some .lnz
  | .LZn_ACAL => some .lnz
  | .LZn_ACT => some .lnz
  | .TOK_CTRL => some .tok
  | .TOK_STAT => some .tok
  | .TOK_EV => some .tok
  | .TOK_DVFS => some .tok
  | .TOK_NTS_KEYS => some .tok
  | .TOK_NTS_MAXAGE => some .tok
  | .TOK_KC_WAIT => some .tok
  | .TOK_JOBS => some .tok
  | .TOK_ERRS => some .tok
  | .TOK_SQq_BASE => some .tok
  | .TOK_SQq_CFG => some .tok
  | .TOK_SQq_TAIL => some .tok
  | .TOK_SQq_HEAD => some .tok
  | .TOK_CQq_BASE => some .tok
  | .TOK_CQq_CFG => some .tok
  | .TOK_CQq_HEAD => some .tok
  | .TOK_CQq_TAIL => some .tok
  | .TOK_CQq_IRQ => some .tok
  | .GRN_STAT => some .aon
  | .GRN_CTRL => some .aon
  | .GRN_VGEN => some .aon
  | .GRN_UPD_CTR => some .aon
  | .GRN_UIDi => some .aon
  | .GRN_TAMP_CFG => some .aon
  | .GRN_TAMP_STAT => some .aon
  | .GRN_ZCOUNT => some .aon
  | .GRN_TAMP_TIME => some .aon
  | .GRN_IDPUBi => some .aon
  | .GRN_CAP_CTRL => some .aon
  | .GRN_CAP_STAT => some .aon
  | .GRN_CAP_LEN => some .aon
  | .GRN_PUB_SEL => some .aon
  | .GRN_PUB_DATAi => some .aon
  | .GRN_CAPWIN => some .aon
  | .GRN_SLOTn_META => some .aon
  | .GRN_SLOTn_EPOCH => some .aon
  | .APLLx_CTRL => none
  | .APLLx_STAT => none
  | .APLLx_N => none
  | .APLLx_NUM => none
  | .APLLx_DEN => none
  | .APLLx_DEP => none
  | .APLLx_PHERR => none
  | .APLLx_EV => none
  | .APLLx_TEMP => none
  | .APLLx_TRIM_CTRL => none
  | .APLLx_SWAP_OK => none
  | .APLLx_SWAP_DONE => none
  | .APLLx_XPH => none
  | .APLLx_GAIN => none
  | .APLLx_TAP => none
  | .CLK_STAT => none
  | .CLK_NMI => none
  | .CLK_CTRL => none
  | .CLK_GATE => none
  | .CLK_ROSC => none
  | .PWR_STATE => none
  | .PWR_HORIZON => none
  | .PWR_KTIMER => none
  | .PWR_TOKCAP => none
  | .PWR_MGT_DVFS => none
  | .PWR_EV => none
  | .SHED_STATE => none
  | .PWR_SHED_CFG => none
  | .PWR_RAIL => none
  | .PWR_GPIO_FILTg => none
  | .GLOBAL_ID => some .hif
  | .GLOBAL_MAP => some .hif
  | .RESET_CAUSE => some .aon
  | .BOOT_STAT => some .aon
  | .INT_STAT => some .hif
  | .INT_EN => some .hif
  | .INT_SPI_EN => some .hif
  | .FLT_PREV => some .aon
  | _ => some .sys

/-- The fields of a register, in ascending bit order. -/
def Reg.fields : Reg → List Field
  | .INn_CFG => [.INn_CFG_EN, .INn_CFG_MODE, .INn_CFG_TERM, .INn_CFG_ACBIAS, .INn_CFG_EDGE, .INn_CFG_VTH, .INn_CFG_GLITCH, .INn_CFG_PRED_PL, .INn_CFG_REANCHOR]
  | .INn_TYPE => [.INn_TYPE]
  | .INn_DIV => [.INn_DIV]
  | .INn_DELAY => [.INn_DELAY]
  | .INn_NOM => [.INn_NOM]
  | .INn_DELAY_UNC => [.INn_DELAY_UNC]
  | .INn_BOUND => [.INn_BOUND]
  | .INn_WANDER => [.INn_WANDER]
  | .INn_NOISE => [.INn_NOISE]
  | .INn_LIMITS => [.INn_LIMITS_FWIN, .INn_LIMITS_PSTEP]
  | .INn_HOLDOFF => [.INn_HOLDOFF]
  | .INn_ACT => [.INn_ACT]
  | .INn_MGATE => [.INn_MGATE]
  | .INn_MAXAGE => [.INn_MAXAGE]
  | .INn_QUAL => [.INn_QUAL_GRADE, .INn_QUAL_FREQ_FAIL, .INn_QUAL_STEP_SUSP, .INn_QUAL_STEP_BAD, .INn_QUAL_DRIFT_SUSP, .INn_QUAL_DRIFT_BAD, .INn_QUAL_OVERRATE, .INn_QUAL_RECONFIG, .INn_QUAL_CAL, .INn_QUAL_HOLDING, .INn_QUAL_PRED_XO, .INn_QUAL_STEPS, .INn_QUAL_NOM_ZERO]
  | .INn_QUAL_EV => [.INn_QUAL_EV]
  | .INn_SCORE => [.INn_SCORE_S10, .INn_SCORE_S100, .INn_SCORE_S1000, .INn_SCORE_RDY]
  | .INn_BASE => [.INn_BASE]
  | .INn_DIVERG_10 => [.INn_DIVERG_10]
  | .INn_DIVERG_100 => [.INn_DIVERG_100]
  | .INn_DIVERG_1000 => [.INn_DIVERG_1000]
  | .INn_MEAS => [.INn_MEAS_SEQ, .INn_MEAS_VALID, .INn_MEAS_STALE]
  | .INn_MEAS_FREQ => [.INn_MEAS_FREQ]
  | .INn_MEAS_PHASE => [.INn_MEAS_PHASE]
  | .INn_SWPHASE => [.INn_SWPHASE]
  | .XO_NOM => [.XO_NOM]
  | .XO_STAT => [.XO_STAT_COARSE, .XO_STAT_FINE, .XO_STAT_COARSE_ERR, .XO_STAT_FINE_ERR]
  | .ATOM_CFG => [.ATOM_CFG_TYPE, .ATOM_CFG_TERM, .ATOM_CFG_GLITCH]
  | .ATOM_GATE => [.ATOM_GATE]
  | .ATOM_MAXAGE => [.ATOM_MAXAGE]
  | .ATOM_MEAS => [.ATOM_MEAS_SEQ, .ATOM_MEAS_VALID, .ATOM_MEAS_PRESENT, .ATOM_MEAS_STALE]
  | .ATOM_FOFF => [.ATOM_FOFF]
  | .ATOM_PHASE => [.ATOM_PHASE]
  | .XO_MON => [.XO_MON_LOST, .XO_MON_LOST_EV]
  | .MODEL_CTRL => [.MODEL_CTRL_LOAD, .MODEL_CTRL_CLEAR, .MODEL_CTRL_APPLIED, .MODEL_CTRL_PENDING, .MODEL_CTRL_LOAD_LOST, .MODEL_CTRL_OLD, .MODEL_CTRL_SEQ]
  | .MODEL_Y0 => [.MODEL_Y0]
  | .MODEL_Y1 => [.MODEL_Y1]
  | .MODEL_Y2 => [.MODEL_Y2]
  | .MODEL_FITAGE => [.MODEL_FITAGE]
  | .MODEL_AGE => [.MODEL_AGE]
  | .MODEL_SPAN => [.MODEL_SPAN]
  | .PLn_CTRL => [.PLn_CTRL_EN, .PLn_CTRL_MODE, .PLn_CTRL_FORCE_HO, .PLn_CTRL_AUTOCOMMIT, .PLn_CTRL_COMMIT_ON_SUSPECT, .PLn_CTRL_ACQ, .PLn_CTRL_BLEED]
  | .PLn_STATE => [.PLn_STATE_STATE, .PLn_STATE_HIST_VALID, .PLn_STATE_SHORT_HIST, .PLn_STATE_ANCHORED, .PLn_STATE_ASSIST, .PLn_STATE_MODEL_OLD, .PLn_STATE_FORCED, .PLn_STATE_BW_CLAMP, .PLn_STATE_FMAX_HIT, .PLn_STATE_SLOPE_HIT]
  | .PLn_REFSEL => [.PLn_REFSEL_SRC, .PLn_REFSEL_KEEP]
  | .PLn_BW => [.PLn_BW]
  | .PLn_LOOP => [.PLn_LOOP_DAMP, .PLn_LOOP_M]
  | .PLn_LOCK => [.PLn_LOCK_LTHR, .PLn_LOCK_LTIME]
  | .PLn_UNLOCK => [.PLn_UNLOCK_UTHR, .PLn_UNLOCK_UCNT]
  | .PLn_UPD => [.PLn_UPD_SEQ, .PLn_UPD_VALID, .PLn_UPD_STALE]
  | .PLn_FREQ => [.PLn_FREQ]
  | .PLn_PHASE_ERR => [.PLn_PHASE_ERR]
  | .PLn_SHADOW_CAND => [.PLn_SHADOW_CAND_SRC, .PLn_SHADOW_CAND_AUTO]
  | .PLn_CANDMASK => [.PLn_CANDMASK]
  | .PLn_SHADOW_STAT => [.PLn_SHADOW_STAT_RUN, .PLn_SHADOW_STAT_READY, .PLn_SHADOW_STAT_SRC]
  | .PLn_SHADOW_OFFSET => [.PLn_SHADOW_OFFSET]
  | .PLn_COMMIT => [.PLn_COMMIT_BEGIN, .PLn_COMMIT_GO, .PLn_COMMIT_ABANDON, .PLn_COMMIT_FORCE, .PLn_COMMIT_PREF, .PLn_COMMIT_RESULT, .PLn_COMMIT_BUSY]
  | .PLn_PBO => [.PLn_PBO]
  | .PLn_RSUM => [.PLn_RSUM]
  | .PLn_STEER => [.PLn_STEER]
  | .PLn_STEER_BOUND => [.PLn_STEER_BOUND]
  | .PLn_SLOPE => [.PLn_SLOPE]
  | .PLn_FMAX => [.PLn_FMAX]
  | .PLn_HO_CFG => [.PLn_HO_CFG_AVG, .PLn_HO_CFG_GUARD]
  | .PLn_HOY => [.PLn_HOY]
  | .PLn_HOD_ASSIST => [.PLn_HOD_ASSIST]
  | .PLn_HOD_DEGR => [.PLn_HOD_DEGR]
  | .PLn_HOD_XO => [.PLn_HOD_XO]
  | .PLn_HO_AGE => [.PLn_HO_AGE]
  | .PLn_TEB => [.PLn_TEB]
  | .PLn_EV => [.PLn_EV_STATE_CHG, .PLn_EV_REGION_END, .PLn_EV_RECALL, .PLn_EV_LOCK_LOST, .PLn_EV_LIMIT]
  | .APLLx_CTRL => [.APLLx_CTRL_EN, .APLLx_CTRL_REFMUL, .APLLx_CTRL_BW, .APLLx_CTRL_DITHER, .APLLx_CTRL_AUTO_RELOCK, .APLLx_CTRL_RELOCK, .APLLx_CTRL_BANDSEL_MAN, .APLLx_CTRL_BAND]
  | .APLLx_STAT => [.APLLx_STAT_STATE, .APLLx_STAT_BAND, .APLLx_STAT_VT_MARGIN, .APLLx_STAT_USERS]
  | .APLLx_N => [.APLLx_N]
  | .APLLx_NUM => [.APLLx_NUM]
  | .APLLx_DEN => [.APLLx_DEN]
  | .APLLx_DEP => [.APLLx_DEP_DEP_THR, .APLLx_DEP_DEP_CNT]
  | .APLLx_PHERR => [.APLLx_PHERR]
  | .APLLx_EV => [.APLLx_EV_LOCK, .APLLx_EV_LOST, .APLLx_EV_DEPART, .APLLx_EV_SWAPPED, .APLLx_EV_VT_MARGIN, .APLLx_EV_CFG_ERR]
  | .APLLx_TEMP => [.APLLx_TEMP]
  | .APLLx_TRIM_CTRL => [.APLLx_TRIM_CTRL_FREEZE, .APLLx_TRIM_CTRL_SRC, .APLLx_TRIM_CTRL_WERR, .APLLx_TRIM_CTRL_BIN]
  | .APLLx_SWAP_OK => [.APLLx_SWAP_OK]
  | .APLLx_SWAP_DONE => [.APLLx_SWAP_DONE]
  | .APLLx_XPH => [.APLLx_XPH]
  | .APLLx_GAIN => [.APLLx_GAIN]
  | .APLLx_TAP => [.APLLx_TAP]
  | .OUTn_CFG => [.OUTn_CFG_EN, .OUTn_CFG_FMT, .OUTn_CFG_EDGE, .OUTn_CFG_DRIVE, .OUTn_CFG_MODE, .OUTn_CFG_START, .OUTn_CFG_SQ, .OUTn_CFG_PMODE, .OUTn_CFG_STEPWRAP, .OUTn_CFG_TIMEREF, .OUTn_CFG_POL]
  | .OUTn_SRC => [.OUTn_SRC_APLL, .OUTn_SRC_PL]
  | .OUTn_INT => [.OUTn_INT]
  | .OUTn_NUM => [.OUTn_NUM]
  | .OUTn_DEN => [.OUTn_DEN]
  | .OUTn_S_INT => [.OUTn_S_INT]
  | .OUTn_S_NUM => [.OUTn_S_NUM]
  | .OUTn_S_DEN => [.OUTn_S_DEN]
  | .OUTn_PHASE => [.OUTn_PHASE]
  | .OUTn_PHASE_NOW => [.OUTn_PHASE_NOW]
  | .OUTn_SLEW => [.OUTn_SLEW]
  | .OUTn_MINPER => [.OUTn_MINPER]
  | .OUTn_DELAY => [.OUTn_DELAY]
  | .OUTn_DELAY_UNC => [.OUTn_DELAY_UNC]
  | .OUTn_PRIO => [.OUTn_PRIO_CLASS, .OUTn_PRIO_RANK]
  | .OUTn_STAT => [.OUTn_STAT_RUN, .OUTn_STAT_EARLY, .OUTn_STAT_SHED, .OUTn_STAT_SLEWING, .OUTn_STAT_CATCHUP, .OUTn_STAT_PEND, .OUTn_STAT_NOAPLL, .OUTn_STAT_NOSUPPLY, .OUTn_STAT_CFG_ERR]
  | .OUTn_EV => [.OUTn_EV_WERR, .OUTn_EV_SRC_REJ, .OUTn_EV_SRC_DISC, .OUTn_EV_HOP_DONE, .OUTn_EV_HOP_FAIL, .OUTn_EV_PHASE_DONE, .OUTn_EV_SQUELCH, .OUTn_EV_START]
  | .OUTn_CMD => [.OUTn_CMD_HOP, .OUTn_CMD_SYNC, .OUTn_CMD_RESTART, .OUTn_CMD_STOPSLEW]
  | .OUTn_TPER => [.OUTn_TPER]
  | .OUTn_PW => [.OUTn_PW]
  | .OUTn_EDGEADJ => [.OUTn_EDGEADJ]
  | .OBb_STAT => [.OBb_STAT_SUPPLY, .OBb_STAT_VLEVEL]
  | .OBb_BTSEL => [.OBb_BTSEL_SEL, .OBb_BTSEL_EN, .OBb_BTSEL_GATE]
  | .OBb_BTMEAS => [.OBb_BTMEAS_SEQ, .OBb_BTMEAS_VALID, .OBb_BTMEAS_STALE]
  | .OBb_BTERR => [.OBb_BTERR]
  | .OBb_BTMISS => [.OBb_BTMISS]
  | .OBb_BTLIM => [.OBb_BTLIM]
  | .OBb_EV => [.OBb_EV_SUPPLY_CHG, .OBb_EV_BT_LIMIT, .OBb_EV_BT_MISS]
  | .SHk_MEMBERS => [.SHk_MEMBERS]
  | .SHk_AT_S => [.SHk_AT_S]
  | .SHk_AT_NS => [.SHk_AT_NS]
  | .SHk_DPHASE => [.SHk_DPHASE]
  | .SHk_CMD => [.SHk_CMD_OP, .SHk_CMD_SYNC, .SHk_CMD_ASAP, .SHk_CMD_PL]
  | .SHk_STAT => [.SHk_STAT_STATE, .SHk_STAT_RESULT, .SHk_STAT_CONFLICT]
  | .SHk_DONE_AT_S => [.SHk_DONE_AT_S]
  | .SHk_DONE_AT_NS => [.SHk_DONE_AT_NS]
  | .SHk_EV => [.SHk_EV_DONE, .SHk_EV_WERR, .SHk_EV_CANCEL_LATE]
  | .TODp_REC => [.TODp_REC]
  | .TODp_SET_S => [.TODp_SET_S]
  | .TODp_SET_NS => [.TODp_SET_NS]
  | .TODp_ADJ => [.TODp_ADJ]
  | .TODp_CMD => [.TODp_CMD]
  | .TODp_STAT => [.TODp_STAT_SEC_VALID, .TODp_STAT_PEND, .TODp_STAT_UTCV, .TODp_STAT_LEAP_PEND, .TODp_STAT_LEAP_DEL, .TODp_STAT_UTC_OFF]
  | .TODp_EV => [.TODp_EV_SEC, .TODp_EV_STEPPED, .TODp_EV_LEAP, .TODp_EV_REFUSED]
  | .TEBp_TOTAL => [.TEBp_TOTAL]
  | .TEBp_REF => [.TEBp_REF]
  | .TEBp_INP => [.TEBp_INP]
  | .TEBp_LOOP => [.TEBp_LOOP]
  | .TEBp_SW => [.TEBp_SW]
  | .TEBp_GROW => [.TEBp_GROW]
  | .TEBp_CAL => [.TEBp_CAL]
  | .TEBp_OUTP => [.TEBp_OUTP]
  | .TEBp_PROV => [.TEBp_PROV]
  | .TEBp_LIMIT => [.TEBp_LIMIT]
  | .TEBp_EV => [.TEBp_EV_OVER, .TEBp_EV_UNDER]
  | .UTC_BASE => [.UTC_BASE_OFF, .UTC_BASE_VALID]
  | .STAMP_NOW => [.STAMP_NOW]
  | .STAMP_NOW_RECp => [.STAMP_NOW_RECp]
  | .LEAPi_T => [.LEAPi_T]
  | .LEAPi_NEW => [.LEAPi_NEW_NEW, .LEAPi_NEW_VALID]
  | .STAMPj_CFG => [.STAMPj_CFG_EN, .STAMPj_CFG_SRC, .STAMPj_CFG_PL, .STAMPj_CFG_DIV]
  | .STAMPj_STAT => [.STAMPj_STAT_COUNT, .STAMPj_STAT_OVF, .STAMPj_STAT_LOST]
  | .STAMPj_REC => [.STAMPj_REC]
  | .YEe_CTRL => [.YEe_CTRL_START, .YEe_CTRL_HALT, .YEe_CTRL_STEP, .YEe_CTRL_RESET, .YEe_CTRL_VERIFY, .YEe_CTRL_NOSLEEP]
  | .YEe_STAT => [.YEe_STAT_STATE, .YEe_STAT_LATE, .YEe_STAT_SIG, .YEe_STAT_SIGREQ, .YEe_STAT_RSTCNT, .YEe_STAT_HREASON]
  | .YEe_EV => [.YEe_EV_TRAP, .YEe_EV_HALTED, .YEe_EV_SIG_DONE, .YEe_EV_WERR, .YEe_EV_START_REJ, .YEe_EV_LATE, .YEe_EV_RESTART, .YEe_EV_DEV_TMO]
  | .YEe_PC => [.YEe_PC]
  | .YEe_ENTRY => [.YEe_ENTRY]
  | .YEe_TRAP => [.YEe_TRAP_CAUSE, .YEe_TRAP_PC]
  | .YEe_TRAPCFG => [.YEe_TRAPCFG_POLICY, .YEe_TRAPCFG_MAXRST]
  | .YEe_WDOG => [.YEe_WDOG]
  | .YEe_BKPT => [.YEe_BKPT_PC, .YEe_BKPT_EN]
  | .YEe_DETLOSS => [.YEe_DETLOSS_COUNT, .YEe_DETLOSS_MAXOVER]
  | .YEe_CYC => [.YEe_CYC]
  | .YEe_EVPEND => [.YEe_EVPEND]
  | .YEe_EVOVF => [.YEe_EVOVF]
  | .YEe_TMR => [.YEe_TMR_RUN, .YEe_TMR_PEND, .YEe_TMR_PERIODIC]
  | .YEe_TMRt_REM => [.YEe_TMRt_REM]
  | .YEe_BOOT => [.YEe_BOOT]
  | .YEe_SIGLEN => [.YEe_SIGLEN_IMEM_WORDS, .YEe_SIGLEN_DMEM_WORDS]
  | .YEe_SIGs => [.YEe_SIGs]
  | .YEe_Gi => [.YEe_Gi]
  | .YEe_PRED => [.YEe_PRED]
  | .YE_SWEV => [.YE_SWEV_SW0, .YE_SWEV_SW1]
  | .YE_POLICY => [.YE_POLICY_SIGN_REQ, .YE_POLICY_LOCK, .YE_POLICY_SIGSLOT]
  | .LZn_CFG => [.LZn_CFG_EN, .LZn_CFG_ROLE, .LZn_CFG_PL, .LZn_CFG_TXDRV, .LZn_CFG_RXEQ, .LZn_CFG_ALIVE_SEL]
  | .LZn_STAT => [.LZn_STAT_STATE, .LZn_STAT_SWAPPED, .LZn_STAT_ACTIVE, .LZn_STAT_PEER_ACTIVE, .LZn_STAT_LOOP, .LZn_STAT_RANGE, .LZn_STAT_PEER_ROLE]
  | .LZn_EV => [.LZn_EV_STATE_CHG, .LZn_EV_PEER_STEP, .LZn_EV_ACAL_DONE, .LZn_EV_TAKEOVER]
  | .LZn_ERRCNT => [.LZn_ERRCNT]
  | .LZn_RTD => [.LZn_RTD]
  | .LZn_RTD_SD => [.LZn_RTD_SD]
  | .LZn_MEAS => [.LZn_MEAS_SEQ, .LZn_MEAS_VALID, .LZn_MEAS_STALE]
  | .LZn_OFFSET => [.LZn_OFFSET]
  | .LZn_PEER_TEB => [.LZn_PEER_TEB]
  | .LZn_PEER_PROV => [.LZn_PEER_PROV]
  | .LZn_ASYM => [.LZn_ASYM]
  | .LZn_ASYM_UNC => [.LZn_ASYM_UNC]
  | .LZn_LINKTERM => [.LZn_LINKTERM]
  | .LZn_ACAL => [.LZn_ACAL_GO, .LZn_ACAL_RESULT, .LZn_ACAL_GATE]
  | .LZn_ACT => [.LZn_ACT_PRIO, .LZn_ACT_TAKEOVER_EN, .LZn_ACT_YIELD, .LZn_ACT_WAIT]
  | .TOK_CTRL => [.TOK_CTRL]
  | .TOK_STAT => [.TOK_STAT_INFLIGHT, .TOK_STAT_ENTROPY_OK, .TOK_STAT_STOP, .TOK_STAT_KC_USED, .TOK_STAT_KC_PINNED]
  | .TOK_EV => [.TOK_EV_WERR, .TOK_EV_DMA_ERR, .TOK_EV_ECC, .TOK_EV_ENTROPY_FAIL, .TOK_EV_SCRUB]
  | .TOK_DVFS => [.TOK_DVFS_MODE, .TOK_DVFS_POINT, .TOK_DVFS_CUR]
  | .TOK_NTS_KEYS => [.TOK_NTS_KEYS_CUR, .TOK_NTS_KEYS_PREV, .TOK_NTS_KEYS_PREV_EN]
  | .TOK_NTS_MAXAGE => [.TOK_NTS_MAXAGE]
  | .TOK_KC_WAIT => [.TOK_KC_WAIT]
  | .TOK_JOBS => [.TOK_JOBS]
  | .TOK_ERRS => [.TOK_ERRS]
  | .TOK_SQq_BASE => [.TOK_SQq_BASE]
  | .TOK_SQq_CFG => [.TOK_SQq_CFG_EN, .TOK_SQq_CFG_SIZE, .TOK_SQq_CFG_CQ, .TOK_SQq_CFG_WEIGHT]
  | .TOK_SQq_TAIL => [.TOK_SQq_TAIL]
  | .TOK_SQq_HEAD => [.TOK_SQq_HEAD]
  | .TOK_CQq_BASE => [.TOK_CQq_BASE]
  | .TOK_CQq_CFG => [.TOK_CQq_CFG_EN, .TOK_CQq_CFG_SIZE, .TOK_CQq_CFG_IRQ_EN]
  | .TOK_CQq_HEAD => [.TOK_CQq_HEAD]
  | .TOK_CQq_TAIL => [.TOK_CQq_TAIL_TAIL, .TOK_CQq_TAIL_PHASE]
  | .TOK_CQq_IRQ => [.TOK_CQq_IRQ_COUNT, .TOK_CQq_IRQ_TIME]
  | .GRN_STAT => [.GRN_STAT_KEYLESS, .GRN_STAT_CLAIMED, .GRN_STAT_TAMPER_AT_BOOT, .GRN_STAT_TAMPER_IN_KEEP, .GRN_STAT_AON_FINISHED, .GRN_STAT_VGEN_EXH, .GRN_STAT_ENTROPY_OK]
  | .GRN_CTRL => [.GRN_CTRL_ZEROISE, .GRN_CTRL_RESEED, .GRN_CTRL_RFAIL, .GRN_CTRL_CONFIRM]
  | .GRN_VGEN => [.GRN_VGEN]
  | .GRN_UPD_CTR => [.GRN_UPD_CTR]
  | .GRN_UIDi => [.GRN_UIDi]
  | .GRN_TAMP_CFG => [.GRN_TAMP_CFG_EN, .GRN_TAMP_CFG_ACTIVE, .GRN_TAMP_CFG_LEVEL, .GRN_TAMP_CFG_LOCK]
  | .GRN_TAMP_STAT => [.GRN_TAMP_STAT_SENSOR, .GRN_TAMP_STAT_CAUSE]
  | .GRN_ZCOUNT => [.GRN_ZCOUNT]
  | .GRN_TAMP_TIME => [.GRN_TAMP_TIME]
  | .GRN_IDPUBi => [.GRN_IDPUBi]
  | .GRN_CAP_CTRL => [.GRN_CAP_CTRL_SUBMIT, .GRN_CAP_CTRL_COMMIT]
  | .GRN_CAP_STAT => [.GRN_CAP_STAT_RESULT, .GRN_CAP_STAT_WERR]
  | .GRN_CAP_LEN => [.GRN_CAP_LEN]
  | .GRN_PUB_SEL => [.GRN_PUB_SEL]
  | .GRN_PUB_DATAi => [.GRN_PUB_DATAi]
  | .GRN_CAPWIN => [.GRN_CAPWIN]
  | .GRN_SLOTn_META => [.GRN_SLOTn_META_USAGE, .GRN_SLOTn_META_LOCK, .GRN_SLOTn_META_YPAR]
  | .GRN_SLOTn_EPOCH => [.GRN_SLOTn_EPOCH]
  | .MBn_BIND => [.MBn_BIND_END0, .MBn_BIND_END1]
  | .MBn_LOCK => [.MBn_LOCK]
  | .MBn_TX => [.MBn_TX]
  | .MBn_RX => [.MBn_RX]
  | .MBn_STAT => [.MBn_STAT]
  | .MBn_EV => [.MBn_EV]
  | .MBn_CTRL => [.MBn_CTRL]
  | .MBn_TMO => [.MBn_TMO]
  | .MB_LOCKTAB => [.MB_LOCKTAB]
  | .MB_KEEPER => [.MB_KEEPER_LOAD, .MB_KEEPER_OVERLOAD, .MB_KEEPER_C3_DROPPED, .MB_KEEPER_C2_HALVED, .MB_KEEPER_POINT, .MB_KEEPER_BEAT]
  | .FLT_STATUS => [.FLT_STATUS]
  | .FLT_ACK => [.FLT_ACK]
  | .FLT_CONSEQ => [.FLT_CONSEQ]
  | .FLT_INJSTAT => [.FLT_INJSTAT]
  | .FLT_LEVEL => [.FLT_LEVEL_LEVEL, .FLT_LEVEL_GRACE_RUN, .FLT_LEVEL_QUIET_RUN]
  | .FLT_CFG => [.FLT_CFG_PIN_LVL, .FLT_CFG_ALIVE_EN, .FLT_CFG_PL, .FLT_CFG_LOCK]
  | .FLT_GRACE => [.FLT_GRACE]
  | .FLT_QUIET => [.FLT_QUIET]
  | .FLT_RECOVERIES => [.FLT_RECOVERIES]
  | .FLT_CAPMODE => [.FLT_CAPMODE]
  | .FLT_FIRST => [.FLT_FIRST_SRC, .FLT_FIRST_VALID, .FLT_FIRST_OVF, .FLT_FIRST_INJ, .FLT_FIRST_REARM]
  | .FLT_CAP_INFO => [.FLT_CAP_INFO_MASTER, .FLT_CAP_INFO_ACCESS, .FLT_CAP_INFO_SRC, .FLT_CAP_INFO_VALID]
  | .FLT_CAP_ADDR => [.FLT_CAP_ADDR]
  | .FLT_CAP_TODw => [.FLT_CAP_TODw]
  | .FLT_INJECT => [.FLT_INJECT_SRC, .FLT_INJECT_REACT, .FLT_INJECT_LVLACT, .FLT_INJECT_GO, .FLT_INJECT_ISLAND]
  | .FLT_MASK => [.FLT_MASK]
  | .FLT_LVLi => [.FLT_LVLi]
  | .FLT_PREV => [.FLT_PREV_SRC, .FLT_PREV_LEVEL, .FLT_PREV_VALID]
  | .FLT_SWRAISE => [.FLT_SWRAISE]
  | .FLT_LVL => [.FLT_LVL]
  | .FLT_ALMa_MASK => [.FLT_ALMa_MASK]
  | .FLT_ALMa_CFG => [.FLT_ALMa_CFG_LVL, .FLT_ALMa_CFG_EN, .FLT_ALMa_CFG_POL]
  | .EVR_CTRL => [.EVR_CTRL_PL, .EVR_CTRL_TRACE]
  | .EVR_STAT => [.EVR_STAT_COUNT, .EVR_STAT_ALM]
  | .EVR_COAL => [.EVR_COAL]
  | .EVR_TRACE_RSV => [.EVR_TRACE_RSV]
  | .EVR_DROP_TRACE => [.EVR_DROP_TRACE]
  | .EVR_MERGE_LOG => [.EVR_MERGE_LOG]
  | .EVR_MERGE_ALARM => [.EVR_MERGE_ALARM]
  | .EVR_HBASE => [.EVR_HBASE]
  | .EVR_HCFG => [.EVR_HCFG_EN, .EVR_HCFG_SIZE, .EVR_HCFG_IRQ_EN]
  | .EVR_HHEAD => [.EVR_HHEAD]
  | .EVR_HTAIL => [.EVR_HTAIL_TAIL, .EVR_HTAIL_PHASE]
  | .EVR_HIRQ => [.EVR_HIRQ_COUNT, .EVR_HIRQ_TIME]
  | .EVR_ENTRY => [.EVR_ENTRY]
  | .CLK_STAT => [.CLK_STAT_FB, .CLK_STAT_PRIM_OK, .CLK_STAT_COAST, .CLK_STAT_ROSC_QUAL, .CLK_STAT_ROSCA_BAD, .CLK_STAT_ROSCB_BAD, .CLK_STAT_TB_ROSC]
  | .CLK_NMI => [.CLK_NMI_CAUSE, .CLK_NMI_ISLAND, .CLK_NMI_VALID]
  | .CLK_CTRL => [.CLK_CTRL_RETURN, .CLK_CTRL_OUT_APLL, .CLK_CTRL_SSC]
  | .CLK_GATE => [.CLK_GATE_GATED, .CLK_GATE_FORCED, .CLK_GATE_ISLAND]
  | .CLK_ROSC => [.CLK_ROSC_FA, .CLK_ROSC_FB]
  | .PWR_STATE => [.PWR_STATE_STATE, .PWR_STATE_MAX]
  | .PWR_HORIZON => [.PWR_HORIZON_H, .PWR_HORIZON_TERM]
  | .PWR_KTIMER => [.PWR_KTIMER]
  | .PWR_TOKCAP => [.PWR_TOKCAP]
  | .PWR_MGT_DVFS => [.PWR_MGT_DVFS_POINT, .PWR_MGT_DVFS_CUR, .PWR_MGT_DVFS_BUSY]
  | .PWR_EV => [.PWR_EV_STATE_CHG, .PWR_EV_SHED_CHG, .PWR_EV_DVFS_DONE, .PWR_EV_WERR]
  | .SHED_STATE => [.SHED_STATE_STAGE, .SHED_STATE_RAIL, .SHED_STATE_SHED3_CNT]
  | .PWR_SHED_CFG => [.PWR_SHED_CFG_STEP, .PWR_SHED_CFG_EXIT, .PWR_SHED_CFG_LOCK]
  | .PWR_RAIL => [.PWR_RAIL_MV, .PWR_RAIL_MIN]
  | .PWR_GPIO_FILTg => [.PWR_GPIO_FILTg]
  | .CAL_CTRL => [.CAL_CTRL_GO, .CAL_CTRL_ABORT, .CAL_CTRL_STIM, .CAL_CTRL_HITS, .CAL_CTRL_MAXDEV]
  | .CAL_STATE => [.CAL_STATE_APPLY, .CAL_STATE_RUN, .CAL_STATE_READY, .CAL_STATE_PHASE, .CAL_STATE_ERR, .CAL_STATE_FAILTDC, .CAL_STATE_PENDING]
  | .CAL_APPLY => [.CAL_APPLY_GO, .CAL_APPLY_REVERT, .CAL_APPLY_STEP_OK]
  | .CAL_EV => [.CAL_EV_DONE, .CAL_EV_ACCEPT, .CAL_EV_REJECT, .CAL_EV_APPLIED, .CAL_EV_WERR]
  | .CAL_GEN => [.CAL_GEN]
  | .CAL_BOARDIDi => [.CAL_BOARDIDi]
  | .CAL_DTC => [.CAL_DTC_OUT_A, .CAL_DTC_EN_A, .CAL_DTC_OUT_B, .CAL_DTC_EN_B]
  | .CAL_IMAGE => [.CAL_IMAGE]
  | .GLOBAL_ID => [.GLOBAL_ID_PART, .GLOBAL_ID_REV, .GLOBAL_ID_VARIANT]
  | .GLOBAL_MAP => [.GLOBAL_MAP]
  | .DEV_STATE => [.DEV_STATE_TIMING, .DEV_STATE_KEEPER, .DEV_STATE_WARM, .DEV_STATE_ROSC_UNQUAL, .DEV_STATE_ERR]
  | .RESET_CAUSE => [.RESET_CAUSE_POR, .RESET_CAUSE_BOR, .RESET_CAUSE_COLD, .RESET_CAUSE_WARM]
  | .SOFT_RESET => [.SOFT_RESET_WARM, .SOFT_RESET_COLD, .SOFT_RESET_RECOVER, .SOFT_RESET_KEY, .SOFT_RESET_REFUSED]
  | .BOOT_STAT => [.BOOT_STAT_IMAGE, .BOOT_STAT_FALLBACK, .BOOT_STAT_PREF, .BOOT_STAT_CFG_COPY, .BOOT_STAT_CFG_VALID]
  | .INT_STAT => [.INT_STAT]
  | .INT_EN => [.INT_EN]
  | .INT_SPI_EN => [.INT_SPI_EN]
  | .GPIO_FUNCg => [.GPIO_FUNCg_FUNC, .GPIO_FUNCg_IN]

/-- What the register tables say of a field: lowest bit within its register (a pair's bits run from 0 to 63), width,
access code. -/
structure FieldInfo where
  lo : Nat
  width : Nat
  acc : Acc
  deriving DecidableEq, Repr

/-- Bits and access of each field. -/
def Field.info : Field → FieldInfo
  | .INn_CFG_EN => ⟨0, 1, .rw⟩
  | .INn_CFG_MODE => ⟨1, 2, .rw⟩
  | .INn_CFG_TERM => ⟨3, 2, .rw⟩
  | .INn_CFG_ACBIAS => ⟨5, 1, .rw⟩
  | .INn_CFG_EDGE => ⟨6, 1, .rw⟩
  | .INn_CFG_VTH => ⟨7, 4, .rw⟩
  | .INn_CFG_GLITCH => ⟨11, 8, .rw⟩
  | .INn_CFG_PRED_PL => ⟨19, 2, .rw⟩
  | .INn_CFG_REANCHOR => ⟨21, 1, .wo⟩
  | .INn_TYPE => ⟨0, 3, .rw⟩
  | .INn_DIV => ⟨0, 24, .rw⟩
  | .INn_DELAY => ⟨0, 24, .rw⟩
  | .INn_NOM => ⟨0, 48, .rw⟩
  | .INn_DELAY_UNC => ⟨0, 16, .rw⟩
  | .INn_BOUND => ⟨0, 32, .rw⟩
  | .INn_WANDER => ⟨0, 20, .rw⟩
  | .INn_NOISE => ⟨0, 16, .rw⟩
  | .INn_LIMITS_FWIN => ⟨0, 16, .rw⟩
  | .INn_LIMITS_PSTEP => ⟨16, 16, .rw⟩
  | .INn_HOLDOFF => ⟨0, 16, .rw⟩
  | .INn_ACT => ⟨0, 32, .rw⟩
  | .INn_MGATE => ⟨0, 20, .rw⟩
  | .INn_MAXAGE => ⟨0, 20, .rw⟩
  | .INn_QUAL_GRADE => ⟨0, 2, .ro⟩
  | .INn_QUAL_FREQ_FAIL => ⟨2, 1, .ro⟩
  | .INn_QUAL_STEP_SUSP => ⟨3, 1, .ro⟩
  | .INn_QUAL_STEP_BAD => ⟨4, 1, .ro⟩
  | .INn_QUAL_DRIFT_SUSP => ⟨5, 1, .ro⟩
  | .INn_QUAL_DRIFT_BAD => ⟨6, 1, .ro⟩
  | .INn_QUAL_OVERRATE => ⟨7, 1, .ro⟩
  | .INn_QUAL_RECONFIG => ⟨8, 1, .ro⟩
  | .INn_QUAL_CAL => ⟨9, 1, .ro⟩
  | .INn_QUAL_HOLDING => ⟨10, 1, .ro⟩
  | .INn_QUAL_PRED_XO => ⟨11, 1, .view⟩
  | .INn_QUAL_STEPS => ⟨12, 4, .ro⟩
  | .INn_QUAL_NOM_ZERO => ⟨16, 1, .ro⟩
  | .INn_QUAL_EV => ⟨0, 1, .w1c⟩
  | .INn_SCORE_S10 => ⟨0, 4, .ro⟩
  | .INn_SCORE_S100 => ⟨4, 4, .ro⟩
  | .INn_SCORE_S1000 => ⟨8, 4, .ro⟩
  | .INn_SCORE_RDY => ⟨12, 3, .ro⟩
  | .INn_BASE => ⟨0, 32, .ro⟩
  | .INn_DIVERG_10 => ⟨0, 32, .ro⟩
  | .INn_DIVERG_100 => ⟨0, 32, .ro⟩
  | .INn_DIVERG_1000 => ⟨0, 32, .ro⟩
  | .INn_MEAS_SEQ => ⟨0, 16, .ro⟩
  | .INn_MEAS_VALID => ⟨17, 1, .ro⟩
  | .INn_MEAS_STALE => ⟨16, 1, .view⟩
  | .INn_MEAS_FREQ => ⟨0, 64, .latched⟩
  | .INn_MEAS_PHASE => ⟨0, 64, .latched⟩
  | .INn_SWPHASE => ⟨0, 64, .wo⟩
  | .XO_NOM => ⟨0, 32, .ro⟩
  | .XO_STAT_COARSE => ⟨0, 2, .ro⟩
  | .XO_STAT_FINE => ⟨2, 2, .ro⟩
  | .XO_STAT_COARSE_ERR => ⟨4, 12, .ro⟩
  | .XO_STAT_FINE_ERR => ⟨16, 16, .ro⟩
  | .ATOM_CFG_TYPE => ⟨0, 2, .rw⟩
  | .ATOM_CFG_TERM => ⟨2, 2, .rw⟩
  | .ATOM_CFG_GLITCH => ⟨4, 8, .rw⟩
  | .ATOM_GATE => ⟨0, 14, .rw⟩
  | .ATOM_MAXAGE => ⟨0, 16, .rw⟩
  | .ATOM_MEAS_SEQ => ⟨0, 16, .ro⟩
  | .ATOM_MEAS_VALID => ⟨17, 1, .ro⟩
  | .ATOM_MEAS_PRESENT => ⟨18, 1, .ro⟩
  | .ATOM_MEAS_STALE => ⟨16, 1, .view⟩
  | .ATOM_FOFF => ⟨0, 64, .latched⟩
  | .ATOM_PHASE => ⟨0, 64, .latched⟩
  | .XO_MON_LOST => ⟨0, 1, .ro⟩
  | .XO_MON_LOST_EV => ⟨1, 1, .w1c⟩
  | .MODEL_CTRL_LOAD => ⟨0, 1, .wo⟩
  | .MODEL_CTRL_CLEAR => ⟨1, 1, .wo⟩
  | .MODEL_CTRL_APPLIED => ⟨2, 1, .ro⟩
  | .MODEL_CTRL_PENDING => ⟨3, 1, .ro⟩
  | .MODEL_CTRL_LOAD_LOST => ⟨4, 1, .w1c⟩
  | .MODEL_CTRL_OLD => ⟨5, 1, .ro⟩
  | .MODEL_CTRL_SEQ => ⟨16, 16, .ro⟩
  | .MODEL_Y0 => ⟨0, 64, .rw⟩
  | .MODEL_Y1 => ⟨0, 64, .rw⟩
  | .MODEL_Y2 => ⟨0, 64, .rw⟩
  | .MODEL_FITAGE => ⟨0, 32, .rw⟩
  | .MODEL_AGE => ⟨0, 32, .ro⟩
  | .MODEL_SPAN => ⟨0, 32, .rw⟩
  | .PLn_CTRL_EN => ⟨0, 1, .rw⟩
  | .PLn_CTRL_MODE => ⟨1, 1, .rw⟩
  | .PLn_CTRL_FORCE_HO => ⟨2, 1, .rw⟩
  | .PLn_CTRL_AUTOCOMMIT => ⟨3, 1, .rw⟩
  | .PLn_CTRL_COMMIT_ON_SUSPECT => ⟨4, 1, .rw⟩
  | .PLn_CTRL_ACQ => ⟨5, 2, .rw⟩
  | .PLn_CTRL_BLEED => ⟨7, 1, .rw⟩
  | .PLn_STATE_STATE => ⟨0, 3, .ro⟩
  | .PLn_STATE_HIST_VALID => ⟨3, 1, .ro⟩
  | .PLn_STATE_SHORT_HIST => ⟨4, 1, .ro⟩
  | .PLn_STATE_ANCHORED => ⟨5, 1, .ro⟩
  | .PLn_STATE_ASSIST => ⟨6, 1, .ro⟩
  | .PLn_STATE_MODEL_OLD => ⟨7, 1, .ro⟩
  | .PLn_STATE_FORCED => ⟨8, 3, .view⟩
  | .PLn_STATE_BW_CLAMP => ⟨11, 1, .ro⟩
  | .PLn_STATE_FMAX_HIT => ⟨12, 1, .ro⟩
  | .PLn_STATE_SLOPE_HIT => ⟨13, 1, .ro⟩
  | .PLn_REFSEL_SRC => ⟨0, 5, .rw⟩
  | .PLn_REFSEL_KEEP => ⟨5, 1, .rw⟩
  | .PLn_BW => ⟨0, 26, .rw⟩
  | .PLn_LOOP_DAMP => ⟨0, 12, .rw⟩
  | .PLn_LOOP_M => ⟨12, 6, .rw⟩
  | .PLn_LOCK_LTHR => ⟨0, 16, .rw⟩
  | .PLn_LOCK_LTIME => ⟨16, 16, .rw⟩
  | .PLn_UNLOCK_UTHR => ⟨0, 16, .rw⟩
  | .PLn_UNLOCK_UCNT => ⟨16, 4, .rw⟩
  | .PLn_UPD_SEQ => ⟨0, 16, .ro⟩
  | .PLn_UPD_VALID => ⟨17, 1, .ro⟩
  | .PLn_UPD_STALE => ⟨16, 1, .view⟩
  | .PLn_FREQ => ⟨0, 64, .latched⟩
  | .PLn_PHASE_ERR => ⟨0, 64, .latched⟩
  | .PLn_SHADOW_CAND_SRC => ⟨0, 5, .rw⟩
  | .PLn_SHADOW_CAND_AUTO => ⟨5, 1, .rw⟩
  | .PLn_CANDMASK => ⟨0, 21, .rw⟩
  | .PLn_SHADOW_STAT_RUN => ⟨0, 1, .ro⟩
  | .PLn_SHADOW_STAT_READY => ⟨1, 1, .ro⟩
  | .PLn_SHADOW_STAT_SRC => ⟨2, 5, .ro⟩
  | .PLn_SHADOW_OFFSET => ⟨0, 64, .latched⟩
  | .PLn_COMMIT_BEGIN => ⟨0, 1, .wo⟩
  | .PLn_COMMIT_GO => ⟨1, 1, .wo⟩
  | .PLn_COMMIT_ABANDON => ⟨2, 1, .wo⟩
  | .PLn_COMMIT_FORCE => ⟨3, 1, .wo⟩
  | .PLn_COMMIT_PREF => ⟨4, 5, .rw⟩
  | .PLn_COMMIT_RESULT => ⟨9, 4, .ro⟩
  | .PLn_COMMIT_BUSY => ⟨13, 1, .ro⟩
  | .PLn_PBO => ⟨0, 48, .rw⟩
  | .PLn_RSUM => ⟨0, 32, .ro⟩
  | .PLn_STEER => ⟨0, 48, .rw⟩
  | .PLn_STEER_BOUND => ⟨0, 32, .rw⟩
  | .PLn_SLOPE => ⟨0, 16, .rw⟩
  | .PLn_FMAX => ⟨0, 16, .rw⟩
  | .PLn_HO_CFG_AVG => ⟨0, 16, .rw⟩
  | .PLn_HO_CFG_GUARD => ⟨16, 16, .rw⟩
  | .PLn_HOY => ⟨0, 32, .rw⟩
  | .PLn_HOD_ASSIST => ⟨0, 32, .rw⟩
  | .PLn_HOD_DEGR => ⟨0, 32, .rw⟩
  | .PLn_HOD_XO => ⟨0, 32, .rw⟩
  | .PLn_HO_AGE => ⟨0, 32, .ro⟩
  | .PLn_TEB => ⟨0, 32, .view⟩
  | .PLn_EV_STATE_CHG => ⟨0, 1, .w1c⟩
  | .PLn_EV_REGION_END => ⟨1, 1, .w1c⟩
  | .PLn_EV_RECALL => ⟨2, 1, .w1c⟩
  | .PLn_EV_LOCK_LOST => ⟨3, 1, .w1c⟩
  | .PLn_EV_LIMIT => ⟨4, 1, .w1c⟩
  | .APLLx_CTRL_EN => ⟨0, 1, .rw⟩
  | .APLLx_CTRL_REFMUL => ⟨1, 2, .rw⟩
  | .APLLx_CTRL_BW => ⟨3, 2, .rw⟩
  | .APLLx_CTRL_DITHER => ⟨5, 1, .rw⟩
  | .APLLx_CTRL_AUTO_RELOCK => ⟨6, 1, .rw⟩
  | .APLLx_CTRL_RELOCK => ⟨7, 1, .wo⟩
  | .APLLx_CTRL_BANDSEL_MAN => ⟨8, 1, .rw⟩
  | .APLLx_CTRL_BAND => ⟨9, 6, .rw⟩
  | .APLLx_STAT_STATE => ⟨0, 3, .ro⟩
  | .APLLx_STAT_BAND => ⟨3, 6, .ro⟩
  | .APLLx_STAT_VT_MARGIN => ⟨9, 1, .ro⟩
  | .APLLx_STAT_USERS => ⟨10, 7, .view⟩
  | .APLLx_N => ⟨0, 7, .rw⟩
  | .APLLx_NUM => ⟨0, 32, .rw⟩
  | .APLLx_DEN => ⟨0, 32, .rw⟩
  | .APLLx_DEP_DEP_THR => ⟨0, 8, .rw⟩
  | .APLLx_DEP_DEP_CNT => ⟨8, 4, .rw⟩
  | .APLLx_PHERR => ⟨0, 24, .ro⟩
  | .APLLx_EV_LOCK => ⟨0, 1, .w1c⟩
  | .APLLx_EV_LOST => ⟨1, 1, .w1c⟩
  | .APLLx_EV_DEPART => ⟨2, 1, .w1c⟩
  | .APLLx_EV_SWAPPED => ⟨3, 1, .w1c⟩
  | .APLLx_EV_VT_MARGIN => ⟨4, 1, .w1c⟩
  | .APLLx_EV_CFG_ERR => ⟨5, 1, .w1c⟩
  | .APLLx_TEMP => ⟨0, 12, .ro⟩
  | .APLLx_TRIM_CTRL_FREEZE => ⟨0, 1, .rw⟩
  | .APLLx_TRIM_CTRL_SRC => ⟨1, 1, .ro⟩
  | .APLLx_TRIM_CTRL_WERR => ⟨2, 1, .w1c⟩
  | .APLLx_TRIM_CTRL_BIN => ⟨3, 4, .ro⟩
  | .APLLx_SWAP_OK => ⟨0, 64, .view⟩
  | .APLLx_SWAP_DONE => ⟨0, 64, .w1c⟩
  | .APLLx_XPH => ⟨0, 64, .ro⟩
  | .APLLx_GAIN => ⟨0, 12, .rw⟩
  | .APLLx_TAP => ⟨0, 16, .rw⟩
  | .OUTn_CFG_EN => ⟨0, 1, .rw⟩
  | .OUTn_CFG_FMT => ⟨1, 3, .rw⟩
  | .OUTn_CFG_EDGE => ⟨4, 2, .rw⟩
  | .OUTn_CFG_DRIVE => ⟨6, 2, .rw⟩
  | .OUTn_CFG_MODE => ⟨8, 2, .rw⟩
  | .OUTn_CFG_START => ⟨10, 1, .rw⟩
  | .OUTn_CFG_SQ => ⟨11, 1, .rw⟩
  | .OUTn_CFG_PMODE => ⟨12, 1, .rw⟩
  | .OUTn_CFG_STEPWRAP => ⟨13, 1, .rw⟩
  | .OUTn_CFG_TIMEREF => ⟨14, 1, .rw⟩
  | .OUTn_CFG_POL => ⟨15, 1, .rw⟩
  | .OUTn_SRC_APLL => ⟨0, 1, .rw⟩
  | .OUTn_SRC_PL => ⟨1, 3, .rw⟩
  | .OUTn_INT => ⟨0, 34, .rw⟩
  | .OUTn_NUM => ⟨0, 32, .rw⟩
  | .OUTn_DEN => ⟨0, 32, .rw⟩
  | .OUTn_S_INT => ⟨0, 34, .rw⟩
  | .OUTn_S_NUM => ⟨0, 32, .rw⟩
  | .OUTn_S_DEN => ⟨0, 32, .rw⟩
  | .OUTn_PHASE => ⟨0, 48, .rw⟩
  | .OUTn_PHASE_NOW => ⟨0, 48, .ro⟩
  | .OUTn_SLEW => ⟨0, 24, .rw⟩
  | .OUTn_MINPER => ⟨0, 10, .rw⟩
  | .OUTn_DELAY => ⟨0, 24, .rw⟩
  | .OUTn_DELAY_UNC => ⟨0, 16, .rw⟩
  | .OUTn_PRIO_CLASS => ⟨0, 1, .rw⟩
  | .OUTn_PRIO_RANK => ⟨4, 4, .rw⟩
  | .OUTn_STAT_RUN => ⟨0, 2, .ro⟩
  | .OUTn_STAT_EARLY => ⟨2, 1, .ro⟩
  | .OUTn_STAT_SHED => ⟨3, 1, .ro⟩
  | .OUTn_STAT_SLEWING => ⟨4, 1, .ro⟩
  | .OUTn_STAT_CATCHUP => ⟨5, 1, .ro⟩
  | .OUTn_STAT_PEND => ⟨6, 1, .ro⟩
  | .OUTn_STAT_NOAPLL => ⟨7, 1, .ro⟩
  | .OUTn_STAT_NOSUPPLY => ⟨8, 1, .ro⟩
  | .OUTn_STAT_CFG_ERR => ⟨9, 1, .ro⟩
  | .OUTn_EV_WERR => ⟨0, 1, .w1c⟩
  | .OUTn_EV_SRC_REJ => ⟨1, 1, .w1c⟩
  | .OUTn_EV_SRC_DISC => ⟨2, 1, .w1c⟩
  | .OUTn_EV_HOP_DONE => ⟨3, 1, .w1c⟩
  | .OUTn_EV_HOP_FAIL => ⟨4, 1, .w1c⟩
  | .OUTn_EV_PHASE_DONE => ⟨5, 1, .w1c⟩
  | .OUTn_EV_SQUELCH => ⟨6, 1, .w1c⟩
  | .OUTn_EV_START => ⟨7, 1, .w1c⟩
  | .OUTn_CMD_HOP => ⟨0, 1, .wo⟩
  | .OUTn_CMD_SYNC => ⟨1, 1, .wo⟩
  | .OUTn_CMD_RESTART => ⟨2, 1, .wo⟩
  | .OUTn_CMD_STOPSLEW => ⟨3, 1, .wo⟩
  | .OUTn_TPER => ⟨0, 40, .rw⟩
  | .OUTn_PW => ⟨0, 32, .rw⟩
  | .OUTn_EDGEADJ => ⟨0, 16, .rc⟩
  | .OBb_STAT_SUPPLY => ⟨0, 1, .ro⟩
  | .OBb_STAT_VLEVEL => ⟨1, 2, .ro⟩
  | .OBb_BTSEL_SEL => ⟨0, 3, .rw⟩
  | .OBb_BTSEL_EN => ⟨3, 1, .rw⟩
  | .OBb_BTSEL_GATE => ⟨4, 20, .rw⟩
  | .OBb_BTMEAS_SEQ => ⟨0, 16, .ro⟩
  | .OBb_BTMEAS_VALID => ⟨17, 1, .ro⟩
  | .OBb_BTMEAS_STALE => ⟨16, 1, .view⟩
  | .OBb_BTERR => ⟨0, 64, .latched⟩
  | .OBb_BTMISS => ⟨0, 32, .latched⟩
  | .OBb_BTLIM => ⟨0, 16, .rw⟩
  | .OBb_EV_SUPPLY_CHG => ⟨0, 1, .w1c⟩
  | .OBb_EV_BT_LIMIT => ⟨1, 1, .w1c⟩
  | .OBb_EV_BT_MISS => ⟨2, 1, .w1c⟩
  | .SHk_MEMBERS => ⟨0, 64, .rw⟩
  | .SHk_AT_S => ⟨0, 48, .rw⟩
  | .SHk_AT_NS => ⟨0, 30, .rw⟩
  | .SHk_DPHASE => ⟨0, 48, .rw⟩
  | .SHk_CMD_OP => ⟨0, 3, .wo⟩
  | .SHk_CMD_SYNC => ⟨3, 1, .wo⟩
  | .SHk_CMD_ASAP => ⟨4, 1, .wo⟩
  | .SHk_CMD_PL => ⟨5, 2, .rw⟩
  | .SHk_STAT_STATE => ⟨0, 2, .ro⟩
  | .SHk_STAT_RESULT => ⟨4, 4, .ro⟩
  | .SHk_STAT_CONFLICT => ⟨8, 1, .ro⟩
  | .SHk_DONE_AT_S => ⟨0, 48, .ro⟩
  | .SHk_DONE_AT_NS => ⟨0, 30, .ro⟩
  | .SHk_EV_DONE => ⟨0, 1, .w1c⟩
  | .SHk_EV_WERR => ⟨1, 1, .w1c⟩
  | .SHk_EV_CANCEL_LATE => ⟨2, 1, .w1c⟩
  | .TODp_REC => ⟨0, 192, .latched⟩
  | .TODp_SET_S => ⟨0, 48, .rw⟩
  | .TODp_SET_NS => ⟨0, 30, .rw⟩
  | .TODp_ADJ => ⟨0, 48, .rw⟩
  | .TODp_CMD => ⟨0, 2, .wo⟩
  | .TODp_STAT_SEC_VALID => ⟨0, 1, .ro⟩
  | .TODp_STAT_PEND => ⟨1, 1, .ro⟩
  | .TODp_STAT_UTCV => ⟨2, 1, .view⟩
  | .TODp_STAT_LEAP_PEND => ⟨3, 1, .view⟩
  | .TODp_STAT_LEAP_DEL => ⟨4, 1, .view⟩
  | .TODp_STAT_UTC_OFF => ⟨16, 16, .view⟩
  | .TODp_EV_SEC => ⟨0, 1, .w1c⟩
  | .TODp_EV_STEPPED => ⟨1, 1, .w1c⟩
  | .TODp_EV_LEAP => ⟨2, 1, .w1c⟩
  | .TODp_EV_REFUSED => ⟨3, 1, .w1c⟩
  | .TEBp_TOTAL => ⟨0, 32, .ro⟩
  | .TEBp_REF => ⟨0, 32, .latched⟩
  | .TEBp_INP => ⟨0, 32, .latched⟩
  | .TEBp_LOOP => ⟨0, 32, .latched⟩
  | .TEBp_SW => ⟨0, 32, .latched⟩
  | .TEBp_GROW => ⟨0, 32, .latched⟩
  | .TEBp_CAL => ⟨0, 32, .latched⟩
  | .TEBp_OUTP => ⟨0, 32, .latched⟩
  | .TEBp_PROV => ⟨0, 32, .latched⟩
  | .TEBp_LIMIT => ⟨0, 32, .rw⟩
  | .TEBp_EV_OVER => ⟨0, 1, .w1c⟩
  | .TEBp_EV_UNDER => ⟨1, 1, .w1c⟩
  | .UTC_BASE_OFF => ⟨0, 16, .rw⟩
  | .UTC_BASE_VALID => ⟨16, 1, .rw⟩
  | .STAMP_NOW => ⟨0, 1, .wo⟩
  | .STAMP_NOW_RECp => ⟨0, 192, .view⟩
  | .LEAPi_T => ⟨0, 48, .rw⟩
  | .LEAPi_NEW_NEW => ⟨0, 16, .rw⟩
  | .LEAPi_NEW_VALID => ⟨16, 1, .rw⟩
  | .STAMPj_CFG_EN => ⟨0, 1, .rw⟩
  | .STAMPj_CFG_SRC => ⟨1, 7, .rw⟩
  | .STAMPj_CFG_PL => ⟨8, 2, .rw⟩
  | .STAMPj_CFG_DIV => ⟨10, 16, .rw⟩
  | .STAMPj_STAT_COUNT => ⟨0, 7, .view⟩
  | .STAMPj_STAT_OVF => ⟨7, 1, .w1c⟩
  | .STAMPj_STAT_LOST => ⟨16, 16, .rc⟩
  | .STAMPj_REC => ⟨0, 192, .latched⟩
  | .YEe_CTRL_START => ⟨0, 1, .wo⟩
  | .YEe_CTRL_HALT => ⟨1, 1, .wo⟩
  | .YEe_CTRL_STEP => ⟨2, 1, .wo⟩
  | .YEe_CTRL_RESET => ⟨3, 1, .wo⟩
  | .YEe_CTRL_VERIFY => ⟨4, 1, .wo⟩
  | .YEe_CTRL_NOSLEEP => ⟨5, 1, .rw⟩
  | .YEe_STAT_STATE => ⟨0, 3, .ro⟩
  | .YEe_STAT_LATE => ⟨3, 1, .ro⟩
  | .YEe_STAT_SIG => ⟨4, 2, .ro⟩
  | .YEe_STAT_SIGREQ => ⟨6, 1, .view⟩
  | .YEe_STAT_RSTCNT => ⟨7, 5, .ro⟩
  | .YEe_STAT_HREASON => ⟨12, 3, .ro⟩
  | .YEe_EV_TRAP => ⟨0, 1, .w1c⟩
  | .YEe_EV_HALTED => ⟨1, 1, .w1c⟩
  | .YEe_EV_SIG_DONE => ⟨2, 1, .w1c⟩
  | .YEe_EV_WERR => ⟨3, 1, .w1c⟩
  | .YEe_EV_START_REJ => ⟨4, 1, .w1c⟩
  | .YEe_EV_LATE => ⟨5, 1, .w1c⟩
  | .YEe_EV_RESTART => ⟨6, 1, .w1c⟩
  | .YEe_EV_DEV_TMO => ⟨7, 1, .w1c⟩
  | .YEe_PC => ⟨0, 12, .view⟩
  | .YEe_ENTRY => ⟨0, 12, .rw⟩
  | .YEe_TRAP_CAUSE => ⟨0, 5, .ro⟩
  | .YEe_TRAP_PC => ⟨16, 12, .ro⟩
  | .YEe_TRAPCFG_POLICY => ⟨0, 1, .rw⟩
  | .YEe_TRAPCFG_MAXRST => ⟨4, 4, .rw⟩
  | .YEe_WDOG => ⟨0, 32, .rw⟩
  | .YEe_BKPT_PC => ⟨0, 12, .rw⟩
  | .YEe_BKPT_EN => ⟨31, 1, .rw⟩
  | .YEe_DETLOSS_COUNT => ⟨0, 16, .rc⟩
  | .YEe_DETLOSS_MAXOVER => ⟨16, 16, .rc⟩
  | .YEe_CYC => ⟨0, 64, .view⟩
  | .YEe_EVPEND => ⟨0, 64, .view⟩
  | .YEe_EVOVF => ⟨0, 64, .view⟩
  | .YEe_TMR_RUN => ⟨0, 4, .view⟩
  | .YEe_TMR_PEND => ⟨4, 4, .view⟩
  | .YEe_TMR_PERIODIC => ⟨8, 4, .view⟩
  | .YEe_TMRt_REM => ⟨0, 128, .view⟩
  | .YEe_BOOT => ⟨0, 1, .rw⟩
  | .YEe_SIGLEN_IMEM_WORDS => ⟨0, 13, .rw⟩
  | .YEe_SIGLEN_DMEM_WORDS => ⟨16, 11, .rw⟩
  | .YEe_SIGs => ⟨0, 512, .view⟩
  | .YEe_Gi => ⟨0, 1024, .view⟩
  | .YEe_PRED => ⟨0, 4, .view⟩
  | .YE_SWEV_SW0 => ⟨0, 1, .wo⟩
  | .YE_SWEV_SW1 => ⟨1, 1, .wo⟩
  | .YE_POLICY_SIGN_REQ => ⟨0, 1, .rwl⟩
  | .YE_POLICY_LOCK => ⟨1, 1, .w1s⟩
  | .YE_POLICY_SIGSLOT => ⟨8, 6, .rwl⟩
  | .LZn_CFG_EN => ⟨0, 1, .rw⟩
  | .LZn_CFG_ROLE => ⟨1, 2, .rw⟩
  | .LZn_CFG_PL => ⟨3, 2, .rw⟩
  | .LZn_CFG_TXDRV => ⟨5, 2, .rw⟩
  | .LZn_CFG_RXEQ => ⟨7, 2, .rw⟩
  | .LZn_CFG_ALIVE_SEL => ⟨9, 4, .rw⟩
  | .LZn_STAT_STATE => ⟨0, 3, .ro⟩
  | .LZn_STAT_SWAPPED => ⟨3, 1, .ro⟩
  | .LZn_STAT_ACTIVE => ⟨4, 1, .ro⟩
  | .LZn_STAT_PEER_ACTIVE => ⟨5, 1, .ro⟩
  | .LZn_STAT_LOOP => ⟨6, 1, .ro⟩
  | .LZn_STAT_RANGE => ⟨7, 1, .ro⟩
  | .LZn_STAT_PEER_ROLE => ⟨8, 2, .ro⟩
  | .LZn_EV_STATE_CHG => ⟨0, 1, .w1c⟩
  | .LZn_EV_PEER_STEP => ⟨1, 1, .w1c⟩
  | .LZn_EV_ACAL_DONE => ⟨2, 1, .w1c⟩
  | .LZn_EV_TAKEOVER => ⟨3, 1, .w1c⟩
  | .LZn_ERRCNT => ⟨0, 16, .rc⟩
  | .LZn_RTD => ⟨0, 32, .ro⟩
  | .LZn_RTD_SD => ⟨0, 16, .ro⟩
  | .LZn_MEAS_SEQ => ⟨0, 16, .ro⟩
  | .LZn_MEAS_VALID => ⟨17, 1, .ro⟩
  | .LZn_MEAS_STALE => ⟨16, 1, .view⟩
  | .LZn_OFFSET => ⟨0, 64, .latched⟩
  | .LZn_PEER_TEB => ⟨0, 32, .latched⟩
  | .LZn_PEER_PROV => ⟨0, 32, .latched⟩
  | .LZn_ASYM => ⟨0, 32, .rw⟩
  | .LZn_ASYM_UNC => ⟨0, 32, .rw⟩
  | .LZn_LINKTERM => ⟨0, 32, .ro⟩
  | .LZn_ACAL_GO => ⟨0, 1, .wo⟩
  | .LZn_ACAL_RESULT => ⟨1, 2, .ro⟩
  | .LZn_ACAL_GATE => ⟨4, 10, .rw⟩
  | .LZn_ACT_PRIO => ⟨0, 8, .rw⟩
  | .LZn_ACT_TAKEOVER_EN => ⟨8, 1, .rw⟩
  | .LZn_ACT_YIELD => ⟨9, 1, .rw⟩
  | .LZn_ACT_WAIT => ⟨10, 16, .rw⟩
  | .TOK_CTRL => ⟨0, 1, .rw⟩
  | .TOK_STAT_INFLIGHT => ⟨0, 10, .view⟩
  | .TOK_STAT_ENTROPY_OK => ⟨10, 1, .ro⟩
  | .TOK_STAT_STOP => ⟨11, 3, .view⟩
  | .TOK_STAT_KC_USED => ⟨14, 5, .view⟩
  | .TOK_STAT_KC_PINNED => ⟨19, 5, .view⟩
  | .TOK_EV_WERR => ⟨0, 1, .w1c⟩
  | .TOK_EV_DMA_ERR => ⟨1, 1, .w1c⟩
  | .TOK_EV_ECC => ⟨2, 1, .w1c⟩
  | .TOK_EV_ENTROPY_FAIL => ⟨3, 1, .w1c⟩
  | .TOK_EV_SCRUB => ⟨4, 1, .w1c⟩
  | .TOK_DVFS_MODE => ⟨0, 1, .rw⟩
  | .TOK_DVFS_POINT => ⟨1, 2, .rw⟩
  | .TOK_DVFS_CUR => ⟨3, 2, .ro⟩
  | .TOK_NTS_KEYS_CUR => ⟨0, 6, .rw⟩
  | .TOK_NTS_KEYS_PREV => ⟨8, 6, .rw⟩
  | .TOK_NTS_KEYS_PREV_EN => ⟨14, 1, .rw⟩
  | .TOK_NTS_MAXAGE => ⟨0, 32, .rw⟩
  | .TOK_KC_WAIT => ⟨0, 32, .rc⟩
  | .TOK_JOBS => ⟨0, 64, .ro⟩
  | .TOK_ERRS => ⟨0, 32, .rc⟩
  | .TOK_SQq_BASE => ⟨12, 52, .rw⟩
  | .TOK_SQq_CFG_EN => ⟨0, 1, .rw⟩
  | .TOK_SQq_CFG_SIZE => ⟨1, 5, .rw⟩
  | .TOK_SQq_CFG_CQ => ⟨6, 2, .rw⟩
  | .TOK_SQq_CFG_WEIGHT => ⟨8, 8, .rw⟩
  | .TOK_SQq_TAIL => ⟨0, 16, .rw⟩
  | .TOK_SQq_HEAD => ⟨0, 16, .ro⟩
  | .TOK_CQq_BASE => ⟨12, 52, .rw⟩
  | .TOK_CQq_CFG_EN => ⟨0, 1, .rw⟩
  | .TOK_CQq_CFG_SIZE => ⟨1, 5, .rw⟩
  | .TOK_CQq_CFG_IRQ_EN => ⟨6, 1, .rw⟩
  | .TOK_CQq_HEAD => ⟨0, 16, .rw⟩
  | .TOK_CQq_TAIL_TAIL => ⟨0, 16, .ro⟩
  | .TOK_CQq_TAIL_PHASE => ⟨16, 1, .ro⟩
  | .TOK_CQq_IRQ_COUNT => ⟨0, 16, .rw⟩
  | .TOK_CQq_IRQ_TIME => ⟨16, 16, .rw⟩
  | .GRN_STAT_KEYLESS => ⟨0, 1, .ro⟩
  | .GRN_STAT_CLAIMED => ⟨1, 1, .view⟩
  | .GRN_STAT_TAMPER_AT_BOOT => ⟨2, 1, .w1c⟩
  | .GRN_STAT_TAMPER_IN_KEEP => ⟨3, 1, .w1c⟩
  | .GRN_STAT_AON_FINISHED => ⟨4, 1, .w1c⟩
  | .GRN_STAT_VGEN_EXH => ⟨5, 1, .view⟩
  | .GRN_STAT_ENTROPY_OK => ⟨6, 1, .ro⟩
  | .GRN_CTRL_ZEROISE => ⟨0, 1, .wo⟩
  | .GRN_CTRL_RESEED => ⟨1, 1, .wo⟩
  | .GRN_CTRL_RFAIL => ⟨2, 1, .w1c⟩
  | .GRN_CTRL_CONFIRM => ⟨8, 8, .wo⟩
  | .GRN_VGEN => ⟨0, 8, .ro⟩
  | .GRN_UPD_CTR => ⟨0, 32, .ro⟩
  | .GRN_UIDi => ⟨0, 128, .view⟩
  | .GRN_TAMP_CFG_EN => ⟨0, 7, .rwl⟩
  | .GRN_TAMP_CFG_ACTIVE => ⟨7, 4, .rwl⟩
  | .GRN_TAMP_CFG_LEVEL => ⟨11, 4, .rwl⟩
  | .GRN_TAMP_CFG_LOCK => ⟨15, 1, .w1s⟩
  | .GRN_TAMP_STAT_SENSOR => ⟨0, 9, .w1c⟩
  | .GRN_TAMP_STAT_CAUSE => ⟨9, 3, .ro⟩
  | .GRN_ZCOUNT => ⟨0, 8, .ro⟩
  | .GRN_TAMP_TIME => ⟨0, 32, .ro⟩
  | .GRN_IDPUBi => ⟨0, 512, .view⟩
  | .GRN_CAP_CTRL_SUBMIT => ⟨0, 1, .wo⟩
  | .GRN_CAP_CTRL_COMMIT => ⟨1, 1, .wo⟩
  | .GRN_CAP_STAT_RESULT => ⟨0, 5, .ro⟩
  | .GRN_CAP_STAT_WERR => ⟨5, 1, .w1c⟩
  | .GRN_CAP_LEN => ⟨0, 10, .rw⟩
  | .GRN_PUB_SEL => ⟨0, 6, .view⟩
  | .GRN_PUB_DATAi => ⟨0, 256, .view⟩
  | .GRN_CAPWIN => ⟨0, 6656, .view⟩
  | .GRN_SLOTn_META_USAGE => ⟨0, 4, .ro⟩
  | .GRN_SLOTn_META_LOCK => ⟨4, 1, .ro⟩
  | .GRN_SLOTn_META_YPAR => ⟨5, 1, .ro⟩
  | .GRN_SLOTn_EPOCH => ⟨0, 32, .ro⟩
  | .MBn_BIND_END0 => ⟨0, 4, .rwl⟩
  | .MBn_BIND_END1 => ⟨4, 4, .rwl⟩
  | .MBn_LOCK => ⟨0, 4, .rw⟩
  | .MBn_TX => ⟨0, 32, .wo⟩
  | .MBn_RX => ⟨0, 32, .view⟩
  | .MBn_STAT => ⟨0, 32, .view⟩
  | .MBn_EV => ⟨0, 7, .view⟩
  | .MBn_CTRL => ⟨0, 4, .view⟩
  | .MBn_TMO => ⟨0, 16, .rw⟩
  | .MB_LOCKTAB => ⟨0, 16, .w1s⟩
  | .MB_KEEPER_LOAD => ⟨0, 7, .rw⟩
  | .MB_KEEPER_OVERLOAD => ⟨7, 1, .rw⟩
  | .MB_KEEPER_C3_DROPPED => ⟨8, 1, .rw⟩
  | .MB_KEEPER_C2_HALVED => ⟨9, 1, .rw⟩
  | .MB_KEEPER_POINT => ⟨10, 3, .rw⟩
  | .MB_KEEPER_BEAT => ⟨16, 16, .rw⟩
  | .FLT_STATUS => ⟨0, 64, .ro⟩
  | .FLT_ACK => ⟨0, 64, .wo⟩
  | .FLT_CONSEQ => ⟨0, 64, .w1c⟩
  | .FLT_INJSTAT => ⟨0, 64, .w1c⟩
  | .FLT_LEVEL_LEVEL => ⟨0, 3, .ro⟩
  | .FLT_LEVEL_GRACE_RUN => ⟨3, 1, .view⟩
  | .FLT_LEVEL_QUIET_RUN => ⟨4, 1, .view⟩
  | .FLT_CFG_PIN_LVL => ⟨0, 3, .rw⟩
  | .FLT_CFG_ALIVE_EN => ⟨3, 1, .rw⟩
  | .FLT_CFG_PL => ⟨4, 2, .rw⟩
  | .FLT_CFG_LOCK => ⟨6, 1, .w1s⟩
  | .FLT_GRACE => ⟨0, 14, .rw⟩
  | .FLT_QUIET => ⟨0, 13, .rw⟩
  | .FLT_RECOVERIES => ⟨0, 16, .ro⟩
  | .FLT_CAPMODE => ⟨0, 1, .rw⟩
  | .FLT_FIRST_SRC => ⟨0, 6, .ro⟩
  | .FLT_FIRST_VALID => ⟨6, 1, .ro⟩
  | .FLT_FIRST_OVF => ⟨7, 1, .ro⟩
  | .FLT_FIRST_INJ => ⟨8, 1, .ro⟩
  | .FLT_FIRST_REARM => ⟨31, 1, .wo⟩
  | .FLT_CAP_INFO_MASTER => ⟨0, 4, .ro⟩
  | .FLT_CAP_INFO_ACCESS => ⟨4, 2, .ro⟩
  | .FLT_CAP_INFO_SRC => ⟨6, 6, .ro⟩
  | .FLT_CAP_INFO_VALID => ⟨12, 1, .ro⟩
  | .FLT_CAP_ADDR => ⟨0, 64, .ro⟩
  | .FLT_CAP_TODw => ⟨0, 192, .ro⟩
  | .FLT_INJECT_SRC => ⟨0, 6, .rw⟩
  | .FLT_INJECT_REACT => ⟨6, 1, .rw⟩
  | .FLT_INJECT_LVLACT => ⟨7, 1, .rw⟩
  | .FLT_INJECT_GO => ⟨8, 1, .wo⟩
  | .FLT_INJECT_ISLAND => ⟨9, 3, .rw⟩
  | .FLT_MASK => ⟨0, 64, .rwl⟩
  | .FLT_LVLi => ⟨0, 256, .view⟩
  | .FLT_PREV_SRC => ⟨0, 6, .ro⟩
  | .FLT_PREV_LEVEL => ⟨6, 3, .ro⟩
  | .FLT_PREV_VALID => ⟨9, 1, .w1c⟩
  | .FLT_SWRAISE => ⟨0, 8, .wo⟩
  | .FLT_LVL => ⟨0, 3, .rwl⟩
  | .FLT_ALMa_MASK => ⟨0, 64, .rw⟩
  | .FLT_ALMa_CFG_LVL => ⟨0, 3, .rw⟩
  | .FLT_ALMa_CFG_EN => ⟨3, 1, .rw⟩
  | .FLT_ALMa_CFG_POL => ⟨4, 1, .rw⟩
  | .EVR_CTRL_PL => ⟨0, 2, .rw⟩
  | .EVR_CTRL_TRACE => ⟨2, 4, .rw⟩
  | .EVR_STAT_COUNT => ⟨0, 11, .view⟩
  | .EVR_STAT_ALM => ⟨11, 8, .view⟩
  | .EVR_COAL => ⟨0, 16, .rw⟩
  | .EVR_TRACE_RSV => ⟨0, 10, .rw⟩
  | .EVR_DROP_TRACE => ⟨0, 32, .rc⟩
  | .EVR_MERGE_LOG => ⟨0, 32, .rc⟩
  | .EVR_MERGE_ALARM => ⟨0, 32, .rc⟩
  | .EVR_HBASE => ⟨12, 52, .rw⟩
  | .EVR_HCFG_EN => ⟨0, 1, .rw⟩
  | .EVR_HCFG_SIZE => ⟨1, 5, .rw⟩
  | .EVR_HCFG_IRQ_EN => ⟨6, 1, .rw⟩
  | .EVR_HHEAD => ⟨0, 16, .rw⟩
  | .EVR_HTAIL_TAIL => ⟨0, 16, .ro⟩
  | .EVR_HTAIL_PHASE => ⟨16, 1, .ro⟩
  | .EVR_HIRQ_COUNT => ⟨0, 16, .rw⟩
  | .EVR_HIRQ_TIME => ⟨16, 16, .rw⟩
  | .EVR_ENTRY => ⟨0, 256, .latched⟩
  | .CLK_STAT_FB => ⟨0, 3, .ro⟩
  | .CLK_STAT_PRIM_OK => ⟨3, 3, .ro⟩
  | .CLK_STAT_COAST => ⟨6, 4, .ro⟩
  | .CLK_STAT_ROSC_QUAL => ⟨10, 1, .ro⟩
  | .CLK_STAT_ROSCA_BAD => ⟨11, 1, .ro⟩
  | .CLK_STAT_ROSCB_BAD => ⟨12, 1, .ro⟩
  | .CLK_STAT_TB_ROSC => ⟨13, 1, .ro⟩
  | .CLK_NMI_CAUSE => ⟨0, 2, .ro⟩
  | .CLK_NMI_ISLAND => ⟨2, 3, .ro⟩
  | .CLK_NMI_VALID => ⟨5, 1, .w1c⟩
  | .CLK_CTRL_RETURN => ⟨0, 3, .wo⟩
  | .CLK_CTRL_OUT_APLL => ⟨3, 1, .rw⟩
  | .CLK_CTRL_SSC => ⟨4, 4, .rw⟩
  | .CLK_GATE_GATED => ⟨0, 8, .ro⟩
  | .CLK_GATE_FORCED => ⟨8, 1, .w1c⟩
  | .CLK_GATE_ISLAND => ⟨9, 3, .ro⟩
  | .CLK_ROSC_FA => ⟨0, 12, .ro⟩
  | .CLK_ROSC_FB => ⟨12, 12, .ro⟩
  | .PWR_STATE_STATE => ⟨0, 3, .ro⟩
  | .PWR_STATE_MAX => ⟨3, 2, .rw⟩
  | .PWR_HORIZON_H => ⟨0, 28, .ro⟩
  | .PWR_HORIZON_TERM => ⟨28, 3, .ro⟩
  | .PWR_KTIMER => ⟨0, 32, .rw⟩
  | .PWR_TOKCAP => ⟨0, 20, .rw⟩
  | .PWR_MGT_DVFS_POINT => ⟨0, 2, .rw⟩
  | .PWR_MGT_DVFS_CUR => ⟨2, 2, .ro⟩
  | .PWR_MGT_DVFS_BUSY => ⟨4, 1, .ro⟩
  | .PWR_EV_STATE_CHG => ⟨0, 1, .w1c⟩
  | .PWR_EV_SHED_CHG => ⟨1, 1, .w1c⟩
  | .PWR_EV_DVFS_DONE => ⟨2, 1, .w1c⟩
  | .PWR_EV_WERR => ⟨3, 1, .w1c⟩
  | .SHED_STATE_STAGE => ⟨0, 3, .ro⟩
  | .SHED_STATE_RAIL => ⟨3, 2, .ro⟩
  | .SHED_STATE_SHED3_CNT => ⟨5, 7, .ro⟩
  | .PWR_SHED_CFG_STEP => ⟨0, 10, .rwl⟩
  | .PWR_SHED_CFG_EXIT => ⟨10, 10, .rwl⟩
  | .PWR_SHED_CFG_LOCK => ⟨20, 1, .w1s⟩
  | .PWR_RAIL_MV => ⟨0, 12, .ro⟩
  | .PWR_RAIL_MIN => ⟨12, 12, .rc⟩
  | .PWR_GPIO_FILTg => ⟨0, 8, .rw⟩
  | .CAL_CTRL_GO => ⟨0, 1, .wo⟩
  | .CAL_CTRL_ABORT => ⟨1, 1, .wo⟩
  | .CAL_CTRL_STIM => ⟨2, 4, .rw⟩
  | .CAL_CTRL_HITS => ⟨6, 5, .rw⟩
  | .CAL_CTRL_MAXDEV => ⟨11, 7, .rw⟩
  | .CAL_STATE_APPLY => ⟨0, 2, .ro⟩
  | .CAL_STATE_RUN => ⟨2, 1, .ro⟩
  | .CAL_STATE_READY => ⟨3, 1, .ro⟩
  | .CAL_STATE_PHASE => ⟨4, 3, .ro⟩
  | .CAL_STATE_ERR => ⟨7, 4, .ro⟩
  | .CAL_STATE_FAILTDC => ⟨11, 5, .ro⟩
  | .CAL_STATE_PENDING => ⟨16, 7, .view⟩
  | .CAL_APPLY_GO => ⟨0, 1, .wo⟩
  | .CAL_APPLY_REVERT => ⟨1, 1, .wo⟩
  | .CAL_APPLY_STEP_OK => ⟨2, 1, .rw⟩
  | .CAL_EV_DONE => ⟨0, 1, .w1c⟩
  | .CAL_EV_ACCEPT => ⟨1, 1, .w1c⟩
  | .CAL_EV_REJECT => ⟨2, 1, .w1c⟩
  | .CAL_EV_APPLIED => ⟨3, 1, .w1c⟩
  | .CAL_EV_WERR => ⟨4, 1, .w1c⟩
  | .CAL_GEN => ⟨0, 32, .rw⟩
  | .CAL_BOARDIDi => ⟨0, 128, .rw⟩
  | .CAL_DTC_OUT_A => ⟨0, 6, .rw⟩
  | .CAL_DTC_EN_A => ⟨6, 1, .rw⟩
  | .CAL_DTC_OUT_B => ⟨8, 6, .rw⟩
  | .CAL_DTC_EN_B => ⟨14, 1, .rw⟩
  | .CAL_IMAGE => ⟨0, 32768, .view⟩
  | .GLOBAL_ID_PART => ⟨0, 16, .ro⟩
  | .GLOBAL_ID_REV => ⟨16, 8, .ro⟩
  | .GLOBAL_ID_VARIANT => ⟨24, 1, .view⟩
  | .GLOBAL_MAP => ⟨0, 8, .ro⟩
  | .DEV_STATE_TIMING => ⟨0, 3, .ro⟩
  | .DEV_STATE_KEEPER => ⟨3, 2, .ro⟩
  | .DEV_STATE_WARM => ⟨5, 1, .ro⟩
  | .DEV_STATE_ROSC_UNQUAL => ⟨6, 1, .ro⟩
  | .DEV_STATE_ERR => ⟨8, 4, .ro⟩
  | .RESET_CAUSE_POR => ⟨0, 1, .w1c⟩
  | .RESET_CAUSE_BOR => ⟨1, 1, .w1c⟩
  | .RESET_CAUSE_COLD => ⟨2, 1, .w1c⟩
  | .RESET_CAUSE_WARM => ⟨3, 1, .w1c⟩
  | .SOFT_RESET_WARM => ⟨0, 1, .wo⟩
  | .SOFT_RESET_COLD => ⟨1, 1, .wo⟩
  | .SOFT_RESET_RECOVER => ⟨2, 1, .wo⟩
  | .SOFT_RESET_KEY => ⟨8, 8, .wo⟩
  | .SOFT_RESET_REFUSED => ⟨16, 1, .w1c⟩
  | .BOOT_STAT_IMAGE => ⟨0, 1, .ro⟩
  | .BOOT_STAT_FALLBACK => ⟨1, 3, .ro⟩
  | .BOOT_STAT_PREF => ⟨4, 2, .ro⟩
  | .BOOT_STAT_CFG_COPY => ⟨6, 1, .ro⟩
  | .BOOT_STAT_CFG_VALID => ⟨7, 1, .ro⟩
  | .INT_STAT => ⟨0, 27, .w1c⟩
  | .INT_EN => ⟨0, 27, .rw⟩
  | .INT_SPI_EN => ⟨0, 27, .rw⟩
  | .GPIO_FUNCg_FUNC => ⟨0, 4, .rw⟩
  | .GPIO_FUNCg_IN => ⟨8, 1, .ro⟩

/-- Default level of fault source `n` (R299). -/
def faultDefaultLevel (n : Nat) : Nat :=
  [3, 0, 1, 1, 3, 3, 2, 3, 3, 2, 2, 2, 0, 0, 0, 2, 4, 2, 1, 2, 2, 0, 0, 1, 1, 2, 1, 3, 1, 3, 1, 2, 2, 2, 2, 0, 1, 2, 0, 0, 2, 0, 0, 0, 0, 0, 0, 0, 0, 0, 2, 2, 2, 2, 2, 2, 2, 2, 0, 0, 0, 0, 3, 0].getD n 0

/-- END0 of mailbox channel `n` after power-on reset (R280). -/
def bindReset0 (n : Nat) : Nat := if n < 12 then 15 else 3

/-- END1 of mailbox channel `n` after power-on reset (R280). -/
def bindReset1 (n : Nat) : Nat := if n < 8 then 3 else if n < 12 then n - 4 else n - 8

/-- Value of a field after power-on reset: the Reset column. Where the column names the boot configuration, the silicon
trim or the start-up, the value before that step loads it is 0 (notes/assumptions/2.md). `n` is the instance. -/
def Field.reset (f : Field) (n : Nat) : Nat :=
  match f with
  | .INn_CFG_VTH => 5
  | .INn_DIV => 1
  | .INn_BOUND => 0xFFFFFFFF
  | .INn_WANDER => 1000
  | .INn_NOISE => 1000
  | .INn_MGATE => 1000
  | .ATOM_GATE => 1000
  | .MODEL_AGE => 0xFFFFFFFF
  | .MODEL_SPAN => 86400
  | .PLn_CTRL_AUTOCOMMIT => 1
  | .PLn_REFSEL_SRC => 31
  | .PLn_BW => 500000
  | .PLn_LOOP_DAMP => 181
  | .PLn_LOCK_LTHR => 100
  | .PLn_LOCK_LTIME => 10
  | .PLn_UNLOCK_UTHR => 1000
  | .PLn_UNLOCK_UCNT => 4
  | .PLn_SHADOW_CAND_SRC => 31
  | .PLn_SHADOW_STAT_SRC => 31
  | .PLn_COMMIT_PREF => 31
  | .PLn_STEER_BOUND => 0xFFFFFFFF
  | .PLn_FMAX => 10000
  | .PLn_HO_CFG_AVG => 300
  | .PLn_HO_CFG_GUARD => 5
  | .PLn_HOY => 0xFFFFFFFF
  | .PLn_HOD_ASSIST => 0xFFFFFFFF
  | .PLn_HOD_DEGR => 0xFFFFFFFF
  | .PLn_HOD_XO => 0xFFFFFFFF
  | .PLn_TEB => 0xFFFFFFFF
  | .APLLx_CTRL_BW => 1
  | .APLLx_CTRL_DITHER => 1
  | .APLLx_CTRL_AUTO_RELOCK => 1
  | .APLLx_DEP_DEP_THR => 4
  | .APLLx_DEP_DEP_CNT => 1
  | .OUTn_CFG_EDGE => 2
  | .OUTn_CFG_DRIVE => 1
  | .OUTn_CFG_STEPWRAP => 1
  | .OUTn_MINPER => 922
  | .OUTn_TPER => 1000000000
  | .OBb_BTSEL_GATE => 1000
  | .OBb_BTLIM => 50
  | .TEBp_TOTAL => 0xFFFFFFFF
  | .TEBp_REF => 0xFFFFFFFF
  | .TEBp_INP => 0xFFFFFFFF
  | .TEBp_LOOP => 0xFFFFFFFF
  | .TEBp_SW => 0xFFFFFFFF
  | .TEBp_GROW => 0xFFFFFFFF
  | .TEBp_CAL => 0xFFFFFFFF
  | .TEBp_OUTP => 0xFFFFFFFF
  | .TEBp_PROV => 0x1F
  | .STAMPj_CFG_DIV => 1
  | .YEe_TRAPCFG_MAXRST => 3
  | .LZn_CFG_ROLE => 1
  | .LZn_CFG_TXDRV => 1
  | .LZn_CFG_RXEQ => 1
  | .LZn_PEER_TEB => 0xFFFFFFFF
  | .LZn_ASYM_UNC => 0xFFFFFFFF
  | .LZn_LINKTERM => 0xFFFFFFFF
  | .LZn_ACAL_GATE => 100
  | .LZn_ACT_WAIT => 1000
  | .TOK_DVFS_MODE => 1
  | .TOK_DVFS_POINT => 3
  | .TOK_SQq_CFG_SIZE => 4
  | .TOK_SQq_CFG_WEIGHT => 1
  | .TOK_CQq_CFG_SIZE => 4
  | .TOK_CQq_TAIL_PHASE => 1
  | .TOK_CQq_IRQ_COUNT => 1
  | .GRN_STAT_KEYLESS => 1
  | .GRN_VGEN => 1
  | .GRN_TAMP_CFG_EN => 0x70
  | .MBn_BIND_END0 => bindReset0 n
  | .MBn_BIND_END1 => bindReset1 n
  | .MBn_STAT => 16
  | .FLT_CFG_PIN_LVL => 3
  | .FLT_CFG_ALIVE_EN => 1
  | .FLT_GRACE => 100
  | .FLT_QUIET => 100
  | .FLT_LVL => faultDefaultLevel n
  | .FLT_ALMa_CFG_LVL => 7
  | .EVR_COAL => 10
  | .EVR_TRACE_RSV => 256
  | .EVR_HCFG_SIZE => 8
  | .EVR_HTAIL_PHASE => 1
  | .EVR_HIRQ_COUNT => 1
  | .CLK_CTRL_SSC => 0xF
  | .PWR_STATE_MAX => 3
  | .PWR_KTIMER => 0xFFFFFFFF
  | .PWR_TOKCAP => 1000
  | .PWR_MGT_DVFS_POINT => 3
  | .PWR_SHED_CFG_STEP => 10
  | .PWR_SHED_CFG_EXIT => 10
  | .PWR_RAIL_MIN => 0xFFF
  | .CAL_CTRL_HITS => 20
  | .CAL_CTRL_MAXDEV => 40
  | .GLOBAL_ID_PART => 0x6416
  | .GLOBAL_ID_REV => 0xB1
  | .GLOBAL_MAP => 1
  | .RESET_CAUSE_POR => 1
  | .BOOT_STAT_PREF => 2
  | _ => 0

end Sys2Proof.Machine
end

