-- ==== Sys2Proof/Machine/Store.lean ====
section
/-!
DEFINITION. A sparse store: a list of (key, value) pairs, keys strictly rising, no entry equal to what an unlisted key
reads as. Registers, the boot flash and the engines' memories are held in this form.
-/
namespace Sys2Proof.Machine

variable {α : Type}

/-- The value at key `k`, or `d` where `k` is not listed. -/
def Store.get (m : List (Nat × α)) (k : Nat) (d : α) : α :=
  match m with
  | [] => d
  | (k', v) :: r => if k' = k then v else Store.get r k d

/-- `k` listed with `v`, at its place in the order. -/
def Store.put (m : List (Nat × α)) (k : Nat) (v : α) : List (Nat × α) :=
  match m with
  | [] => [(k, v)]
  | (k', v') :: r =>
    if k < k' then (k, v) :: (k', v') :: r
    else if k = k' then (k, v) :: r
    else (k', v') :: Store.put r k v

/-- `k` no longer listed. -/
def Store.drop (m : List (Nat × α)) (k : Nat) : List (Nat × α) :=
  match m with
  | [] => []
  | (k', v') :: r => if k' = k then Store.drop r k else (k', v') :: Store.drop r k

/-- A write of `v` at `k`, where an unlisted `k` reads as `d`: the canonical form is kept. -/
def Store.set [DecidableEq α] (m : List (Nat × α)) (k : Nat) (v d : α) : List (Nat × α) :=
  if v = d then Store.drop m k else Store.put m k v

/-- The canonical form: keys strictly rising, and no entry equal to its default. -/
def Store.wf [DecidableEq α] (dflt : Nat → α) (m : List (Nat × α)) : Bool :=
  match m with
  | [] => true
  | [(k, v)] => decide (v ≠ dflt k)
  | (k, v) :: (k', v') :: r => decide (v ≠ dflt k) && decide (k < k') && Store.wf dflt ((k', v') :: r)

end Sys2Proof.Machine
end

