-- ==== Sys2Proof/Machine/State.lean ====
section
/-!
DEFINITION. The state of the CL-6416, as plain data: every register field of the spec's tables (in `regs`, keyed by field and
instance), what each block keeps beside its registers, the instant on the device timescale, the writes the part has issued
as a master, and the queue of commands that wait. Lengths of time are in ps, frequencies fractional, unless said otherwise.
-/
namespace Sys2Proof.Machine

/-- The reasons for which a step stops as a fault. No command of the CL-6416 does: every effect of the spec is a next
state. Nothing raises it; safe. -/
inductive Fault where
  /-- raised by no command; it only gives the type an inhabitant; safe -/
  | none
  deriving DecidableEq, Repr

/-- The reasons for which a step is refused. -/
inductive Refusal where
  /-- raised by an arm of `exec` that has no meaning yet; safe -/
  | notModelled (mnemonic : String)
  deriving DecidableEq, Repr

/-! ## Masters (R8, R27, R375) -/

/-- What the device keeps for one master: the write holding register, the last word or pair a read returned to it, and
its read latches, by word address. -/
structure MasterState where
  hold : Word
  data : Word
  latch : List (Nat × Word)
  deriving DecidableEq, Repr

def MasterState.init : MasterState := ⟨0, 0, []⟩

/-! ## Reference inputs (R19 to R38) -/

/-- A phase sample (R21): the retained edge, or one commit of INn_SWPHASE (R25). -/
structure Sample where
  /-- edge time on the device timescale in ps, INn_DELAY subtracted -/
  time : Int
  /-- retained edges since the input was enabled -/
  ecnt : Nat
  /-- the edge's position on the prediction timescale, in ps -/
  pred : Rat
  /-- PTP_SW: the signed offset in ps, and the plane of R34 it was taken against -/
  offset : Option (Int × Nat)
  deriving DecidableEq, Repr

/-- A result of a measurement block as a read of its status register returns it (R27, R28): SEQ, VALID, the instant it was
formed at, and its data words. -/
structure Result where
  seq : Nat
  valid : Bool
  at_ : Nat
  a : DWord
  b : DWord
  c : DWord
  deriving DecidableEq, Repr

def Result.none : Result := ⟨0, false, 0, 0, 0, 0⟩

/-- What the Winnower keeps of one input beside its registers. -/
structure InputState where
  /-- retained edges since enable (ECNT) -/
  ecnt : Nat
  /-- instant from which T1 counts -/
  actFrom : Nat
  /-- T1 stands failed -/
  absent : Bool
  /-- edge time of the last retained edge, for the retained rate (R20) -/
  prevEdge : Option Nat
  /-- samples passed to the planes since the last tick, newest first -/
  fresh : List Sample
  /-- phase against the prediction timescale in ps, and the last sample's position on it -/
  phase : Rat
  prevPred : Option Rat
  /-- T3: the last 16 samples and, for each, whether it was a step, newest first -/
  last16 : List (Nat × Rat)
  steps : List Bool
  /-- the running measurement gate: its start, its first and last sample with their phases -/
  gateFrom : Option Nat
  gateFirst : Option (Sample × Rat)
  gateLast : Option (Sample × Rat)
  /-- the observation interval in progress: its start, and its samples' sum and number -/
  obsFrom : Nat
  obsSum : Rat
  obsCount : Nat
  /-- observations since enable or restart, newest first (at most two windows of 1000 s); none for an interval without a
  sample -/
  obs : List (Option Rat)
  /-- instant of the last evaluation of each window, and its latest divergence in ps (R36) -/
  evalAt : Vector Nat 3
  div : Vector Rat 3
  /-- the 1000 s window has been ready since enable or restart (R35) -/
  baseSet : Bool
  /-- instant at which the hold-off of R31 began -/
  holdFrom : Option Nat
  /-- the latest result (R27) and when it was formed; and the result before it (R28) -/
  measFreq : DWord
  measPhase : DWord
  measAt : Nat
  before : Result
  deriving DecidableEq, Repr

/-- An input right after power-on reset, after enable, and after a restart of qualification (R32). -/
def InputState.init : InputState where
  ecnt := 0
  actFrom := 0
  absent := true
  prevEdge := none
  fresh := []
  phase := 0
  prevPred := none
  last16 := []
  steps := []
  gateFrom := none
  gateFirst := none
  gateLast := none
  obsFrom := 0
  obsSum := 0
  obsCount := 0
  obs := []
  evalAt := Vector.replicate 3 0
  div := Vector.replicate 3 0
  baseSet := false
  holdFrom := none
  measFreq := 0
  measPhase := 0
  measAt := 0
  before := Result.none

/-! ## XO, ATOM_IN and the drift model (R39, R40, R76 to R84) -/

/-- The action of R82 waiting for the next tick. -/
inductive ModelAction where
  | load | clear
  deriving DecidableEq, Repr

/-- The XO and ATOM measurement block and the drift model, beside their registers. -/
structure XoState where
  /-- ATOM_IN edges since TYPE changed: their number, the first edge's time and the last edge's time -/
  atomCount : Nat
  atomFirst : Option Int
  atomLast : Option Int
  /-- times of the last edges since TYPE changed, newest first, at most eleven: the presence criterion's (R78) -/
  atomTimes : List Int
  /-- number of the edge at which the running fine gate began (R39) -/
  fineFrom : Option Nat
  /-- the running ATOM_GATE: its start, its length in s, and its edges (index, time), newest first -/
  gateFrom : Option Nat
  gateLen : Nat
  gateEdges : List (Nat × Int)
  /-- PRESENT was 0 at some moment of the running gate -/
  gateBroken : Bool
  /-- ATOM_IN samples since the last tick, newest first -/
  fresh : List Sample
  /-- the latest result of ATOM_MEAS, when it was formed, and the middle of its gate -/
  foff : DWord
  phase : DWord
  measAt : Nat
  measMid : Nat
  before : Result
  /-- the model as loaded: coefficients and the tick it was loaded at -/
  pend : Option ModelAction
  y0 : Int
  y1 : Int
  y2 : Int
  loadedAt : Nat
  /-- y_m at the last tick, and the prediction timescale: its reading at `predAt` -/
  y : Rat
  pred : Rat
  predAt : Nat
  deriving DecidableEq, Repr

def XoState.init : XoState where
  atomCount := 0
  atomFirst := none
  atomLast := none
  atomTimes := []
  fineFrom := none
  gateFrom := none
  gateLen := 1000
  gateEdges := []
  gateBroken := false
  fresh := []
  foff := 0
  phase := 0
  measAt := 0
  measMid := 0
  before := Result.none
  pend := none
  y0 := 0
  y1 := 0
  y2 := 0
  loadedAt := 0
  y := 0
  pred := 0
  predAt := 0

/-! ## Timing planes (R44 to R73) -/

/-- A term of the time error bound: so many ps, or unbounded (R154, R156). -/
inductive Bound where
  | ps (n : Nat)
  | unbounded
  deriving DecidableEq, Repr

/-- The seven terms of R154. -/
structure Terms where
  ref : Bound
  inp : Bound
  loop : Bound
  sw : Bound
  grow : Bound
  cal : Bound
  outp : Bound
  deriving DecidableEq, Repr

/-- The anchor of R63: the TIME-class reference last followed, its frozen terms, and the swap's instant. -/
structure Anchor where
  src : Nat
  ref : Bound
  inp : Bound
  since : Nat
  deriving DecidableEq, Repr

/-- The shadow loop of R64 and R65. -/
structure Shadow where
  /-- integrator and third pole, fractional frequency -/
  i : Rat
  w : Rat
  /-- O_s in ps -/
  offset : Rat
  /-- the loop has taken its first sample -/
  seeded : Bool
  lastUpd : Nat
  /-- start of the lock interval that is running -/
  lockFrom : Option Nat
  /-- consecutive updates beyond UTHR -/
  unlockRun : Nat
  deriving DecidableEq, Repr

def Shadow.init : Shadow := ⟨0, 0, 0, false, 0, none, 0⟩

/-- The growth term H of R61, the holdover age and what c_ho is formed from (R59). -/
structure Growth where
  /-- H runs -/
  run : Bool
  /-- H is unbounded until it next restarts -/
  unb : Bool
  h : Rat
  r : Rat
  /-- instant from which the age counts: the holdover entry or the last STEER; and the entry itself, t_e of R59 -/
  since : Nat
  entry : Nat
  cHist : Rat
  /-- y_m at the entry, under the model now applied -/
  yEntry : Rat
  /-- it was started by a commit issued for a loss that still stands: a holdover that follows continues it (R409) -/
  loss : Bool
  deriving DecidableEq, Repr

def Growth.init : Growth := ⟨false, false, 0, 0, 0, 0, 0, 0, false⟩

/-- What a speculation region keeps (R67 to R71). -/
structure Region where
  /-- preferred source -/
  pref : Nat
  /-- the commit pending was issued for the loss of the active source (R409), and when that happened -/
  forLoss : Bool
  lossAt : Nat
  /-- the master that opened it; an automatic commit's own region has none (R175) -/
  owner : Option Nat
  /-- ticks since the swap, and the word sent before it and since (R70) -/
  ticks : Nat
  cSnap : Int
  cSwap : Int
  /-- the preferred reference became GOOD within the window -/
  prefBack : Bool
  deriving DecidableEq, Repr

/-- The copy of the active state that a swap takes (R68, step 1). -/
structure Snapshot where
  state : Nat
  src : Nat
  i : Rat
  w : Rat
  c : Int
  pbo : Nat
  rsum : Nat
  bw : Nat
  damp : Nat
  m : Nat
  lthr : Nat
  ltime : Nat
  uthr : Nat
  ucnt : Nat
  cEntry : Int
  lockFrom : Option Nat
  unlockRun : Nat
  errs : List Rat
  anchor : Option Anchor
  hist : List (Nat × Int)
  growth : Growth
  frozen : Terms
  traced : Nat
  lastTime : Bool
  timeRef : Option (Nat × Bound × Bound)
  carry : Rat
  acq : Option Nat
  lossAt : Option Nat
  histValid : Nat
  deriving DecidableEq, Repr

/-- A plane beside its registers. -/
structure PlaneState where
  /-- the word computed at the last tick, LSB 2⁻⁴⁸ -/
  c : Int
  /-- integrator and third pole, fractional frequency -/
  i : Rat
  w : Rat
  /-- the word at the most recent entry to the current state (R48) -/
  cEntry : Int
  lockFrom : Option Nat
  unlockRun : Nat
  /-- acquisition mode to apply at the first update (R55) -/
  acq : Option Nat
  /-- e of the last 64 updates in ps, newest first -/
  errs : List Rat
  /-- LOCKED at least once since EN last changed from 0 to 1 (R128) -/
  everLocked : Bool
  /-- instant of the last update -/
  lastUpd : Nat
  /-- changes of the word sent: tick instant and word, newest first, as far back as c_last reaches (R61) -/
  words : List (Nat × Int)
  /-- instant at which the active source stopped being qualified (R58) -/
  lossAt : Option Nat
  /-- a write of REFSEL waits for the tick (R53) -/
  refWrite : Bool
  /-- the TIME-class reference last followed since EN was written 1, with its terms at its last use (R63) -/
  timeRef : Option (Nat × Bound × Bound)
  /-- holdover history, newest first: instant and word -/
  hist : List (Nat × Int)
  shadow : Shadow
  region : Option Region
  snap : Option Snapshot
  /-- word added after a recall, and for how many more ticks -/
  recallAdd : Int
  recallTicks : Nat
  /-- the declared bound latched by the last commit of PLn_STEER since entry to STEERED (R57) -/
  steerBound : Option Nat
  /-- STEERED has been entered and MODE has not returned to 0 since (R56) -/
  steered : Bool
  /-- rounding remainder of c_ho (R81) -/
  carry : Rat
  /-- the word sent to the outputs: c, with what a recall adds (R70) -/
  sent : Int
  /-- fraction of a unit of PBO that BLEED has moved (R72) -/
  bleed : Rat
  growth : Growth
  anchor : Option Anchor
  /-- terms at the last update that used the active source, or at holdover entry -/
  frozen : Terms
  /-- reference traced, coded as in R49, and whether the last source was of TIME class -/
  traced : Nat
  lastTime : Bool
  /-- the error and the shadow offset that PLn_UPD latches; and what it latched before the last update (R28) -/
  updErr : Int
  updOffset : Int
  before : Result
  /-- the terms and provenance of the last tick -/
  terms : Terms
  prov : Nat
  /-- the three declarations of d (R61) at the last tick since the state changed or H restarted: while they stand the bound
  of HOLDOVER and STEERED does not fall (R157); none: it may -/
  floorD : Option (Nat × Nat × Nat)
  deriving DecidableEq, Repr

/-- Every term unbounded: the bound of a plane that follows nothing. -/
def Terms.none : Terms := ⟨.unbounded, .unbounded, .unbounded, .unbounded, .unbounded, .unbounded, .unbounded⟩

def PlaneState.init : PlaneState where
  c := 0
  i := 0
  w := 0
  cEntry := 0
  lockFrom := none
  unlockRun := 0
  acq := none
  errs := []
  everLocked := false
  lastUpd := 0
  words := []
  lossAt := none
  refWrite := false
  timeRef := none
  hist := []
  shadow := Shadow.init
  region := none
  snap := none
  recallAdd := 0
  recallTicks := 0
  steerBound := none
  steered := false
  carry := 0
  sent := 0
  bleed := 0
  growth := Growth.init
  anchor := none
  frozen := Terms.none
  traced := 31
  lastTime := false
  updErr := 0
  updOffset := 0
  before := Result.none
  terms := Terms.none
  prov := 0x1F
  floorD := none

/-! ## APLLs and outputs (R85 to R133) -/

/-- An APLL beside its registers. -/
structure ApllState where
  /-- start of the lock attempt that runs; whether it is the one retry of R88 -/
  lockFrom : Nat
  retried : Bool
  /-- instant of the failure that waits for its retry -/
  failAt : Nat
  /-- departed since it last locked (R98) -/
  departed : Bool
  /-- corrections applied now, in 2⁻¹⁶ of full scale and in 1/64 ps (R96); 0 at power-on (entry 135) -/
  gain : Rat
  taps : Vector Rat 16
  deriving DecidableEq, Repr

def ApllState.init : ApllState := ⟨0, false, 0, false, 0, Vector.replicate 16 0⟩

/-- A ratio INT + NUM / DEN (R106). -/
structure Ratio where
  int : Nat
  num : Nat
  den : Nat
  deriving DecidableEq, Repr

/-- A running phase θ (R107): its value at an instant of the device timescale, the nominal period it advances by, the
number of the next rising edge to be placed, and the placement moved by steps, in ps. -/
structure Track where
  theta : Rat
  at_ : Rat
  period : Rat
  k : Int
  shift : Rat
  deriving DecidableEq, Repr

/-- A hop issued and not yet effective (R120). -/
structure HopPend where
  /-- the copy of the shadow ratio -/
  ratio : Ratio
  /-- that ratio is exact on the APLL in use (R124) -/
  ok : Bool
  sync : Bool
  /-- the sheaf it belongs to; an immediate hop has none -/
  sheaf : Option Nat
  /-- effective instant of an immediate hop, device timescale -/
  at_ : Nat
  /-- an edge at the new ratio is placed already: the phase as it was before (R121, R124) -/
  moved : Option Track
  deriving DecidableEq, Repr

/-- A source swap in progress (R98). -/
structure SwapPend where
  /-- the APLL the output moves to -/
  target : Nat
  /-- started by a departure, and not by software -/
  depart : Bool
  deriving DecidableEq, Repr

/-- What the driver shows (R126, R127): the fields in effect at the balls. -/
structure Driver where
  fmt : Nat
  edge : Nat
  drive : Nat
  pol : Nat
  deriving DecidableEq, Repr

/-- A high time of an output (R111): the emission of its rising edge, H, and the next rising edge, as predicted until it is
placed. -/
structure Pulse where
  rise : Rat
  high : Rat
  next : Rat
  deriving DecidableEq, Repr

/-- A sheaf's phase change that waits (R412): edges before `from_` keep the old setpoint, moved toward as a step or a slew.
`hop`: with a hop it waits for the member's first edge at the new ratio, in SYNC the aligned one. -/
structure PhaseWait where
  from_ : Rat
  old : Int
  oldStep : Bool
  hop : Bool
  deriving DecidableEq, Repr

/-- An output beside its registers. -/
structure OutState where
  /-- the phase the next edge is placed by -/
  cur : Track
  /-- the phase of an aligned or anchor edge to come (R112, R121), and whether it is a whole second of the TOD -/
  next : Option (Track × Bool)
  /-- the anchor edge of a start is not yet placed (R112) -/
  anchoring : Bool
  /-- word in force -/
  word : Int
  /-- plane written to OUTn_SRC.PL, waiting for the in-force boundary (R125) -/
  planeNext : Option Nat
  /-- steps of the plane's time that wait for the first edge not yet fixed, in ps, oldest first; true: an aligned edge to come
  reckons with the step already (R116, R121) -/
  steps : List (Rat × Bool)
  /-- the calibration correction in units of 1/64 ps that edges are placed with, and one that waits for the first edge not yet
  fixed (R357) -/
  corr : Int
  corrNext : Option Int
  /-- φ_now in units of 1/64 ps, exact -/
  phi : Rat
  /-- the change under way toward the setpoint is a step and not a slew (R114, R115) -/
  asStep : Bool
  phaseFrom : Option PhaseWait
  /-- emission of the last rising edge -/
  lastRise : Option Rat
  /-- high times that have not ended, newest first (R111) -/
  pulses : List Pulse
  /-- t_k − τ_k of the last edge -/
  backlog : Rat
  /-- |φ − φ_now| and backlog in ps as the last tick counted them, and how much of it slewing and catching up have taken away
  since (R157) -/
  errSeen : Rat
  errFell : Rat
  /-- the first edge after a start, once it is placed -/
  startedAt : Option Rat
  /-- the pending hop, and a sheaf's that was issued while an immediate one was pending (R123) -/
  hop : Option HopPend
  hopNext : Option HopPend
  swap : Option SwapPend
  driver : Driver
  /-- a change of the driver waiting for a falling edge, and that edge once it is known (R127) -/
  driverNext : Option (Driver × Option Rat)
  /-- instant from which the driver shows the squelch state, and the edge at which it resumes (R129) -/
  sqAt : Rat
  driveFrom : Rat
  /-- PPS and TIMED: TOD instants before this one, in ps, are dealt with (R110) -/
  instFrom : Rat
  deriving DecidableEq, Repr

def OutState.init : OutState where
  cur := ⟨0, 0, 0, 0, 0⟩
  next := none
  anchoring := false
  word := 0
  planeNext := none
  steps := []
  corr := 0
  corrNext := none
  phi := 0
  asStep := false
  phaseFrom := none
  lastRise := none
  pulses := []
  backlog := 0
  errSeen := 0
  errFell := 0
  startedAt := none
  hop := none
  hopNext := none
  swap := none
  driver := ⟨0, 2, 1, 0⟩
  driverNext := none
  sqAt := 0
  driveFrom := 0
  instFrom := 0

/-- A bank beside its registers: the running bank TDC gate, its result and the result before (R28), and the supply's return. -/
structure BankState where
  gateFrom : Option Nat
  bterr : DWord
  btmiss : Nat
  measAt : Nat
  before : Result
  supplyFrom : Option Nat
  deriving DecidableEq, Repr

def BankState.init : BankState := ⟨none, 0, 0, 0, Result.none, none⟩

/-- The command a sheaf has accepted (R123). -/
inductive SheafOp where
  | hop | phase | hopPhase
  deriving DecidableEq, Repr

/-- An armed or fixed command of a sheaf: what it does, on which plane, and E in ps of that plane's TOD. -/
structure SheafJob where
  op : SheafOp
  sync : Bool
  plane : Nat
  e : Rat
  /-- SHk_AT in ps of TOD -/
  at_ : Rat
  slipped : Bool
  /-- the members whose OUTn_PHASE has taken SHk_DPHASE; step 2, step 3 of the timing table have been taken -/
  phased : List Nat
  placed : Bool
  effective : Bool
  /-- members that kept their old ratio (R124) -/
  failed : List Nat
  deriving DecidableEq, Repr

/-! ## Time of day and stamps (R138 to R152) -/

/-- A pending TOD command with its operands (R141). -/
inductive TodCmd where
  | setTick (sec ns : Nat)
  | setSec (sec : Nat)
  | adj (units : Int)
  deriving DecidableEq, Repr

/-- TODp: its reading `base` (ps from the epoch) at the device-timescale instant `since`, and the word in force. -/
structure TodState where
  base : Rat
  since : Nat
  word : Int
  /-- what held before `since`: the start, the reading there and the word of each earlier stretch, newest first -/
  past : List (Nat × Rat × Int)
  /-- the pending command, with the tick and the whole second at its write -/
  cmd : Option (TodCmd × Nat × Nat)
  /-- the last whole second seen at a tick, for the leap table (R146) -/
  lastSec : Nat
  /-- the last whole second whose boundary has been raised (R144) -/
  secDone : Nat
  /-- steps of this TOD (STEPCNT of R216) -/
  steps : Nat
  deriving DecidableEq, Repr

def TodState.init : TodState := ⟨0, 0, 0, [], none, 0, 0, 0⟩

/-- The leap table and base offset as the last tick took them (R145): the valid entries' T_L and NEW, the base offset, and its VALID
bit. -/
structure UtcTable where
  leaps : List (Nat × Int)
  off : Int
  valid : Bool
  deriving DecidableEq, Repr

def UtcTable.init : UtcTable := ⟨[], 0, false⟩

/-- A time record: the six words of R147. -/
structure TimeRec where
  w0 : Word
  w1 : Word
  w2 : Word
  w3 : Word
  w4 : Word
  w5 : Word
  deriving DecidableEq, Repr

def TimeRec.zero : TimeRec := ⟨0, 0, 0, 0, 0, 0⟩

/-- A stamp channel: its FIFO, oldest first, the events counted toward DIV, the last accepted stamp's instant, and the instants of
events that are still to come, oldest first: a stamp is formed when its instant is reached (R139, R149). -/
structure StampState where
  fifo : List TimeRec
  count : Nat
  last : Option Int
  waits : List Int
  deriving DecidableEq, Repr

def StampState.init : StampState := ⟨[], 0, none, []⟩

/-! ## Faults and events (R299 to R318) -/

/-- An open fault (R302). `src` 0 to 63. -/
structure OpenFault where
  src : Nat
  level : Nat
  inj : Bool
  lvlact : Bool
  /-- start of its grace timer, while one runs -/
  grace : Option Nat
  deriving DecidableEq, Repr

/-- A masking window (R306): the detectors it covers, until when, and whether an injection opened it. -/
structure MaskWindow where
  deps : List Nat
  until_ : Option Nat
  /-- an APLL_SWAP window ends with the swap of this APLL's outputs -/
  apll : Option Nat
  /-- the source whose reaction opened it, and its instance -/
  reaction : Nat
  inst : Nat
  inj : Bool
  /-- when it opened -/
  start : Nat
  deriving DecidableEq, Repr

/-- The fault collector beside its registers. -/
structure FaultState where
  open_ : List OpenFault
  windows : List MaskWindow
  quietFrom : Option Nat
  deriving DecidableEq, Repr

def FaultState.init : FaultState := ⟨[], [], none⟩

/-- Class of an event entry (R314). -/
inductive EvClass where
  | alarm | log | trace
  deriving DecidableEq, Repr

/-- An entry of the on-chip ring (R314), phase bit 0. -/
structure Entry where
  cls : EvClass
  words : Vector Word 8
  deriving DecidableEq, Repr

/-- A pending record of the Gleaner (R315, R316): merged events of one source. `sev` is the highest merged. -/
structure MergeRec where
  src : Nat
  sev : Nat
  inj : Bool
  conseq : Bool
  count : Nat
  first : TimeRec
  last : TimeRec
  deriving DecidableEq, Repr

/-- What is posted: class, source number of R313, severity, flags and data (R314). -/
structure Posting where
  cls : EvClass
  src : Nat
  sev : Nat := 0
  inj : Bool := false
  conseq : Bool := false
  data0 : Nat := 0
  data1 : Nat := 0
  data2 : Nat := 0
  deriving DecidableEq, Repr

/-- The event path beside its registers. -/
structure EventState where
  /-- the on-chip ring, oldest first -/
  ring : List Entry
  /-- pending records: of log sources, and of alarm sources that found the ring full -/
  logs : List MergeRec
  alarms : List MergeRec
  /-- holds running: source and start -/
  holds : List (Nat × Nat)
  /-- unsignalled entries of the host ring and the first one's instant -/
  unsignalled : Nat
  firstAt : Nat
  /-- the model's own: what a plane tick that is being worked has posted so far; none between commands -/
  inTick : Option (List Posting)
  /-- the last injection: its instant, and how many entries entered the ring from it on (R308) -/
  injected : Option (Nat × Nat)
  deriving DecidableEq, Repr

def EventState.init : EventState := ⟨[], [], [], [], 0, 0, none, none⟩
/-! ## Board calibration (R347 to R361) -/

/-- What one calibrated element holds or is to take: nothing for its silicon trim; a TDC's 32 upper bin edges in 1/16 ps
and its offset in 1/64 ps; an output's correction in 1/64 ps (R354, R357). -/
inductive CalValue where
  | trim
  | tdc (edges : List Nat) (offset : Int)
  | out (corr : Int)
  deriving DecidableEq, Repr

/-- What a run has measured so far. -/
structure CalResult where
  tj : Int
  edges : List (List Nat)
  offsets : List Int
  corrs : List (Nat × Int)
  deltas : List (Nat × List Int)
  deriving DecidableEq, Repr

def CalResult.init : CalResult := ⟨0, [], [], [], []⟩

/-- Board calibration beside its registers. -/
structure CalData where
  /-- start of the phase in progress, and the stimulus rate counted in step 2, in Hz -/
  phaseAt : Nat
  rate : Nat
  result : CalResult
  /-- the image window, by word index; an unlisted word reads 0 -/
  window : List (Nat × Word)
  /-- elements in force, by index: TDC t is t, output n is 25 + n; an unlisted one has its silicon trim -/
  inForce : List (Nat × CalValue)
  /-- elements that wait for their boundary, with the value each takes -/
  waiting : List (Nat × CalValue)
  /-- the elements move to silicon trims, so DEFAULT follows and not APPLIED -/
  reverting : Bool
  /-- REVERT was written during a run: the DTC tables take their silicon trims when it ends (R350, R358) -/
  tables : Bool
  deriving DecidableEq, Repr

def CalData.init : CalData := ⟨0, 0, CalResult.init, [], [], [], false, false⟩

/-! ## Start-up (R362 to R374) -/

/-- Start-up and reset beside DEV_STATE. -/
structure BootState where
  /-- the main supplies are good (R392), and since when step 2 or the running step counts -/
  supplies : Bool
  stepAt : Nat
  /-- VBAT holds AON in KEEP (R18) -/
  keep : Bool
  /-- the fuse and trim check of step 3 stands failed (R364) -/
  otpBad : Bool
  /-- the boot configuration has been read since step 3 (R365) -/
  cfgRead : Bool
  /-- a warm reset runs: its origin (R372) -/
  warmAt : Option Nat
  /-- its step 3 has come: what it does not keep is held in reset (R372) -/
  held : Bool
  /-- the planes whose open region it closed, a bit each (R73) -/
  cut : Nat
  /-- a brown-out has reset the part and its supplies are not good again (R342, R392) -/
  brown : Bool
  /-- DEV_STATE.KEEPER has read RUNNING since the last start (R373) -/
  keeperRan : Bool
  deriving DecidableEq, Repr

def BootState.init : BootState := ⟨false, 0, false, false, false, none, false, 0, false, false⟩


/-! ## Mailboxes (R280 to R290) -/

/-- One direction of a channel: the committed words, oldest first, and the message being built. -/
structure MbQueue where
  words : List Word
  /-- words of the message being built, oldest first, and how many payload words are still to come -/
  build : List Word
  left : Nat
  /-- words still to come of a message whose header was discarded (R285) -/
  drop : Nat
  /-- start of the timer of R288, while it runs -/
  timer : Option Nat
  /-- the message that committed last: its instant, its words, and whether it raised the receiver's RX_MSG (R290) -/
  lastMsg : Option (Nat × Nat × Bool)
  deriving DecidableEq, Repr

def MbQueue.init : MbQueue := ⟨[], [], 0, 0, none, none⟩

/-- What a channel keeps for one of its ends (the "per end" fields of R298). -/
structure MbEnd where
  epoch : Byte
  /-- MBn_EV bits 0 to 5 -/
  ev : Nat
  /-- MBn_CTRL: IE_RX, IE_EMPTY, IE_TMO -/
  ieRx : Bool
  ieEmpty : Bool
  ieTmo : Bool
  /-- MBn_STAT.TX_TMO and EMPTY_CAUSE -/
  txTmo : Bool
  cause : Nat
  /-- instant of its last reset (R290) -/
  resetAt : Option Nat
  deriving DecidableEq, Repr

def MbEnd.init : MbEnd := ⟨0, 0, false, false, false, false, 0, none⟩

/-- A channel: its ends 0 and 1, and the queue that each end sends into. -/
structure Mailbox where
  ends : Vector MbEnd 2
  out : Vector MbQueue 2
  /-- MBn_EV.WERR, one bit for each master -/
  werr : Nat
  deriving DecidableEq, Repr

def Mailbox.init : Mailbox := ⟨Vector.replicate 2 MbEnd.init, Vector.replicate 2 MbQueue.init, 0⟩

/-! ## The keeper (R291 to R297, R368 to R370) -/

/-- The keeper and the boot ROM, beside DEV_STATE, BOOT_STAT and MB_KEEPER. -/
structure KeeperState where
  /-- an image has been started, and VERSION of its header -/
  version : Word
  /-- instant of the last release of the MCP from reset, and of the last change of BEAT since -/
  bootAt : Nat
  beatAt : Option Nat
  /-- instant at which the keeper that runs started; its restarts in succession within 200 ms of starting; and the images
  that have failed so, bit 0 A and bit 1 B (R368) -/
  startAt : Nat
  hangs : Nat
  hung : Nat
  /-- the MCP is to go into the recovery service (R370) -/
  toRecovery : Bool
  /-- the channel whose RECOVERY_REBOOT is taken and whose reply is not yet sent whole (R370) -/
  rebooting : Option (Fin 16)
  /-- parts of unfinished replies, by channel (R292) -/
  owed : Vector (List (List Word)) 16
  /-- since when every window has been below 70 % while a class is shed, and below 50 % with nothing shed (R296) -/
  below70 : Option Nat
  below50 : Option Nat
  /-- the latest telemetry sample, empty before the first, and the fit residual of the last refit (R294, R295) -/
  sample : List Word
  residual : Word
  /-- instant of the last refit and of the last sample -/
  refitAt : Nat
  sampleAt : Nat
  /-- the ATOM_MEAS results the keeper holds, newest first: middle of the gate, ATOM_FOFF, gate length in s (R84) -/
  series : List (Nat × Int × Nat)
  /-- SHA-256 of the running image (R294) -/
  digest : List Byte
  deriving DecidableEq, Repr

def KeeperState.init : KeeperState :=
  ⟨0, 0, none, 0, 0, 0, false, none, Vector.replicate 16 [], none, none, [], 0, 0, 0, [], []⟩

/-! ## Clocks and power (R321 to R345) -/

/-- The clock and power controller beside its registers. -/
structure ClkState where
  /-- consecutive cross-check counts in range (R322) -/
  xchk : Nat
  /-- consecutive good monitor windows of the primary source of SYS, OUT and MGT (R326) -/
  prim : Vector Nat 3
  /-- islands held in reset, by island code (R301, R372) -/
  held : Nat
  /-- a gate request waits for an idle handshake, by island code, and the instant of each request (R329) -/
  gating : Nat
  gatingAt : Vector Nat 8
  /-- MGT is gated and has been so in DOZE, which stops its multiplier (R334) -/
  deep : Bool
  /-- a DVFS step of MGT in progress: its target, its beginning, and the one request held (R332, R333) -/
  step : Option Nat
  stepAt : Nat
  stepHeld : Option Nat
  /-- writes of TOK_SQq_TAIL and LZn_CFG that wait for their island to wake, oldest first: master, address, value
  (R330) -/
  writes : List (Fin 16 × Nat × Word)
  /-- device timescale instant at which PWR_KTIMER was written; its value counts down from there (R346) -/
  ktimerAt : Nat
  /-- since when TOK has been idle (R336) -/
  tokIdle : Option Nat
  /-- instant of the next output that SHED3 switches off or on (R340), and of the last change of stage (R339) -/
  shedNext : Nat
  shedAt : Nat
  /-- the last cross-check count lay out of range (R322) -/
  xbad : Bool
  /-- the point that TOK ran at in AUTO mode before LEAN (R334) -/
  tokRun : Nat
  /-- instant of the last change of each GPIO's filtered level (R231, R344) -/
  gpioAt : Vector Nat 16
  /-- the monitor of MGT tests only windows that begin after this instant: the last switch of its mux, or its last ungating
  (R332, R335) -/
  monFrom : Option Nat
  /-- instant of the last wake of each island, by island code (R329) -/
  wokeAt : Vector (Option Nat) 8
  deriving DecidableEq, Repr

def ClkState.init : ClkState :=
  ⟨0, Vector.replicate 3 0, 0, 0, Vector.replicate 8 0, false, none, 0, none, [], 0, some 0, 0, 0, false, 3, Vector.replicate 16 0, none,
    Vector.replicate 8 none⟩

/-! ## Host interface (R376 to R386) -/

/-- An entry of the MSI-X table: message address and data, and the mask bit of the vector control word. -/
structure MsixEntry where
  addr : DWord
  data : Word
  mask : Bool
  deriving DecidableEq, Repr

/-- A capability of configuration space (R376). -/
inductive PciCap where
  | powerManagement | express | msix | errorReporting | serialNumber
  deriving DecidableEq, Repr

/-- What a memory BAR asks for (R376). -/
structure PciBar where
  bits : Nat
  prefetchable : Bool
  bytes : Nat
  deriving DecidableEq, Repr

/-- What configuration space presents (R376): Vendor and Device ID, Revision ID, class code, Subsystem Vendor and Subsystem ID, Device
Serial Number; its BARs, capabilities and limits; and the fields that the host writes. -/
structure PciIdentity where
  vendor : Nat
  device : Nat
  revision : Nat
  classCode : Nat
  subVendor : Nat
  subsystem : Nat
  serial : DWord
  functions : Nat
  bar0 : PciBar
  /-- BAR1 to BAR5 -/
  bars : Vector Nat 5
  interruptPin : Nat
  caps : List PciCap
  /-- MSI-X: vectors, and where the table and the PBA lie in BAR0 -/
  vectors : Nat
  table : Nat
  pba : Nat
  /-- Max Payload Size and Max Read Request Size in bytes -/
  payload : List Nat
  readRequest : Nat
  /-- ASPM L0s and L1; Function Level Reset -/
  l0s : Bool
  l1 : Bool
  flr : Bool
  /-- link widths, and rates in units of 0.1 GT/s -/
  widths : List Nat
  rates : List Nat
  /-- Bus Master Enable, D3hot, MSI-X Enable and Function Mask as they stand -/
  busMaster : Bool
  d3 : Bool
  msixOn : Bool
  msixMask : Bool
  deriving DecidableEq, Repr

/-- The PCIe controller, the MSI-X table and the SPI port. -/
structure HifState where
  /-- the link is in DL_Up -/
  up : Bool
  /-- Bus Master Enable, D3hot, MSI-X Enable and Function Mask of configuration space -/
  busMaster : Bool
  d3 : Bool
  msixOn : Bool
  msixMask : Bool
  table : Vector MsixEntry 64
  pba : DWord
  /-- SPI: writes received and not yet performed, oldest first, each a word or a pair with its address; and FERR (R384) -/
  spiHeld : List (Nat × List Word)
  ferr : Bool
  deriving DecidableEq, Repr

def HifState.init : HifState := ⟨false, false, false, false, false, Vector.replicate 64 ⟨0, 0, true⟩, 0, [], false⟩

/-- What the part sends to the outside while a command runs. -/
inductive Sent where
  /-- a memory write on PCIe by master 8 or 9 -/
  | hostWrite (m : Fin 16) (addr : Nat) (data : List Byte)
  /-- an MSI-X message: vector, address and data of its table entry -/
  | msix (v : Fin 64) (addr : DWord) (data : Word)
  /-- a completion of a PCIe read with data, or with unsupported-request status -/
  | completion (words : List Word)
  | unsupported
  /-- words or a status byte returned on SPI_MISO -/
  | spi (words : List Word)
  | spiStatus (b : Byte)
  /-- the characters of a Lenuz line up to its next frame (R215) -/
  | frame (link : Fin 4) (chars : List Symbol)
  deriving DecidableEq, Repr

/-- What the balls of an output show (R126, R129): high impedance; low, the N ball of a differential pair high; or the driver
with its level, POL applied. -/
inductive OutPad where
  | hiZ
  | low
  | driven (d : Driver) (high : Bool)
  deriving DecidableEq, Repr

/-- Level of a GPIO ball (R406). -/
inductive GpioLevel where
  | hiZ | low | high
  deriving DecidableEq, Repr

/-- What the part shows outside: the pins of R126, R310, R382 and R406, `faultN` and `intN` true while asserted; and what
configuration space presents, none while the link is down (R376, R377). -/
structure Pins where
  faultN : Bool
  alive : Bool
  intN : Bool
  gpio : Vector GpioLevel 16
  outs : Vector OutPad 64
  pci : Option PciIdentity
  deriving DecidableEq, Repr

def Pins.init : Pins := ⟨false, false, false, Vector.replicate 16 .hiZ, Vector.replicate 64 .hiZ, none⟩

/-! ## Yacor engines (R161 to R190) -/

/-- A timer: RUN, PERIODIC, PEND, the value V, the instant of expiry, and the instant at which PEND was last set (R174). -/
structure YeTimer where
  run : Bool
  periodic : Bool
  pend : Bool
  v : Nat
  expiry : Nat
  pendAt : Nat
  deriving DecidableEq, Repr

def YeTimer.init : YeTimer := ⟨false, false, false, 0, 0, 0⟩

/-- A master's write of a DMEM word in a YAC cycle: the cycle, the word, and what the word held before it (R164). -/
structure DmemPut where
  cycle : Nat
  word : Nat
  old : DWord
  deriving DecidableEq, Repr

/-- A WAITEV that waits: destination, line mask, timer mask (R173). -/
structure Waiting where
  rd : Fin 16
  mask : DWord
  tm : Fin 16
  deriving DecidableEq, Repr

/-- An engine's architectural state but for EVPEND and EVOVF (R161), and what its control keeps. -/
structure Engine where
  /-- word address of the next instruction; 4096 after word 4095 -/
  pc : Nat
  g : Vector DWord 16
  p : Vector Bool 4
  timers : Vector YeTimer 4
  cyc : DWord
  /-- IMEM and DMEM by word; an unlisted word is 0 -/
  imem : List (Nat × Word)
  dmem : List (Nat × DWord)
  /-- YEe_SIG0 to YEe_SIG15 -/
  sig : Vector Word 16
  wait : Option Waiting
  /-- the STEP in progress halts at the next boundary -/
  stepping : Bool
  /-- instant from which the watchdog counts (R179) -/
  wdFrom : Nat
  /-- instant of the last trap, of the restart that is due, and of the first counted restart (R180) -/
  trapAt : Nat
  restartAt : Option Nat
  firstRestart : Nat
  /-- VERIFY has been written and START not since (R189) -/
  watch : Bool
  /-- the key of slot SIGSLOT when VERIFY was written: its coordinates; none where the slot held no CODESIGN key (R188, R264) -/
  verKey : Option (Nat × Nat)
  /-- a shed engine was waiting (R184) -/
  shedWait : Bool
  /-- the words of DMEM that masters have written in the latest YAC cycle in which they wrote any (R164) -/
  puts : List DmemPut
  deriving DecidableEq, Repr

def Engine.init : Engine where
  pc := 0
  g := Vector.replicate 16 0
  p := Vector.replicate 4 false
  timers := Vector.replicate 4 YeTimer.init
  cyc := 0
  imem := []
  dmem := []
  sig := Vector.replicate 16 0
  wait := none
  stepping := false
  wdFrom := 0
  trapAt := 0
  restartAt := none
  firstRestart := 0
  watch := false
  verKey := none
  shedWait := false
  puts := []

/-! ## Token engine (R235 to R259) -/

/-- An entry of the key cache: a slot's key at an epoch, and for a master key the cookie key (R253). -/
structure CacheEntry where
  slot : Nat
  epoch : Nat
  key : List Byte
  cookie : List Byte
  deriving DecidableEq, Repr

/-- What a descriptor's fetch has read: the descriptor, the source, the destination prefix of an NTS_RESP, and whether
every read succeeded. -/
structure Fetched where
  desc : List Byte
  src : List Byte
  pre : List Byte
  ok : Bool
  deriving DecidableEq, Repr

/-- What a finished job is to write: status, output, key epoch and key slot (R240). -/
structure JobResult where
  status : Nat
  out : List Byte
  /-- bytes written to DST_ADDR that OUT_LEN counts -/
  len : Nat
  epoch : Nat
  keyslot : Nat
  deriving DecidableEq, Repr

/-- An admitted job. -/
structure Job where
  tag : Nat
  sq : Fin 4
  cq : Fin 4
  inp : Fetched
  /-- the slots and epochs that its snapshot pins (R253) -/
  pins : List (Nat × Nat)
  /-- admission second (R242) -/
  admitSec : Nat
  /-- the record of its stamp stage, and the offset that its NTP form uses (R146, R153) -/
  stamp : Option (TimeRec × Int)
  /-- a RESPOND job's key work (R247, steps 1 to 7): the request's keys and the fresh cookies -/
  work : Option (List Byte × List (List Byte))
  result : Option JobResult
  deriving DecidableEq, Repr

/-- A completion ring's interrupt moderation (R238): unsignalled completions and the first one's instant. -/
structure CqState where
  unsignalled : Nat
  firstAt : Nat
  deriving DecidableEq, Repr

/-- The token engine beside its registers. -/
structure TokState where
  fetched : Vector (List Fetched) 4
  jobs : List Job
  cache : List CacheEntry
  cqs : Vector CqState 4
  nonceKey : Option (List Byte)
  nonceCtr : Nat
  /-- a fetched descriptor's wait for a cache entry is counted already, by ring -/
  waiting : Vector Bool 4
  /-- admissions that each ring may still make before its weight counts anew (R236) -/
  credit : Vector Nat 4
  /-- since when the load asks for a step up, and for a step down; the step in progress and its beginning (R258, R332) -/
  upFrom : Option Nat
  downFrom : Option Nat
  step : Option Nat
  stepAt : Nat
  stepHeld : Option Nat
  deriving DecidableEq, Repr

def TokState.init : TokState where
  fetched := Vector.replicate 4 []
  jobs := []
  cache := []
  cqs := Vector.replicate 4 ⟨0, 0⟩
  nonceKey := none
  nonceCtr := 0
  waiting := Vector.replicate 4 false
  credit := Vector.replicate 4 0
  upFrom := none
  downFrom := some 0
  step := none
  stepAt := 0
  stepHeld := none

/-! ## Granary (R261 to R278) -/

/-- A staged entry: an operation of a capsule with the EPOCH it will give (R268, R270). -/
structure StagedOp where
  slot : Fin 64
  usage : Nat
  lock : Bool
  ypar : Bool
  key : BitVec 256
  epoch : Nat
  deriving DecidableEq, Repr

/-- The Granary beside its registers. -/
structure GranaryState where
  rs : BitVec 256
  keys : Vector (BitVec 256) 64
  /-- the identity key: the scalar d and the point Q; zero while keyless -/
  d : Nat
  qx : Nat
  qy : Nat
  /-- the staging area: KIND, CTR and the entries of the capsule -/
  kind : Nat
  ctr : Nat
  staged : List StagedOp
  /-- the commit word (R271); 0 while cleared -/
  word : DWord
  /-- GRN_CAPWIN by word -/
  win : List (Nat × Word)
  /-- GRN_PUB_SEL by master identity -/
  pubSel : Vector Nat 16
  /-- to be reported at the next start-up (R277) -/
  keepTamper : Bool
  /-- a health test of the entropy source has failed since it last passed (R252) -/
  entropyBad : Bool
  /-- TAMPn_OUT of the tamper loops (R275) -/
  tampOut : Vector Bool 4
  deriving DecidableEq, Repr

def GranaryState.init : GranaryState where
  rs := 0
  keys := Vector.replicate 64 0
  d := 0
  qx := 0
  qy := 0
  kind := 0
  ctr := 0
  staged := []
  word := 0
  win := []
  pubSel := Vector.replicate 16 0
  keepTamper := false
  entropyBad := false
  tampOut := Vector.replicate 4 false


/-! ## Lenuz links (R213 to R233) -/

/-- What a gate of a pair-swap run has collected: the number of offsets, their sum in ps and the sum of their squares. -/
structure GateSum where
  n : Nat
  sum : Rat
  sq : Rat
  deriving DecidableEq, Repr

def GateSum.zero : GateSum := ⟨0, 0, 0⟩

/-- What the peer's latest valid frame said (R216). -/
structure LinkPeer where
  role : Nat
  cal : Bool
  following : Bool
  active : Bool
  stepcnt : Nat
  prio : Nat
  devid : Word
  /-- TEB and PROV of its TXREC -/
  teb : Word
  prov : Word
  seq : Nat
  deriving DecidableEq, Repr

/-- A link beside its registers. -/
structure LinkState where
  /-- the frames received since the last tick: the instant of each and its θ in ps (R219, R220) -/
  fresh : List (Nat × Rat)
  /-- no valid frame yet, or the peer's latest TXREC shows its plane in FREERUN (R223) -/
  peerFree : Bool
  peer : Option LinkPeer
  /-- number of the next frame sent, and the microsecond of the last; the record and correction word of its marker -/
  seq : Nat
  sentUs : Option Nat
  txRec : Option TimeRec
  txWord : Int
  /-- the last 256 departure and arrival stamps, newest first: SEQ and TOD in units of 2⁻¹⁶ ns (R218) -/
  departs : List (Nat × Nat)
  arrivals : List (Nat × Nat)
  /-- the last 16 frames received, newest first: whether each was valid (R222) -/
  recent : List Bool
  /-- consecutive valid frames in SYNC (R221) -/
  run : Nat
  /-- instant of the last valid frame since SYNC was entered, or of that entry; and of the last entry to UP -/
  validAt : Nat
  upAt : Nat
  /-- rtd of the running millisecond in ps, and its start; the latest mean of all (R226), the latest since UP was entered from
  SYNC, and how many of these have been steady (R221) -/
  rtd : GateSum
  rtdFrom : Nat
  mean : Option Rat
  upMean : Option Rat
  steady : Nat
  /-- frames sent since a pair-swap run was accepted, of which the first is its origin, and its three gates (R228) -/
  cal : Option Nat
  gates : Vector GateSum 3
  /-- frames seen since the peer's CAL rose -/
  peerCal : Option Nat
  /-- the latest result of LZn_MEAS, the result before it (R28), and the tick and instant of the last sample delivered
  (R220, R226) -/
  offset : DWord
  before : Result
  measTick : Nat
  sampleAt : Nat
  /-- since when the link has not been LOCKED (R231) -/
  unlockedAt : Nat
  deriving DecidableEq, Repr

def LinkState.init : LinkState where
  fresh := []
  peerFree := true
  peer := none
  seq := 0
  sentUs := none
  txRec := none
  txWord := 0
  departs := []
  arrivals := []
  recent := []
  run := 0
  validAt := 0
  upAt := 0
  rtd := GateSum.zero
  rtdFrom := 0
  mean := none
  upMean := none
  steady := 0
  cal := none
  gates := Vector.replicate 3 GateSum.zero
  peerCal := none
  offset := 0
  before := Result.none
  measTick := 0
  sampleAt := 0
  unlockedAt := 0

/-! ## The state -/

/-- The state of the device and the queue of commands that wait. -/
structure State where
  /-- the instant: the device timescale in ps (02, introduction) -/
  now : Nat
  /-- the timebase and the TODs run (R366) -/
  timebase : Bool
  /-- the instant at which the timebase started (R366) -/
  tick0 : Nat
  /-- plane ticks taken; tick j falls j × 8 µs after the start (R44) -/
  tick : Nat
  /-- the words of the last tick are not yet in force (R108) -/
  due : Bool
  /-- every register field, by key (field, instance); an unlisted one holds its reset value -/
  regs : List (Nat × Nat)
  /-- what is kept for each master identity (R375) -/
  masters : Vector MasterState 16
  /-- the model's own: counts the free values drawn -/
  draw : Nat
  /-- the reference inputs (R19 to R38) -/
  inputs : Vector InputState 16
  /-- XO, ATOM_IN and the drift model (R39, R40, R79 to R83) -/
  xo : XoState
  /-- the timing planes (R44 to R73) -/
  planes : Vector PlaneState 4
  /-- the two APLLs (R85 to R101) -/
  aplls : Vector ApllState 2
  /-- the outputs (R105 to R131) -/
  outs : Vector OutState 64
  /-- the output banks (R131, R132) -/
  banks : Vector BankState 8
  /-- the sheafs' armed commands (R122 to R124) -/
  sheafs : Vector (Option SheafJob) 16
  /-- time of day (R138 to R146) -/
  tods : Vector TodState 4
  /-- UTC and leap seconds in effect (R145) -/
  utc : UtcTable
  /-- stamp channels (R149, R150) -/
  stamps : Vector StampState 16
  /-- records captured by STAMP_NOW (R151) -/
  stampNow : Vector TimeRec 4
  /-- the fault collector (R299 to R312) -/
  faults : FaultState
  /-- the event path (R313 to R318) -/
  events : EventState
  /-- EVPEND of each Yacor engine (R172) -/
  evpend : Vector DWord 4
  /-- EVOVF of each Yacor engine (R172) -/
  evovf : Vector DWord 4
  /-- the latest YAC cycle with a pulse on an event line, and the lines that pulsed in it (R172) -/
  pulsed : Nat × DWord
  /-- what hardware set or counted in the present SYS cycle: the cycle's number, a field's key, the bits or the amount
  (R7) -/
  sets : List (Nat × Nat × Nat)
  /-- islands with a wake source since the last command, a bit each by island code (R337): they wake as the next begins -/
  wakes : Nat
  /-- vectors whose INT_STAT bit rose while enabled and whose message is not yet sent (R382) -/
  msiDue : DWord
  /-- board calibration (R347 to R361) -/
  cal : CalData
  /-- start-up and reset (R362 to R374) -/
  boot : BootState
  /-- the mailbox channels (R280 to R290) -/
  mbox : Vector Mailbox 16
  /-- the keeper and the boot ROM (R291 to R297, R368) -/
  keeper : KeeperState
  /-- the QSPI boot flash, 8 MiB; an unlisted byte is erased and reads 0xFF -/
  flash : List (Nat × Byte)
  /-- 4 KiB sectors written since their last erase (R370) -/
  flashDirty : List Nat
  /-- clocks, gating, DVFS, shedding (R321 to R345) -/
  clk : ClkState
  /-- the host interface (R376 to R386) -/
  hif : HifState
  /-- what the part has sent outside during the last command, oldest first -/
  sent : List Sent
  /-- the pins (R310, R382, R406) -/
  pins : Pins
  /-- the Yacor engines (R161 to R190) -/
  engines : Vector Engine 4
  /-- the token engine (R235 to R259) -/
  tok : TokState
  /-- the Granary (R261 to R278) -/
  grn : GranaryState
  /-- the Lenuz links (R213 to R233) -/
  links : Vector LinkState 4
  /-- commands that wait, first in, first out -/
  pending : List Instr
  deriving DecidableEq, Repr

/-- The device right after power-on reset: every field of the register tables at its Reset column, every block idle,
nothing waiting. -/
def State.reset : State where
  now := 0
  timebase := false
  tick0 := 0
  tick := 0
  due := false
  regs := []
  masters := Vector.replicate 16 MasterState.init
  draw := 0
  inputs := Vector.replicate 16 InputState.init
  xo := XoState.init
  planes := Vector.replicate 4 PlaneState.init
  aplls := Vector.replicate 2 ApllState.init
  outs := Vector.replicate 64 OutState.init
  banks := Vector.replicate 8 BankState.init
  sheafs := Vector.replicate 16 none
  tods := Vector.replicate 4 TodState.init
  utc := UtcTable.init
  stamps := Vector.replicate 16 StampState.init
  stampNow := Vector.replicate 4 TimeRec.zero
  faults := FaultState.init
  events := EventState.init
  evpend := Vector.replicate 4 0
  evovf := Vector.replicate 4 0
  pulsed := (0, 0)
  sets := []
  wakes := 0
  msiDue := 0
  cal := CalData.init
  boot := BootState.init
  mbox := Vector.replicate 16 Mailbox.init
  keeper := KeeperState.init
  flash := []
  flashDirty := []
  clk := ClkState.init
  hif := HifState.init
  sent := []
  pins := Pins.init
  engines := Vector.replicate 4 Engine.init
  tok := TokState.init
  grn := GranaryState.init
  links := Vector.replicate 4 LinkState.init
  pending := []

end Sys2Proof.Machine
end

