-- ==== Sys2Proof/Machine/Ops.lean ====
section
/-!
DEFINITION. The named operations over the state that every command is built from: register fields (R5 to R7), the instant,
exact arithmetic and its roundings, free values.
-/
namespace Sys2Proof.Machine

/-! ## Register fields -/

/-- The key of a field of instance `n` in `State.regs`. -/
def Field.key (f : Field) (n : Nat) : Nat := n * 1024 + f.ctorIdx

/-- Reset value by key: what an unlisted key of `State.regs` reads as. -/
def resetAt (k : Nat) : Nat := (Field.ofNat (k % 1024)).reset (k / 1024)

/-- A field of instance `n`, unsigned, within its width. -/
def State.rd (s : State) (f : Field) (n : Nat := 0) : Nat := Store.get s.regs (f.key n) (f.reset n) % 2 ^ f.info.width

/-- A field set, cut to its width. -/
def State.wr (s : State) (f : Field) (n : Nat) (v : Nat) : State :=
  { s with regs := Store.set s.regs (f.key n) (v % 2 ^ f.info.width) (f.reset n) }

/-- A one-bit field as a truth value. -/
def State.bit (s : State) (f : Field) (n : Nat := 0) : Bool := s.rd f n != 0

/-- A field read in two's complement over its width. -/
def State.rdI (s : State) (f : Field) (n : Nat := 0) : Int := toSigned f.info.width (s.rd f n)

/-- A field set to a signed value. -/
def State.wrI (s : State) (f : Field) (n : Nat) (v : Int) : State := s.wr f n (ofSigned f.info.width v)

/-- A one-bit field set to a truth value. -/
def State.wrB (s : State) (f : Field) (n : Nat) (b : Bool) : State := s.wr f n (if b then 1 else 0)

/-- Bit `i` of a field. -/
def State.bitOf (s : State) (f : Field) (n i : Nat) : Bool := (s.rd f n).testBit i

/-- Bit `i` of a field set. -/
def State.setBit (s : State) (f : Field) (n i : Nat) : State := s.wr f n (s.rd f n ||| 2 ^ i)

/-- Bit `i` of a field cleared. -/
def State.clearBit (s : State) (f : Field) (n i : Nat) : State :=
  if s.bitOf f n i then s.wr f n (s.rd f n - 2 ^ i) else s

/-- A count one higher, saturating at its width's largest value. -/
def State.incSat (s : State) (f : Field) (n : Nat) : State :=
  let v := s.rd f n
  if v + 1 < 2 ^ f.info.width then s.wr f n (v + 1) else s.wr f n (2 ^ f.info.width - 1)

/-! ## Sets and counts of the present cycle (R7) -/

/-- A SYS cycle in ps: 500 MHz (02, introduction). -/
def cyclePs : Nat := 2000

/-- Two instants lie in the same SYS cycle. -/
def sameCycle (a b : Nat) : Bool := a / cyclePs == b / cyclePs

/-- The YAC cycle in which an instant lies: 4 ns each at the nominal 250 MHz (R321), from the instant 0. -/
def yacCycle (now : Nat) : Nat := now / 4000

/-- Hardware set the bits `x` of a field, or counted `x` on it, in this cycle. -/
def State.noteSet (s : State) (f : Field) (n x : Nat) : State :=
  { s with sets := (s.now / cyclePs, f.key n, x) :: s.sets.filter (fun e => e.1 == s.now / cyclePs) }

/-- What hardware noted on a field in this cycle. -/
def State.noted (s : State) (f : Field) (n : Nat) : List Nat :=
  (s.sets.filter (fun e => e.1 == s.now / cyclePs && e.2.1 == f.key n)).map (·.2.2)

/-- The bits of a field that hardware set in this cycle: a clear in the same cycle leaves them 1 (R7). -/
def State.setNow (s : State) (f : Field) (n : Nat) : Nat := (s.noted f n).foldr (· ||| ·) 0

/-- What hardware counted on a field in this cycle: a read that clears leaves it (R7). -/
def State.countNow (s : State) (f : Field) (n : Nat) : Nat := (s.noted f n).foldr (· + ·) 0

/-- Bits of a W1C field set by hardware. -/
def State.hwSet (s : State) (f : Field) (n x : Nat) : State := (s.wr f n (s.rd f n ||| x)).noteSet f n x

/-- A count of an RC field one higher, saturating. -/
def State.tally (s : State) (f : Field) (n : Nat) : State := (s.incSat f n).noteSet f n 1

/-! ## The instant -/

/-- Picoseconds in one second. -/
def psPerS : Nat := 1000000000000

/-- The plane tick in ps (R44). -/
def tickPs : Nat := 8000000

/-- The state at instant `t`: time never runs back. -/
def State.at_ (s : State) (t : Nat) : State := { s with now := max s.now t }

/-! ## Exact arithmetic and roundings -/

/-- The nearest integer; on a tie the spec states no way, and the free value decides. -/
def roundNearest (site : Nat) (x : Rat) : Int :=
  let f := (x + 1 / 2).floor
  if x + 1 / 2 = (f : Rat) then (if Config.roundsUp site x then f else f - 1) else f

/-- An integer next to `x`; the spec states no way of rounding, and the free value decides. -/
def roundFree (site : Nat) (x : Rat) : Int :=
  let f := x.floor
  if x = (f : Rat) then f else if Config.roundsUp site x then f + 1 else f

/-- The integer part, toward zero (R139). -/
def truncZero (x : Rat) : Int := if x < 0 then -((-x).floor) else x.floor

/-- |x|. -/
def ratAbs (x : Rat) : Rat := if x < 0 then -x else x

/-- `x` held within `lo` and `hi`. -/
def clampInt (lo hi x : Int) : Int := if x < lo then lo else if hi < x then hi else x

/-- `x` held within the signed range of `w` bits. -/
def satSigned (w : Nat) (x : Int) : Int := clampInt (-(2 ^ (w - 1))) (2 ^ (w - 1) - 1) x

/-- A signed value as the bits of a field `w` wide; beyond the field's range, where the spec names no saturation, the bits
are free. -/
def fitSigned (site w : Nat) (x : Int) : Nat :=
  if -(2 ^ (w - 1)) ≤ x && x < 2 ^ (w - 1) then ofSigned w x else Config.beyondField site x % 2 ^ w

/-- An unsigned value as the bits of a field `w` wide; beyond the field's range, where the spec names no saturation, the bits
are free. -/
def fitNat (site w : Nat) (x : Int) : Nat :=
  if 0 ≤ x && x < 2 ^ w then x.toNat else Config.beyondField site x % 2 ^ w

/-- The correction word as a fractional frequency: LSB 2⁻⁴⁸. -/
def wordFrac (c : Int) : Rat := (c : Rat) / (2 ^ 48 : Nat)

/-- Largest integer whose square is at most `n`. -/
def isqrt (n : Nat) : Nat :=
  (List.range (n.log2 / 2 + 1)).foldr (fun b r => if (r + 2 ^ b) * (r + 2 ^ b) ≤ n then r + 2 ^ b else r) 0

/-- ceil(k × sqrt(a / b)), exact: the least r with r² × b ≥ k² × a. -/
def ceilSqrt (k a b : Nat) : Nat :=
  if b = 0 then 0 else
  let n := k * k * a
  let q := n / b
  let r := isqrt q
  if r * r * b ≥ n then r else r + 1

/-! ## Irrational functions, to 2⁻⁶⁰ (R46, R62, R234)

The spec names sqrt, exp and π and states no precision. Each value below lies next to the exact one in steps of 2⁻⁶⁰; which
of the two neighbours it takes is free. -/

/-- `n` or `n + 1` steps of 2⁻⁶⁰, where the exact value of the function at `x` lies between them. -/
def stepNear (site : Nat) (x : Rat) (n : Nat) : Rat := ((n + (Config.roundsUp site x).toNat : Nat) : Rat) / (2 ^ 60 : Nat)

/-- The square root of `x`; 0 below 0. An exact root is itself. -/
def sqrtOf (site : Nat) (x : Rat) : Rat :=
  let y := (x * (2 ^ 120 : Nat)).floor.toNat
  let r := isqrt y
  if ((r * r : Nat) : Rat) = x * (2 ^ 120 : Nat) then (r : Rat) / (2 ^ 60 : Nat) else stepNear site x r

/-- π, whose floor in steps of 2⁻⁶⁰ is 3622009729038561421. -/
def piOf (site : Nat) : Rat := stepNear site 0 3622009729038561421

/-- e^−x for x ≥ 0 in steps of 2⁻⁹⁶, from the series of e^−(x/32) raised to the 32nd power. -/
def expSteps (x : Rat) : Nat :=
  let one : Nat := 2 ^ 96
  let z := (x / 32 * one).floor.toNat
  -- the terms of the series, alternating
  let t := (List.range 30).foldl (fun (acc : Int × Nat) (k : Nat) =>
    let term := acc.2 * z / one / (k + 1)
    (if k % 2 = 0 then acc.1 - (term : Int) else acc.1 + (term : Int), term)) ((one : Int), one)
  (List.range 5).foldl (fun (y : Nat) _ => y * y / one) t.1.toNat

/-- e^−x for x ≥ 0; below the smallest step it is 0 or one step. -/
def expNeg (site : Nat) (x : Rat) : Rat := if 64 < x then stepNear site x 0 else stepNear site x (expSteps x / 2 ^ 36)

/-- The standard deviation of a list of exact values. -/
def spreadOf (site : Nat) (l : List Rat) : Rat :=
  let n : Rat := (l.length : Rat)
  let m := l.foldl (· + ·) 0 / n
  sqrtOf site ((l.map (fun x => (x - m) * (x - m))).foldl (· + ·) 0 / (n - if Config.sampleSpread then 1 else 0))

/-- Mean of a list of exact values. -/
def meanRat (l : List Rat) : Rat := if l.isEmpty then 0 else l.foldl (· + ·) 0 / (l.length : Rat)

/-! ## Bounds (R154, R156) -/

/-- The largest bounded value. -/
def boundMax : Nat := 0xFFFFFFFE

/-- A bounded term, saturated (R156). -/
def Bound.of (n : Nat) : Bound := .ps (min n boundMax)

/-- A declared register: 0xFFFF_FFFF means unbounded. -/
def Bound.ofReg (n : Nat) : Bound := if n = 0xFFFFFFFF then .unbounded else .of n

/-- A bounded term from an exact value, rounded up to whole ps so that it stays a bound. -/
def Bound.ofRat (x : Rat) : Bound := .of (x.ceil.toNat)

/-- The saturating sum; unbounded if a term is. -/
def Bound.add : Bound → Bound → Bound
  | .ps a, .ps b => .of (a + b)
  | _, _ => .unbounded

/-- The larger of two terms. -/
def Bound.max : Bound → Bound → Bound
  | .ps a, .ps b => .ps (Nat.max a b)
  | _, _ => .unbounded

/-- A term as its register word. -/
def Bound.word : Bound → Nat
  | .ps n => n
  | .unbounded => 0xFFFFFFFF

/-- The sum of the seven terms (R154). -/
def Terms.total (t : Terms) : Bound :=
  t.ref.add (t.inp.add (t.loop.add (t.sw.add (t.grow.add (t.cal.add t.outp)))))

/-! ## Free values -/

/-- The next free value's number, and the state that has counted it. -/
def State.fresh (s : State) : Nat × State := (s.draw, { s with draw := s.draw + 1 })

/-! ## Per-instance state -/

def State.setInp (s : State) (n : Fin 16) (x : InputState) : State := { s with inputs := s.inputs.set n x }
def State.setPlane (s : State) (p : Fin 4) (x : PlaneState) : State := { s with planes := s.planes.set p x }
def State.setApll (s : State) (i : Fin 2) (x : ApllState) : State := { s with aplls := s.aplls.set i x }
def State.setOut (s : State) (n : Fin 64) (x : OutState) : State := { s with outs := s.outs.set n x }
def State.setBank (s : State) (b : Fin 8) (x : BankState) : State := { s with banks := s.banks.set b x }
def State.setSheaf (s : State) (k : Fin 16) (x : Option SheafJob) : State := { s with sheafs := s.sheafs.set k x }
def State.setTod (s : State) (p : Fin 4) (x : TodState) : State := { s with tods := s.tods.set p x }
def State.setStamp (s : State) (j : Fin 16) (x : StampState) : State := { s with stamps := s.stamps.set j x }
def State.setLink (s : State) (n : Fin 4) (x : LinkState) : State := { s with links := s.links.set n x }
def State.setMaster (s : State) (m : Master) (x : MasterState) : State := { s with masters := s.masters.set m.id x }

/-- What is kept for a master. -/
def State.mst (s : State) (m : Master) : MasterState := s.masters[m.id]

/-- A fold over all `k` instances, in ascending order. -/
def State.forAll (s : State) (k : Nat) (f : State → Fin k → State) : State := (List.finRange k).foldl f s

/-- The first instance that satisfies a test. -/
def firstFin (k : Nat) (p : Fin k → Bool) : Option (Fin k) := (List.finRange k).find? p

end Sys2Proof.Machine
end

