-- ==== Sys2Proof/Machine/Flags.lean ====
section
/-!
DEFINITION. The flags hardware raises: event lines (R171, R172), interrupt bits (R381, R382), event flags.
-/
namespace Sys2Proof.Machine

/-! ## Wake sources (R337) -/

/-- Island codes of R346. -/
def islYac : Nat := 3
def islMgt : Nat := 4
def islTok : Nat := 5
def islHif : Nat := 6
def islLnz : Nat := 7

/-- A wake source of an island. -/
def State.noteWake (s : State) (c : Nat) : State := { s with wakes := s.wakes ||| 2 ^ c }

/-! ## Event lines (R171, R172) -/

/-- A pulse on line `i`: EVPEND bit `i` in all four engines, EVOVF where it is already set; it wakes YAC. -/
def State.pulse (s : State) (i : Nat) : State :=
  let b : DWord := BitVec.ofNat 64 (2 ^ i)
  let s := s.forAll 4 (fun s e => if (s.evpend[e]).getLsbD i then s.noteSet .YEe_EVOVF e (2 ^ i) else s)
  let c := yacCycle s.now
  { s.noteWake islYac with
    pulsed := (c, if s.pulsed.1 = c then s.pulsed.2 ||| b else b)
    evovf := Vector.zipWith (fun p o => o ||| (p &&& b)) s.evpend s.evovf
    evpend := s.evpend.map (· ||| b) }

/-! ## Interrupt bits (R381, R382) -/

/-- INT_STAT bit `v` set; where it rises while INT_EN bit `v` is 1, a message is due. -/
def State.raiseInt (s : State) (v : Nat) : State :=
  let rises := !s.bitOf .INT_STAT 0 v
  let s := s.hwSet .INT_STAT 0 (2 ^ v)
  if rises && s.bitOf .INT_EN 0 v then { s with msiDue := s.msiDue ||| BitVec.ofNat 64 (2 ^ v) } else s

/-- The INT_STAT bit that the setting of an event flag raises (R381). -/
def flagInt : Field → Option Nat
  | .TEBp_EV_OVER | .TEBp_EV_UNDER => some 22
  | .PLn_EV_STATE_CHG | .PLn_EV_REGION_END | .PLn_EV_RECALL | .PLn_EV_LOCK_LOST | .PLn_EV_LIMIT => some 23
  | .CAL_EV_DONE | .CAL_EV_ACCEPT | .CAL_EV_REJECT | .CAL_EV_APPLIED | .CAL_EV_WERR => some 24
  | .GRN_STAT_TAMPER_AT_BOOT | .GRN_STAT_TAMPER_IN_KEEP | .GRN_STAT_AON_FINISHED => some 25
  | _ => none

/-- An event flag set by hardware, with the interrupt bit it raises. -/
def State.flag (s : State) (f : Field) (n : Nat) : State :=
  let s := s.hwSet f n 1
  match flagInt f with
  | some v => s.raiseInt v
  | none => s

/-- A field of DEV_STATE set; a change raises vector 26 (R381). -/
def State.setDev (s : State) (f : Field) (v : Nat) : State :=
  if s.rd f = v then s else (s.wr f 0 v).raiseInt 26

end Sys2Proof.Machine
end

