-- ==== Sys2Proof/Machine/Operands.lean ====
section
/-!
DEFINITION. How an access reaches a register: the access codes (R6), the pairs, holding registers and latches kept for each
master (R8, R27), and the address map (R387).
-/
namespace Sys2Proof.Machine

/-! ## Writes by access code -/

/-- Fault sources whose level FLT_LVL cannot change: the NM sources and SHED (R299). -/
def levelFixed (n : Nat) : Bool := [7, 8, 9, 13, 16, 40].contains n

/-- The lock of an RWL field is set (R6), or the field is one a table fixes. -/
def State.locked (s : State) (f : Field) (n : Nat) : Bool :=
  match f with
  | .FLT_MASK => s.bit .FLT_CFG_LOCK
  | .FLT_LVL => s.bit .FLT_CFG_LOCK || levelFixed n
  | .GRN_TAMP_CFG_EN | .GRN_TAMP_CFG_ACTIVE | .GRN_TAMP_CFG_LEVEL => s.bit .GRN_TAMP_CFG_LOCK
  | .YE_POLICY_SIGN_REQ | .YE_POLICY_SIGSLOT => s.bit .YE_POLICY_LOCK
  | .PWR_SHED_CFG_STEP | .PWR_SHED_CFG_EXIT => s.bit .PWR_SHED_CFG_LOCK
  | .MBn_BIND_END0 | .MBn_BIND_END1 => s.bitOf .MB_LOCKTAB 0 n
  | _ => false

/-- What a field holds after a write of `new` to those of its bits that `mask` names (R6). -/
def Acc.write (a : Acc) (locked : Bool) (old mask new : Nat) : Nat :=
  let kept := old ^^^ (old &&& mask)
  match a with
  | .rw => kept ||| (new &&& mask)
  | .rwl => if locked then old else kept ||| (new &&& mask)
  | .w1c => old ^^^ (old &&& (new &&& mask))
  | .w1s => old ||| (new &&& mask)
  | .ro | .wo | .rc | .view | .latched => old

/-- What a field holds after a write of the register's value `v`, where `mask` names the register bits written; a W1C bit that
hardware set in the same cycle stays 1 (R7). -/
def State.written (s : State) (f : Field) (n mask v : Nat) : Nat :=
  let new := f.info.acc.write (s.locked f n) (s.rd f n) ((mask >>> f.info.lo) % 2 ^ f.info.width)
    ((v >>> f.info.lo) % 2 ^ f.info.width)
  if f.info.acc = .w1c then new ||| (s.rd f n &&& s.setNow f n) else new

/-- A write of one field. -/
def State.writeField (s : State) (f : Field) (n mask v : Nat) : State := s.wr f n (s.written f n mask v)

/-- A write of every field of a register by its access code; the bits of `mask` are written from `v`, and a lock bit that the
same write sets does not yet lock. -/
def State.writeReg (s : State) (r : Reg) (n mask v : Nat) : State :=
  r.fields.foldl (fun t f => t.wr f n (s.written f n mask v)) s

/-- A whole word written to a one-word register. -/
def State.writeWord (s : State) (r : Reg) (n : Nat) (v : Word) : State := s.writeReg r n 0xFFFFFFFF v.toNat

/-- A pair committed whole (R8). -/
def State.writePair (s : State) (r : Reg) (n : Nat) (v : DWord) : State :=
  s.writeReg r n 0xFFFFFFFFFFFFFFFF v.toNat

/-- The stored value of a register: its fields but for the WO ones, each at its place. -/
def State.regVal (s : State) (r : Reg) (n : Nat) : Nat :=
  r.fields.foldl (fun acc f => match f.info.acc with
    | .wo | .view | .latched => acc
    | _ => acc + s.rd f n * 2 ^ f.info.lo) 0

/-- The fields whose sign fills the rest of their pair (R74, R135, R137, R160). -/
def Field.signFills : Field → Bool
  | .PLn_PBO | .OUTn_PHASE | .OUTn_PHASE_NOW | .SHk_DPHASE | .TODp_ADJ => true
  | _ => false

/-- The bits of a field within a register word `v` whose lowest bit is bit 0 of the register. -/
def fieldOf (f : Field) (v : Word) : Nat := (v.toNat >>> f.info.lo) % 2 ^ f.info.width

/-! ## Masters' registers -/

/-- The value committed by a _LO write in the held form: the master's holding register above `lo`; the holding register
clears (R8). -/
def State.takeHold (s : State) (m : Master) (lo : Word) : DWord × State :=
  (joinPair lo (s.mst m).hold, s.setMaster m { s.mst m with hold := 0 })

/-- The holding register written (R8). -/
def State.putHold (s : State) (m : Master) (v : Word) : State := s.setMaster m { s.mst m with hold := v }

/-- The word a read returned to a master. -/
def State.ret (s : State) (m : Master) (v : Word) : State := s.setMaster m { s.mst m with data := v }

/-- A latched word of a master, by word address (R8, R27). -/
def State.latchPut (s : State) (m : Master) (addr : Nat) (v : Word) : State :=
  s.setMaster m { s.mst m with latch := Store.put (s.mst m).latch addr v }

/-- The latched word of a master; `d` where it has latched none. -/
def State.latchGet (s : State) (m : Master) (addr : Nat) (d : Word) : Word := Store.get (s.mst m).latch addr d

/-- A pair latched at its two addresses. -/
def State.latchPair (s : State) (m : Master) (addr : Nat) (v : DWord) : State :=
  (s.latchPut m addr (v.setWidth 32)).latchPut m (addr + 4) ((v >>> 32).setWidth 32)

/-- The address of a register of instance `n`. The trim tables of APLL_B lie 0x800 above those of APLL_A (R103). -/
def Reg.addr (r : Reg) (n : Nat) : Nat :=
  match r with
  | .APLLx_GAIN => 0x60100 + n / 16 * 0x800 + n % 16 * 4
  | .APLLx_TAP => 0x60400 + n / 256 * 0x800 + n % 256 * 4
  | r => r.place.base + n * r.place.stride

/-- The latches of every master cleared of the registers that a test names (R41, R73). -/
def State.dropLatches (s : State) (p : Nat → Bool) : State :=
  { s with masters := s.masters.map (fun x => { x with latch := x.latch.filter (fun c => !p c.1) }) }

end Sys2Proof.Machine
end

