-- ==== Sys2Proof/Machine/Time.lean ====
section
/-!
DEFINITION. Reading the time: the TODs (R138, R139), the prediction timescale (R80), the time record with its bound and
provenance (R147, R148, R159), and the conversions of R153.
-/
namespace Sys2Proof.Machine

/-- A stretch of a TOD read at `t`: its start, the reading there and the word in force. -/
def stretchAt (g : Nat × Rat × Int) (t : Rat) : Rat := g.2.1 + (t - g.1) * (1 + wordFrac g.2.2)

/-- The stretch in which `t` lies, of `g` and the earlier ones `l`, newest first; before all of them, the earliest. -/
def stretchOf (t : Rat) : (Nat × Rat × Int) → List (Nat × Rat × Int) → Nat × Rat × Int
  | g, [] => g
  | g, h :: l => if (g.1 : Rat) ≤ t then g else stretchOf t h l

/-- The reading before the word of the last tick came or comes into force: by the stretch in which `t` lies, so that a step moves
no instant before it (R139). -/
def TodState.readAt (d : TodState) (t : Rat) : Rat := stretchAt (stretchOf t (d.since, d.base, d.word) d.past) t

/-- The plane's present time carried back to `t`: as `readAt`, with every step that came after `t` added, so that a sample taken
before a step is compared with the stepped time (R142). -/
def lineOf (t : Rat) : (Nat × Rat × Int) → List (Nat × Rat × Int) → Rat
  | g, [] => stretchAt g t
  | g, h :: l => if (g.1 : Rat) ≤ t then stretchAt g t else lineOf t h l + (g.2.1 - stretchAt h g.1)

/-- The steps of a TOD since the instant `t`, in ps. -/
def TodState.stepsSince (d : TodState) (t : Rat) : Rat := lineOf t (d.since, d.base, d.word) d.past - d.readAt t

/-- The instant at which the word of the last tick comes into force (R108). -/
def State.forceAt (s : State) : Nat := s.tick0 + s.tick * tickPs + 160000

/-- TODp at the device-timescale instant `t`, in ps from the epoch, exact (R139). From the instant at which the word of the last tick
comes into force, that word counts. -/
def State.todAt (s : State) (p : Fin 4) (t : Rat) : Rat :=
  let d := s.tods[p]
  let b : Rat := (max s.forceAt d.since : Nat)
  if !s.timebase then d.base
  else if s.due && decide (b < t) then d.readAt b + (t - b) * (1 + wordFrac s.planes[p].sent)
  else d.readAt t

/-- The correction word in force in the TOD of plane `p` at the instant `t` (R139). -/
def State.wordInForce (s : State) (p : Fin 4) (t : Rat) : Int :=
  let d := s.tods[p]
  if s.timebase && s.due && decide (((max s.forceAt d.since : Nat) : Rat) < t) then s.planes[p].sent
  else (stretchOf t (d.since, d.base, d.word) d.past).2.2

/-- A TOD's reading and word from an instant on; what held before it is kept for the instants before (R139). -/
def TodState.turn (d : TodState) (since : Nat) (base : Rat) (word : Int) : TodState :=
  { d with since := since, base := base, word := word, past := ((d.since, d.base, d.word) :: d.past).take 15 }

/-- TODp at a whole ps of the device timescale. -/
def State.tod (s : State) (p : Fin 4) (t : Nat) : Rat := s.todAt p t

/-- Whole seconds of TODp now. -/
def State.todSec (s : State) (p : Fin 4) : Nat := (s.tod p s.now / psPerS).floor.toNat

/-- A reading in ps as whole units of 2⁻¹⁶ ns, truncated toward zero (R139). -/
def todUnits (x : Rat) : Nat := (x * 65536 / 1000).floor.toNat

/-- The rate of the prediction timescale, 1 / (1 + y_m), computed to 2⁻⁶⁰ (R80). -/
def State.predRate (s : State) : Rat := (roundFree 26 ((2 ^ 60 : Nat) / (1 + s.xo.y)) : Rat) / (2 ^ 60 : Nat)

/-- The prediction timescale at instant `t`, in ps (R80). -/
def State.predOf (s : State) (t : Int) : Rat := s.xo.pred + ((t : Rat) - s.xo.predAt) * s.predRate

/-! ## UTC offset and leap seconds (R145, R146) -/

/-- The leap table and base offset as the registers now hold them. -/
def State.utcTable (s : State) : UtcTable where
  leaps := (List.range 8).filterMap (fun i =>
    if s.bit .LEAPi_NEW_VALID i then some (s.rd .LEAPi_T i, s.rdI .LEAPi_NEW_NEW i) else none)
  off := s.rdI .UTC_BASE_OFF
  valid := s.bit .UTC_BASE_VALID

/-- The NEW of the valid entry with the largest T_L that `ok` admits, or the base offset (R145). -/
def State.offsetBy (s : State) (ok : Nat → Int → Bool) : Int :=
  let best := s.utc.leaps.foldl (fun (b : Option (Nat × Int)) e =>
    if ok e.1 e.2 then (match b with
      | some x => if x.1 ≤ e.1 then some e else b
      | none => some e) else b) none
  match best with
  | some e => e.2
  | none => s.utc.off

/-- The effective offset at the TAI second `sec` (R145). -/
def State.utcOffset (s : State) (sec : Nat) : Int := s.offsetBy (fun tl _ => tl ≤ sec)

/-- The offset an NTP conversion uses at `sec`: an inserted second's entry applies from T_L − 1 (R146). -/
def State.ntpOffset (s : State) (sec : Nat) : Int :=
  s.offsetBy (fun tl new =>
    let prev := s.offsetBy (fun tl' _ => tl' < tl)
    if new = prev + 1 then tl ≤ sec + 1 else tl ≤ sec)

/-- The leap that is pending at `sec`: whether there is one, and whether it deletes a second (R146). -/
def State.leapPending (s : State) (sec : Nat) : Bool × Bool :=
  let off := s.utcOffset sec
  match s.utc.leaps.find? (fun e => sec < e.1 && e.1 ≤ sec + 86400 && e.2 != off) with
  | some e => (true, e.2 < off)
  | none => (false, false)

/-! ## Records -/

/-- A time record (R147) of plane `p` whose time reads `x` ps and whose bound is `teb`. -/
def State.recordWith (s : State) (p : Fin 4) (x : Rat) (teb : Nat) : TimeRec :=
  let u := todUnits x
  let ns := u / 65536 % 1000000000
  let sec := u / 65536 / 1000000000
  { w0 := BitVec.ofNat 32 ns
    w1 := BitVec.ofNat 32 sec
    w2 := BitVec.ofNat 32 (sec / 2 ^ 32 % 65536 + u % 65536 * 65536)
    w3 := BitVec.ofNat 32 teb
    w4 := BitVec.ofNat 32 s.planes[p].prov
    w5 := BitVec.ofNat 32 (ofSigned 16 (s.utcOffset sec) + s.utc.valid.toNat * 2 ^ 16 + (s.leapPending sec).1.toNat * 2 ^ 17
      + (s.leapPending sec).2.toNat * 2 ^ 18 + s.rd .TODp_STAT_SEC_VALID p * 2 ^ 19 + s.tick % 4096 * 2 ^ 20) }

/-- The plane's current time record (R147). -/
def State.record (s : State) (p : Fin 4) : TimeRec := s.recordWith p (s.tod p s.now) (s.rd .TEBp_TOTAL p)

/-- The words of a record, in order. -/
def TimeRec.words (r : TimeRec) : List Word := [r.w0, r.w1, r.w2, r.w3, r.w4, r.w5]

/-- A record's seconds, nanoseconds and sub-nanoseconds. -/
def TimeRec.sec (r : TimeRec) : Nat := r.w1.toNat + r.w2.toNat % 65536 * 2 ^ 32
def TimeRec.ns (r : TimeRec) : Nat := r.w0.toNat % 2 ^ 30
def TimeRec.subns (r : TimeRec) : Nat := r.w2.toNat / 65536

/-- A record as 24 bytes, little-endian words in order (R147). -/
def TimeRec.bytes (r : TimeRec) : List Byte :=
  r.words.flatMap (fun (w : Word) => [w.setWidth 8, (w >>> 8).setWidth 8, (w >>> 16).setWidth 8, (w >>> 24).setWidth 8])

/-- The NTP conversion of a record (R153): seconds field, fraction, leap indicator. `off` is the offset that R146 applies
to NTP, in seconds. -/
def ntpOf (r : TimeRec) (off : Int) : Nat × Nat × Nat :=
  let utcv := r.w5.toNat.testBit 16
  let off := if utcv then off else 0
  let secs := ((r.sec : Int) - off + 2208988800) % (2 ^ 32 : Nat)
  let frac := (r.ns * 65536 + r.subns) * 2 ^ 32 / (1000000000 * 65536)
  let li := if !utcv then 3 else if !r.w5.toNat.testBit 17 then 0 else if r.w5.toNat.testBit 18 then 2 else 1
  (secs.toNat, frac, li)

end Sys2Proof.Machine
end

