-- ==== Sys2Proof/Machine/Events.lean ====
section
/-!
DEFINITION. The event path (R313 to R316): entries, the on-chip ring, and the pending records of the Gleaner.
-/
namespace Sys2Proof.Machine

/-- Class code of an entry (R314). -/
def EvClass.code : EvClass → Nat
  | .alarm => 0
  | .log => 1
  | .trace => 2

/-- Word 0 of an entry, phase 0 (R314). -/
def entryWord0 (src cls sev : Nat) (coal inj conseq : Bool) : Word :=
  BitVec.ofNat 32 (src % 1024 + cls * 2 ^ 10 + sev % 8 * 2 ^ 12 + coal.toNat * 2 ^ 16 + inj.toNat * 2 ^ 17
    + conseq.toNat * 2 ^ 18)

/-- The record of plane EVR_CTRL.PL that an entry carries (R314). -/
def State.eventTime (s : State) : TimeRec := s.record (Fin.ofNat 4 (s.rd .EVR_CTRL_PL))

/-- A plain entry (R314). -/
def State.plainEntry (s : State) (p : Posting) : Entry :=
  let r := s.eventTime
  ⟨p.cls, #v[entryWord0 p.src p.cls.code p.sev false p.inj p.conseq, BitVec.ofNat 32 p.data0, r.w0, r.w1, r.w3, r.w4,
    BitVec.ofNat 32 p.data1, BitVec.ofNat 32 p.data2]⟩

/-- A coalesced entry from a pending record (R314). -/
def MergeRec.entry (cls : EvClass) (m : MergeRec) : Entry :=
  ⟨cls, #v[entryWord0 m.src cls.code m.sev true m.inj m.conseq, BitVec.ofNat 32 (min m.count 0xFFFFFFFF), m.first.w0,
    m.first.w1, m.first.w3, m.last.w3, m.last.w0, m.last.w1]⟩

/-- Free entries of the on-chip ring of 1024. -/
def State.ringFree (s : State) : Nat := 1024 - s.events.ring.length

/-- An entry put at the end of the ring; that of a real fault (`ahead`) comes before those of an injection of the same cycle,
and before what followed it (R308). -/
def State.push (s : State) (e : Entry) (ahead : Bool := false) : State :=
  let ring := s.events.ring
  match s.events.injected with
  | none => { s with events := { s.events with ring := ring ++ [e] } }
  | some (at_, k) =>
    if !sameCycle at_ s.now then { s with events := { s.events with ring := ring ++ [e], injected := none } }
    else if ahead then
      { s with events := { s.events with ring := ring.take (ring.length - k) ++ e :: ring.drop (ring.length - k) } }
    else { s with events := { s.events with ring := ring ++ [e], injected := some (at_, k + 1) } }

/-- What is posted is the record of a real fault. -/
def Posting.real (p : Posting) : Bool := p.src < 64 && !p.inj

/-- An injection takes place: its entries are those that follow. -/
def State.injection (s : State) : State :=
  match s.events.injected with
  | some (at_, _) => if sameCycle at_ s.now then s else { s with events := { s.events with injected := some (s.now, 0) } }
  | none => { s with events := { s.events with injected := some (s.now, 0) } }

/-- An event merged into its source's record of a list. -/
def mergeInto (l : List MergeRec) (p : Posting) (r : TimeRec) : List MergeRec :=
  if l.any (fun m => m.src == p.src) then
    l.map (fun m => if m.src = p.src then
      { m with sev := max m.sev p.sev, inj := m.inj || p.inj, conseq := m.conseq || p.conseq, count := m.count + 1,
               last := r } else m)
  else l ++ [⟨p.src, p.sev, p.inj, p.conseq, 1, r, r⟩]

/-- A hold of EVR_COAL.MS begins for a log source; with MS = 0 none runs (R316). -/
def State.startHold (s : State) (src : Nat) : State :=
  if s.rd .EVR_COAL = 0 then s
  else { s with events := { s.events with holds := s.events.holds ++ [(src, s.now)] } }

/-- A hold of EVR_COAL.MS runs for a log source; with MS = 0 none does (R316). -/
def State.holdRuns (s : State) (src : Nat) : Bool := s.rd .EVR_COAL != 0 && s.events.holds.any (fun h => h.1 == src)

/-- An event enters the ring, merges or is dropped according to its class (R315, R316). From stage SHED2 on, logs merge
without being written and traces are discarded and counted (R340). -/
def State.postNow (s : State) (p : Posting) : State :=
  match p.cls with
  | .alarm =>
    if 0 < s.ringFree then s.push (s.plainEntry p) p.real
    else
      let s := s.tally .EVR_MERGE_ALARM 0
      { s with events := { s.events with alarms := mergeInto s.events.alarms p s.eventTime } }
  | .log =>
    let held := s.holdRuns p.src || s.events.logs.any (fun m => m.src == p.src)
    if !held && 128 < s.ringFree && s.rd .SHED_STATE_STAGE < 2 then (s.push (s.plainEntry p) p.real).startHold p.src
    else
      let s := s.tally .EVR_MERGE_LOG 0
      { s with events := { s.events with logs := mergeInto s.events.logs p s.eventTime } }
  | .trace =>
    if 128 + s.rd .EVR_TRACE_RSV < s.ringFree && s.rd .SHED_STATE_STAGE < 2 then s.push (s.plainEntry p) else s.tally .EVR_DROP_TRACE 0

/-- An event posted. While a plane tick is worked it waits for the bounds and the provenance of that update, which its record
carries (R12). -/
def State.post (s : State) (p : Posting) : State :=
  match s.events.inTick with
  | some l => { s with events := { s.events with inTick := some (l ++ [p]) } }
  | none => s.postNow p

/-- A plane tick begins. -/
def State.tickPosts (s : State) : State := { s with events := { s.events with inTick := some [] } }

/-- The error accounting of the tick is done: what was posted enters the event path. -/
def State.releasePosts (s : State) : State :=
  let l := s.events.inTick.getD []
  l.foldl State.postNow { s with events := { s.events with inTick := none } }

/-- Pending alarm records take the entries that are free, ahead of every other entry (R315). -/
def State.flushAlarms (s : State) : State :=
  s.events.alarms.foldl (fun s m =>
    if 0 < s.ringFree then
      let s := s.push (m.entry .alarm)
      { s with events := { s.events with alarms := s.events.alarms.filter (fun x => x.src != m.src) } }
    else s) s

/-- A log entry of source `src` that carries its flag register. -/
def State.log (s : State) (src : Nat) (data0 : Nat) : State := s.post { cls := .log, src := src, data0 := data0 }

end Sys2Proof.Machine
end

