-- ==== Sys2Proof/Machine/Faults.lean ====
section
/-!
DEFINITION. The fault collector (R299 to R312, R413): recording at the effective level, masked consequences, reactions and
their windows, the device-wide level with its grace and quiet timers, injection, first-error capture.
-/
namespace Sys2Proof.Machine

/-- Fault classes of R299. -/
inductive FaultClass where
  | clk | pwr | proc | mem | svc | io | sec | time
  deriving DecidableEq, Repr

/-- Reactions of R301. -/
inductive Reaction where
  | none | scrub | apllSwap | islandFb | islandReset | mcpRestart
  deriving DecidableEq, Repr

/-- Class of each source (R299). -/
def faultClass (n : Nat) : FaultClass :=
  if n ≤ 12 then .clk else if n ≤ 16 then .pwr else if n = 17 then .proc else if n ≤ 19 then .mem
  else if n = 20 then .proc else if n ≤ 22 then .svc else if n = 23 then .proc else if n ≤ 31 then .mem
  else if n = 32 then .io else if n = 33 then .sec else if n ≤ 38 then .io else if n = 39 then .svc
  else if n = 40 then .sec else if n ≤ 57 then .time else if n ≤ 61 then .io else if n = 62 then .mem else .svc

/-- Reaction of each source (R299). -/
def faultReaction (n : Nat) : Reaction :=
  if n = 2 ∨ n = 3 then .apllSwap
  else if 7 ≤ n ∧ n ≤ 9 then .islandFb
  else if n = 11 then .islandReset
  else if n = 17 ∨ n = 19 ∨ n = 20 then .mcpRestart
  else if n = 18 ∨ n = 24 ∨ n = 26 ∨ n = 28 ∨ n = 30 then .scrub
  else .none

/-- Non-maskable sources (R299). -/
def faultNM (n : Nat) : Bool := [7, 8, 9, 16, 40].contains n

/-- Sources that always post an alarm-class entry (R299). -/
def faultAlarm (n : Nat) : Bool := [1, 13, 14, 40, 41].contains n || (42 ≤ n && n ≤ 49)

/-- Bus-type sources (R299). -/
def faultBus (n : Nat) : Bool := 36 ≤ n && n ≤ 38

/-- Duration of a reaction in ps; an APLL_SWAP lasts until its outputs have moved, at most 2 s (R301). A SCRUB's one cycle
of its island is taken as 0, since it masks nothing. -/
def Reaction.duration : Reaction → Nat
  | .none => 0
  | .scrub => 0
  | .apllSwap => 2 * psPerS
  | .islandFb => 1000000
  | .islandReset => 4000000
  | .mcpRestart => 10000000

/-- Island codes 3 YAC, 5 TOK, 6 HIF, 7 LNZ are the order of the island table of R346; see `islandOf`. -/
def islandOf (code : Nat) : Option Island :=
  [Island.aon, .sys, .out, .yac, .mgt, .tok, .hif, .lnz][code]?

/-- Dependent detectors of a reaction; `inst` is the island code of an ISLAND_RESET (R301, R308). -/
def Reaction.deps (r : Reaction) (inst : Nat) : List Nat :=
  match r with
  | .none | .scrub => []
  | .apllSwap => [50, 51, 52, 53, 54, 55, 56, 57]
  | .islandFb => [6, 12, 37]
  | .islandReset =>
    [10, 11, 12, 37] ++ (match islandOf inst with
      | some .yac => [23, 24, 25]
      | some .tok => [30, 31, 32, 33]
      | some .hif => [34, 35, 36, 38]
      | some .lnz => [58, 59, 60, 61]
      | _ => [])
  | .mcpRestart => [9, 18, 19, 20, 22, 37, 39]

/-- What a detector reports with its firing: the instance, and for a bus-type source the access (R309, R314). -/
structure Detail where
  inst : Nat := 0
  cap : Option BusCapture := none
  deriving DecidableEq, Repr

/-- The instance a source names (R308, R314): the APLL, island, plane, bank or link where the source itself fixes it, and else
the one its detector reports. -/
def faultInst (src inst : Nat) : Nat :=
  if src = 2 ∨ src = 3 then src - 2
  else if src = 4 ∨ src = 5 then src - 4
  else if src = 7 then 1
  else if src = 8 then 2
  else if src = 9 then 4
  else if 42 ≤ src ∧ src ≤ 45 then src - 42
  else if 46 ≤ src ∧ src ≤ 49 then src - 46
  else if 50 ≤ src ∧ src ≤ 57 then src - 50
  else if 58 ≤ src ∧ src ≤ 61 then src - 58
  else inst

/-- Level of a source as FLT_LVL holds it; 5 to 7 act as 4 (R319). -/
def State.faultLvl (s : State) (src : Nat) : Nat := min 4 (s.rd .FLT_LVL src)

/-- The effective level max(D, H + 1) capped at L4, H among the open faults of the class that are real, or injected (R302,
R308). A source at L0 never escalates. -/
def State.effLevel (s : State) (src : Nat) (inj : Bool) : Nat :=
  let d := s.faultLvl src
  if d = 0 then 0
  else
    let h := (s.faults.open_.filter (fun o => o.inj == inj && faultClass o.src == faultClass src)).map
      (fun o => o.level + 1)
    min 4 (h.foldl max d)

/-- A grace timer runs (R303). -/
def State.graceRuns (s : State) : Bool := s.faults.open_.any (fun o => o.grace.isSome)

/-- FLT_LEVEL formed anew from the open faults, with the quiet timer, line 60 and vector 0 (R304, R171, R381). At L4 it
holds until a recovery. -/
def State.refreshLevel (s : State) : State :=
  let old := s.rd .FLT_LEVEL_LEVEL
  let top := ((s.faults.open_.filter (fun o => !o.inj || o.lvlact)).map (·.level)).foldl max 0
  let new := if old = 4 then 4 else top
  let s := if new = old then s else ((s.wr .FLT_LEVEL_LEVEL 0 new).pulse 60).raiseInt 0
  let q := if new = 0 || s.graceRuns then none else if s.faults.quietFrom.isNone then some s.now else s.faults.quietFrom
  { s with faults := { s.faults with quietFrom := q } }

/-- First-error capture of a recorded fault (R309). -/
def State.capture (s : State) (src : Nat) (inj : Bool) (d : Detail) : State :=
  let first := s.bit .FLT_FIRST_VALID
  let s :=
    if first then (if s.bit .FLT_CAPMODE then s.wr .FLT_FIRST_OVF 0 1 else s)
    else ((s.wr .FLT_FIRST_SRC 0 src).wr .FLT_FIRST_VALID 0 1).wrB .FLT_FIRST_INJ 0 inj
  match d.cap with
  | some c =>
    if faultBus src && !s.bit .FLT_CAPMODE && !s.bit .FLT_CAP_INFO_VALID then
      let r := s.record (Fin.ofNat 4 (s.rd .FLT_CFG_PL))
      let w := r.words.foldr (fun w acc => acc * 2 ^ 32 + w.toNat) 0
      (((((s.wr .FLT_CAP_INFO_MASTER 0 c.master).wr .FLT_CAP_INFO_ACCESS 0 c.access).wr .FLT_CAP_INFO_SRC 0 src).wr
        .FLT_CAP_INFO_VALID 0 1).wr .FLT_CAP_ADDR 0 c.addr.toNat).wr .FLT_CAP_TODw 0 w
    else s
  | none => s

/-- The entry of a fault source (R314). -/
def faultEntry (src level : Nat) (alarm inj conseq : Bool) (d : Detail) : Posting :=
  let a := match d.cap with
    | some c => c.addr.toNat
    | none => 0
  { cls := if alarm then .alarm else .log, src := src, sev := level, inj := inj, conseq := conseq
    data0 := faultDefaultLevel src + faultInst src d.inst % 256 * 256
    data1 := if faultBus src then a % 2 ^ 32 else 0
    data2 := if faultBus src then a / 2 ^ 32 else 0 }

/-- A fault opened at its effective level; an L3 fault that counts toward FLT_LEVEL starts its grace timer (R302, R303). -/
def State.openFault (s : State) (src level : Nat) (inj lvlact : Bool) : State :=
  if level = 0 then s
  else
    let keep := s.faults.open_.filter (fun o => !(o.src == src && o.inj == inj))
    let o : OpenFault := ⟨src, level, inj, lvlact, if level = 3 && (!inj || lvlact) then some s.now else none⟩
    { s with faults := { s.faults with open_ := keep ++ [o] } }

/-- The always-on record: BROWNOUT and every fault of effective level L3 or L4 (R311). -/
def State.keepPrev (s : State) (src level : Nat) : State :=
  if src = 16 || 3 ≤ level then
    ((s.wr .FLT_PREV_SRC 0 src).wr .FLT_PREV_LEVEL 0 level).hwSet .FLT_PREV_VALID 0 1
  else s

/-- The quiet timer restarts when a fault at or above FLT_LEVEL is recorded (R304). -/
def State.quietRestart (s : State) (level : Nat) : State :=
  if level ≠ 0 && s.rd .FLT_LEVEL_LEVEL ≤ level && s.faults.quietFrom.isSome then
    { s with faults := { s.faults with quietFrom := some s.now } }
  else s

/-- The window of a reaction: its duration plus 2 µs (R306). -/
def State.openWindow (s : State) (src inst : Nat) (inj : Bool) : State :=
  let r := faultReaction src
  let inst := faultInst src inst
  if r = .none then s
  else
    let w : MaskWindow := ⟨r.deps inst, some (s.now + r.duration + 2000000),
      if r = .apllSwap then some (src - 2) else none, src, inst, inj, s.now⟩
    { s with faults := { s.faults with windows := s.faults.windows.filter (fun x => !(x.reaction == src && x.inst == inst)) ++ [w] } }

/-- The open windows that cover a detector; none covers an NM source (R306), and that of an injection covers nothing that fires in
its own SYS cycle (R308). -/
def State.windowsOver (s : State) (src : Nat) : List MaskWindow :=
  if faultNM src then []
  else s.faults.windows.filter (fun w => w.deps.contains src && !(w.inj && sameCycle w.start s.now) && (match w.until_ with
    | some t => decide (s.now < t)
    | none => true))

/-- A masked consequence (R306): FLT_CONSEQ and a log entry, nothing else. -/
def State.recordConseq (s : State) (src : Nat) (inj : Bool) (d : Detail) : State :=
  let s := s.hwSet .FLT_CONSEQ 0 (2 ^ src)
  let s := if s.bit .FLT_CAPMODE && s.bit .FLT_FIRST_VALID then s.wr .FLT_FIRST_OVF 0 1 else s
  s.post (faultEntry src 0 false inj true d)

/-- A real fault recorded at its effective level, without its reaction (R302). -/
def State.recordReal (s : State) (src : Nat) (d : Detail) : State :=
  let lv := s.effLevel src false
  let s := s.setBit .FLT_STATUS 0 src
  let s := (s.capture src false d).keepPrev src lv
  let s := s.post (faultEntry src lv (faultAlarm src || 2 ≤ lv) false false d)
  let s := (s.openFault src lv false false).refreshLevel
  let s := (s.quietRestart lv).noteWake islMgt
  if 2 ≤ lv then s.raiseInt 0 else s

/-- A detector fires without a reaction of the collector: masked, a consequence, or recorded (R302, R306, R413). -/
def State.note (s : State) (src : Nat) (d : Detail) : State :=
  if s.bitOf .FLT_MASK 0 src && !faultNM src then s
  else
    match s.windowsOver src with
    | [] => s.recordReal src d
    | ws => s.recordConseq src (ws.all (·.inj)) d

/-- A source that fires now is recorded as a fault of its own: not masked, and in no open window (R306, R413). -/
def State.records (s : State) (src : Nat) : Bool :=
  !(s.bitOf .FLT_MASK 0 src && !faultNM src) && (s.windowsOver src).isEmpty

/-- A detector fires (R301, R302, R306, R413): as `note`, and a fault that is recorded opens its reaction's window. -/
def State.raise (s : State) (src : Nat) (d : Detail := {}) : State :=
  if s.bitOf .FLT_MASK 0 src && !faultNM src then s
  else
    match s.windowsOver src with
    | [] =>
      (s.recordReal src d).openWindow src d.inst false
    | ws => s.recordConseq src (ws.all (·.inj)) d

/-- An injected fault (R308): FLT_INJSTAT and an entry with INJ, its level among injected faults alone, its reaction when
`react`, and FLT_LEVEL only when `lvlact`. -/
def State.inject (s : State) (src : Nat) (d : Detail) (react lvlact : Bool) : State :=
  let lv := s.effLevel src true
  let s := s.hwSet .FLT_INJSTAT 0 (2 ^ src)
  let s := (s.capture src true d).keepPrev src lv
  let s := s.injection.post (faultEntry src lv (faultAlarm src || 2 ≤ lv) true false d)
  let s := (s.openFault src lv true lvlact).refreshLevel
  let s := if lvlact then s.quietRestart lv else s
  if react then s.openWindow src d.inst true else s

/-- Open faults of a set of sources close, and their FLT_STATUS bits clear (R305). -/
def State.ackFaults (s : State) (srcs : Nat → Bool) : State :=
  let st := s.rd .FLT_STATUS
  let clr := (List.range 64).foldl (fun acc i => if srcs i && st.testBit i then acc + 2 ^ i else acc) 0
  let s := s.wr .FLT_STATUS 0 (st - clr)
  let s := { s with faults := { s.faults with open_ := s.faults.open_.filter (fun o => !srcs o.src) } }
  s.refreshLevel

/-- The grace time in ps, clamped to 1 to 10 000 units of 100 µs (R319). -/
def State.gracePs (s : State) : Nat := (max 1 (min 10000 (s.rd .FLT_GRACE))) * 100000000

/-- The quiet time in ps, clamped to 1 to 6000 units of 10 ms (R319). -/
def State.quietPs (s : State) : Nat := (max 1 (min 6000 (s.rd .FLT_QUIET))) * 10000000000

end Sys2Proof.Machine
end

