-- ==== Sys2Proof/Machine/Commit.lean ====
section
/-!
DEFINITION. Sources of a plane (R49, R53, R66), speculation regions and commits (R64 to R71), the growth term's start (R61).
-/
namespace Sys2Proof.Machine

/-! ## Sources -/

/-- Reference types of R24 and R49. -/
inductive RefType where
  | none | pps | gnss | synce | clock | ptpSw | lenuz | atom
  deriving DecidableEq, Repr

/-- Source code of R49; the reserved codes act as 31. -/
def srcCode (c : Nat) : Nat := if c ≤ 20 then c else 31

/-- Type of an input (R24); 6 and 7 act as NONE. -/
def State.inType (s : State) (n : Nat) : RefType :=
  match s.rd .INn_TYPE n with
  | 1 => .pps
  | 2 => .gnss
  | 3 => .synce
  | 4 => .clock
  | 5 => .ptpSw
  | _ => .none

/-- Reference type of a source (R49). -/
def State.srcType (s : State) (c : Nat) : RefType :=
  if c < 16 then s.inType c else if c < 20 then .lenuz else if c = 20 then .atom else .none

/-- TIME class (R49). -/
def RefType.isTime : RefType → Bool
  | .pps | .ptpSw | .lenuz => true
  | _ => false

/-- Link `n` is qualified for plane `p` (R220, R223). -/
def State.linkQualified (s : State) (n : Fin 4) (p : Nat) : Bool :=
  let st := s.rd .LZn_STAT_STATE n
  (st == 4 || st == 5) && s.rd .LZn_CFG_PL n == p && !s.bit .LZn_STAT_LOOP n && !s.links[n].peerFree

/-- Grade of a source as plane `p` sees it: an input's own; a link or ATOM_IN is GOOD while qualified and BAD otherwise
(R66). -/
def State.srcGrade (s : State) (p : Nat) (c : Nat) : Nat :=
  if c < 16 then s.rd .INn_QUAL_GRADE c
  else if c < 20 then
    if 16 ≤ c then (if s.linkQualified (Fin.ofNat 4 (c - 16)) p then 3 else 1) else 1
  else if c = 20 then (if s.bit .ATOM_MEAS_PRESENT then 3 else 1)
  else 0

/-- Qualified as a source not yet active: GOOD (R53). -/
def State.srcGood (s : State) (p c : Nat) : Bool := s.srcGrade p c == 3

/-- Qualified as the active source: GOOD or SUSPECT (R53). -/
def State.srcHolds (s : State) (p c : Nat) : Bool := 2 ≤ s.srcGrade p c

/-- Nominal retained period of a source in ps: 1 s for PPS, 1 / NOM for PTP_SW, whose NOM is the host's sample rate, DIV / NOM for
another input, 8 µs for a link, 1 ms or 1 s for ATOM_IN (R40, R44, R220, R408). -/
def State.srcPeriod (s : State) (c : Nat) : Rat :=
  match s.srcType c with
  | .pps => (psPerS : Rat)
  | .lenuz => (tickPs : Rat)
  | .atom => if s.rd .ATOM_CFG_TYPE = 3 then (psPerS : Rat) else 1000000000
  | .none => 0
  | .ptpSw => (65536 : Rat) * psPerS / (s.rd .INn_NOM c : Rat)
  | _ => (max 1 (s.rd .INn_DIV c) : Rat) * 65536 * psPerS / (s.rd .INn_NOM c : Rat)

/-- The update period T_u in ps: one tick for a source retained at 125 kHz or more, else its period (R44). -/
def State.updPeriod (s : State) (c : Nat) : Rat :=
  let p := s.srcPeriod c
  if p ≤ tickPs then (tickPs : Rat) else p

/-! ## Defaults and coefficients of a source (R46, R50, R51) -/

/-- Default bandwidth, allowed range (in units of 0.1 mHz), DAMP and LTIME (10 ms) of a type (R50); for none, the
reset values and the whole range (entry 101). -/
def RefType.defaults (t : RefType) (atomPps : Bool) : Nat × Nat × Nat × Nat × Nat :=
  match t with
  | .pps => (10, 1, 1000, 181, 1000)
  | .gnss => (1000, 10, 10000, 181, 10)
  | .synce => (30000, 1000, 100000, 1280, 10)
  | .clock => (500000, 10000, 40000000, 181, 10)
  | .ptpSw => (500, 1, 10000, 181, 1000)
  | .lenuz => (1000000, 100000, 40000000, 181, 10)
  | .atom => (10, 1, 100, 181, if atomPps then 1000 else 10)
  | .none => (500000, 0, 67108863, 181, 10)

/-- The defaults of a source loaded into PLn_BW, PLn_LOOP, PLn_LOCK and PLn_UNLOCK (R50, entry 100). -/
def State.loadDefaults (s : State) (p : Nat) (c : Nat) : State :=
  let d := (s.srcType c).defaults (s.rd .ATOM_CFG_TYPE == 3)
  ((((((s.wr .PLn_BW p d.1).wr .PLn_LOOP_DAMP p d.2.2.2.1).wr .PLn_LOOP_M p 0).wr .PLn_LOCK_LTHR p 100).wr
    .PLn_LOCK_LTIME p d.2.2.2.2).wr .PLn_UNLOCK_UTHR p 1000).wr .PLn_UNLOCK_UCNT p 4

/-- The bandwidth in Hz after the clamps of R51, and whether a clamp applies: into the type's range, and to no more than
1 / (10 × T_u). -/
def State.clampBw (s : State) (c bw : Nat) : Rat × Bool :=
  let d := (s.srcType c).defaults false
  let b : Rat := (max d.2.1 (min d.2.2.1 bw) : Rat) / 10000
  let tu := s.updPeriod c / psPerS
  let top : Rat := if tu = 0 then b else 1 / (10 * tu)
  let b' := if top < b then top else b
  (b', b' != (bw : Rat) / 10000)

/-- Coefficients kp, ki, alpha of R46 for a bandwidth in Hz, DAMP, M and T_u in s. -/
def loopCoeffs (fbw : Rat) (damp m : Nat) (tu : Rat) : Rat × Rat × Rat :=
  let z : Rat := (max 64 (min 2560 damp) : Rat) / 256
  let a := 1 + 2 * z * z
  let g := sqrtOf 27 (a + sqrtOf 28 (a * a + 1))
  let wn := 2 * piOf 29 * fbw / g
  let mm := if m = 1 then 2 else m
  (2 * z * wn, wn * wn * tu, if mm = 0 then 1 else 1 - expNeg 30 (2 * piOf 29 * (mm : Rat) * fbw * tu))

/-! ## Forced holdover, drift model (R53, R60, R83) -/

/-- FORCED bits 8 to 10 of PLn_STATE: FORCE_HO, fault level L4, SHED5. -/
def State.forced (s : State) (p : Nat) : Nat :=
  s.rd .PLn_CTRL_FORCE_HO p + (if s.rd .FLT_LEVEL_LEVEL = 4 then 2 else 0)
    + (if s.rd .SHED_STATE_STAGE = 5 then 4 else 0)

/-- ASSIST reflects APPLIED; MODEL_OLD: MODEL_AGE exceeds 3600 (R83). -/
def State.assist (s : State) : Bool := s.bit .MODEL_CTRL_APPLIED
def State.modelOld (s : State) : Bool := 3600 < s.rd .MODEL_AGE

/-- y_m at τ seconds under coefficients, to 2⁻⁶⁰ (R79). -/
def modelAt (y0 y1 y2 : Int) (tau : Rat) : Rat :=
  let x : Rat := (y0 : Rat) + (y1 : Rat) * tau / (2 ^ 20 : Nat) + (y2 : Rat) * tau * tau / (2 ^ 44 : Nat)
  (roundFree 5 x : Rat) / (2 ^ 60 : Nat)

/-- The model's value at the instant `t` (R79); 0 while no model is applied (R83). -/
def State.modelValue (s : State) (t : Nat) : Rat :=
  if s.assist then modelAt s.xo.y0 s.xo.y1 s.xo.y2 (((t : Rat) - s.xo.loadedAt) / psPerS) else 0

/-! ## Holdover history and growth (R58, R61) -/

/-- Mean of a list of words. -/
def meanWords (l : List Int) : Rat := (l.foldl (· + ·) 0 : Int) / (l.length : Rat)

/-- c_hist in words for a reference instant, and SHORT_HIST (R58). With no record to average the mean is a free value. -/
def State.histMean (s : State) (p : Fin 4) (ref : Nat) : Rat × Bool :=
  let avg := s.rd .PLn_HO_CFG_AVG p
  let guard := s.rd .PLn_HO_CFG_GUARD p
  let used := ((s.planes[p].hist.filter (fun r => r.1 + guard * psPerS ≤ ref)).take avg)
  let short := decide (used.length < avg) || used.any (fun r => r.1 + (guard + avg) * psPerS < ref)
  (if used.isEmpty then Config.emptyHistory s.draw else meanWords (used.map (·.2)), short)

/-- Time-weighted mean of the words sent over the `span` ps before `t` (c_last of R61). -/
def meanOver (changes : List (Nat × Int)) (t : Nat) (span : Rat) (now : Int) : Rat :=
  if span ≤ 0 then (now : Rat)
  else
    let lo : Rat := (t : Rat) - span
    let go := changes.foldl (fun (acc : Rat × Rat) (r : Nat × Int) =>
      -- acc: sum so far, upper end of the interval still to cover
      let a : Rat := if (r.1 : Rat) < lo then lo else (r.1 : Rat)
      if acc.2 ≤ a then acc else (acc.1 + (acc.2 - a) * (r.2 : Rat), a)) (0, (t : Rat))
    -- before the earliest change kept, the word was the earliest kept one
    let rest := go.2 - lo
    let first : Int := (changes.getLast?.map (·.2)).getD now
    (go.1 + (if 0 < rest then rest * (first : Rat) else 0)) / span

/-- The growth term restarted with Y in 0.001 ps/s units of PLn_HOY, plus `extra` ps/s (R57, R61). -/
def State.startGrowth (s : State) (p : Fin 4) (at_ : Nat) (extra : Rat) (cHist : Rat) : State :=
  let hoy := s.rd .PLn_HOY p
  let pl := s.planes[p]
  let g : Growth := { run := true, unb := hoy == 0xFFFFFFFF, h := 0, r := (hoy : Rat) / 1000 + extra, since := at_
                      entry := at_, cHist := cHist, yEntry := s.modelValue at_, loss := false }
  (s.setPlane p { pl with growth := g, floorD := none }).wr .PLn_HO_AGE p 0

/-- A commit of PLn_STEER restarts H and the age with Y := PLn_HOY; the entry and history value of a holdover stand (R57, R61). -/
def State.restartGrowth (s : State) (p : Fin 4) : State :=
  let g := s.planes[p].growth
  let s := s.startGrowth p s.now 0 g.cHist
  let pl := s.planes[p]
  s.setPlane p { pl with growth := { pl.growth with entry := g.entry, yEntry := g.yEntry, loss := g.loss } }

/-- H and the age stop (R409). -/
def State.stopGrowth (s : State) (p : Fin 4) : State :=
  let pl := s.planes[p]
  s.setPlane p { pl with growth := { pl.growth with run := false, loss := false } }

/-- H runs on if a holdover follows: the growth is that of a loss whose commit is pending (R409). -/
def State.markLoss (s : State) (p : Fin 4) : State :=
  let pl := s.planes[p]
  s.setPlane p { pl with growth := { pl.growth with loss := true } }

/-- Bandwidth's span of the active loop, 1 / f_bw, in ps (R61). -/
def State.bwSpan (s : State) (p : Fin 4) : Rat :=
  let fbw := (s.clampBw (srcCode (s.rd .PLn_REFSEL_SRC p)) (s.rd .PLn_BW p)).1
  if fbw = 0 then 0 else psPerS / fbw

/-- The growth term of a holdover entered now with `cHist` as its history value (R61). -/
def State.entryGrowth (s : State) (p : Fin 4) (cHist : Rat) : State :=
  let cl := meanOver s.planes[p].words s.now (s.bwSpan p) s.planes[p].c
  s.startGrowth p s.now (ratAbs (cHist - cl) / (2 ^ 48 : Nat) * psPerS) cHist

/-- The growth term started as at a holdover entry whose reference instant is `ref` (R58, R61). -/
def State.enterGrowth (s : State) (p : Fin 4) (ref : Nat) : State :=
  let hm := s.histMean p ref
  let d := (s.fresh).2
  let s := if (s.planes[p].hist.isEmpty) then d else s
  (s.wrB .PLn_STATE_SHORT_HIST p hm.2).entryGrowth p hm.1

/-! ## The shadow loop's candidate (R64, R65) -/

/-- READY falls; a lock interval that ran does not continue (R65). -/
def State.unready (s : State) (p : Fin 4) : State :=
  let pl := s.planes[p]
  (s.setPlane p { pl with shadow := { pl.shadow with lockFrom := none } }).wr .PLn_SHADOW_STAT_READY p 0

/-- The shadow loop restarted on candidate `c` (R64). -/
def State.restartShadow (s : State) (p : Fin 4) (c : Nat) : State :=
  let seed := Config.shadowSeed s.draw
  let s := s.fresh.2
  let pl := s.planes[p]
  let s := s.setPlane p { pl with shadow := { Shadow.init with i := seed, w := seed } }
  ((s.wr .PLn_SHADOW_STAT_READY p 0).wr .PLn_SHADOW_STAT_SRC p c).wrB .PLn_SHADOW_STAT_RUN p (c != 31)

/-- RESULT reads PENDING or WINDOW (R64, R143, R168). -/
def State.committing (s : State) (p : Nat) : Bool :=
  s.rd .PLn_COMMIT_RESULT p == 2 || s.rd .PLn_COMMIT_RESULT p == 3

/-- While a commit is pending or in its window, a pending TOD command waits: it takes effect at the first tick, or the first whole
second, after the region closes (R143). -/
def State.holdCmd (s : State) (p : Fin 4) : State :=
  if s.committing p then
    let d := s.tods[p]
    s.setTod p { d with cmd := d.cmd.map (fun x => (x.1, s.tick, s.todSec p)) }
  else s

/-- The candidate R64 names now. -/
def State.candidateNow (s : State) (p : Nat) : Nat :=
  if s.bit .PLn_SHADOW_CAND_AUTO p then
    match (List.range 21).find? (fun c => s.bitOf .PLn_CANDMASK p c && s.srcGood p c
        && c != srcCode (s.rd .PLn_REFSEL_SRC p)) with
    | some c => c
    | none => 31
  else srcCode (s.rd .PLn_SHADOW_CAND_SRC p)

/-! ## Regions and commits (R67 to R71, R175) -/

/-- Results of PLn_COMMIT (R74). -/
def resOpen : Nat := 1
def resPending : Nat := 2
def resWindow : Nat := 3
def resDone : Nat := 4
def resAbandoned : Nat := 5
def resAbandonedPref : Nat := 6
def resAbandonedCand : Nat := 7
def resRecalled : Nat := 8
def resRefused : Nat := 9
def resPreempted : Nat := 10

/-- A region opened with preferred reference `pref` (R67). -/
def State.openRegion (s : State) (p : Fin 4) (pref : Nat) (owner : Option Nat) : State :=
  let pl := s.planes[p]
  let r : Region := ⟨pref, false, 0, owner, 0, 0, 0, false⟩
  ((s.setPlane p { pl with region := some r, snap := none }).wr .PLn_COMMIT_RESULT p resOpen).wr .PLn_COMMIT_BUSY p 1

/-- A region closed with a result: REGION_END, its event line and its log entry (R70, R171, R313). -/
def State.closeRegion (s : State) (p : Fin 4) (result : Nat) : State :=
  let pl := s.planes[p]
  let s := s.setPlane p { pl with region := none, snap := none }
  let s := (s.wr .PLn_COMMIT_RESULT p result).wr .PLn_COMMIT_BUSY p 0
  let s := (s.flag .PLn_EV_REGION_END p).pulse (20 + p)
  s.log (0x54 + p) (s.regVal .PLn_EV p)

/-- A commit is accepted (R67). -/
def State.commitAccepted (s : State) (p : Fin 4) (force : Bool) : Bool :=
  let st := s.rd .PLn_STATE_STATE p
  let cand := s.rd .PLn_SHADOW_STAT_SRC p
  (st == 1 || st == 2 || st == 3) && cand != srcCode (s.rd .PLn_REFSEL_SRC p)
    && (s.bit .PLn_SHADOW_STAT_READY p || (force && s.srcHolds p cand))

/-- A commit issued in the open region: accepted it is PENDING, otherwise the region closes with REFUSED, as it does when a
commit is already pending or a window open (R67). A commit for the loss of the active source starts H (R409). -/
def State.issueCommit (s : State) (p : Fin 4) (force forLoss : Bool) : State :=
  match s.planes[p].region with
  | none => s.wr .PLn_COMMIT_RESULT p resRefused
  | some r =>
    if s.rd .PLn_COMMIT_RESULT p = resOpen && s.commitAccepted p force then
      let pl := s.planes[p]
      let s := s.setPlane p { pl with region := some { r with forLoss := forLoss, lossAt := s.now } }
      let s := s.wr .PLn_COMMIT_RESULT p resPending
      if forLoss then (s.enterGrowth p s.now).markLoss p else s
    else s.closeRegion p resRefused

/-- An automatic commit (R67): in the open region, or in one of its own whose preferred reference is the previous active
source; none while a commit is pending or in its window. -/
def State.autoCommit (s : State) (p : Fin 4) (forLoss : Bool) : State :=
  if !s.bit .PLn_CTRL_AUTOCOMMIT p then s
  else if s.committing p then s
  else
    let s := if s.planes[p].region.isSome then s else s.openRegion p (srcCode (s.rd .PLn_REFSEL_SRC p)) none
    s.issueCommit p false forLoss

/-- BEGIN: a region opens with the preferred source, 31 meaning the active one; an open region is left untouched (R74,
R175). -/
def State.beginRegion (s : State) (p : Fin 4) (pref : Nat) (m : Master) : State :=
  if s.planes[p].region.isSome then s
  else s.openRegion p (if srcCode pref = 31 then srcCode (s.rd .PLn_REFSEL_SRC p) else srcCode pref) (some m.id.val)

/-- R175 lets master `m` commit or abandon plane `p`'s region: masters 1 to 3 any, another its own. -/
def State.ownsRegion (s : State) (p : Fin 4) (m : Master) : Bool :=
  match m with
  | .pcie | .spi | .keeper => true
  | _ => match s.planes[p].region with
    | some r => r.owner == some m.id.val
    | none => true

/-- ABANDON: a region before its swap closes with ABANDONED; within the recall window it has no effect (R71). -/
def State.abandon (s : State) (p : Fin 4) (m : Master) : State :=
  if s.planes[p].region.isSome && s.ownsRegion p m && s.rd .PLn_COMMIT_RESULT p != resWindow then
    s.closeRegion p resAbandoned
  else s

/-- GO, with or without FORCE (R67). -/
def State.commitGo (s : State) (p : Fin 4) (m : Master) (force : Bool) : State :=
  if s.ownsRegion p m then s.issueCommit p force false else s

/-- A preemption (R71): an open region closes with PREEMPTED. -/
def State.preempt (s : State) (p : Fin 4) : State :=
  if s.planes[p].region.isSome then s.closeRegion p resPreempted else s

/-- The preferred reference of an open region becomes GOOD: a pending commit closes, a window will be recalled (R70, R71). -/
def State.prefReact (s : State) (c g0 g1 : Nat) (p : Fin 4) : State :=
  match s.planes[p].region with
  | some r =>
    if r.pref = c && g0 ≠ 3 && g1 = 3 then
      if s.rd .PLn_COMMIT_RESULT p = resPending then s.closeRegion p resAbandonedPref
      else if s.rd .PLn_COMMIT_RESULT p = resWindow then
        s.setPlane p { s.planes[p] with region := some { r with prefBack := true } }
      else s
    else s
  | none => s

/-- The candidate stops being GOOD: READY falls, and a region before its swap closes (R65, R71). A forced commit may hold a
SUSPECT candidate, and closes when that is no longer qualified. -/
def State.candReact (s : State) (c g0 g1 : Nat) (p : Fin 4) : State :=
  if s.rd .PLn_SHADOW_STAT_SRC p = c && g1 ≠ 3 then
    let s := s.unready p
    let res := s.rd .PLn_COMMIT_RESULT p
    if (res = resPending && (g0 = 3 || g1 < 2)) || (res = resOpen && s.planes[p].region.isSome && g0 = 3) then
      s.closeRegion p resAbandonedCand
    else s
  else s

/-- The active source is lost, becomes SUSPECT or returns; a loss within the recall window closes it with DONE and issues no
commit (R67, R71). Where the plane follows no source none is issued either (entry 103). -/
def State.activeReact (s : State) (c g0 g1 : Nat) (p : Fin 4) : State :=
  let st := s.rd .PLn_STATE_STATE p
  if srcCode (s.rd .PLn_REFSEL_SRC p) = c && (st = 1 || st = 2) then
    if g1 < 2 && 2 ≤ g0 then
      if s.rd .PLn_COMMIT_RESULT p = resWindow then
        let s := s.closeRegion p resDone
        s.setPlane p { s.planes[p] with lossAt := some s.now }
      else (s.setPlane p { s.planes[p] with lossAt := some s.now }).autoCommit p true
    else if g1 = 2 && g0 = 3 && s.bit .PLn_CTRL_COMMIT_ON_SUSPECT p then s.autoCommit p false
    else if 2 ≤ g1 then s.setPlane p { s.planes[p] with lossAt := none }
    else s
  else s

/-- What the plane does in the cycle in which a source's grade goes from `g0` to `g1` (R65, R67, R70, R71). -/
def State.planeReact (c g0 g1 : Nat) (s : State) (p : Fin 4) : State :=
  ((s.prefReact c g0 g1 p).candReact c g0 g1 p).activeReact c g0 g1 p

/-- A source's grade changes at every plane in the same SYS cycle (02, "The Winnower"). -/
def State.sourceChange (s : State) (c g0 g1 : Nat) : State :=
  if g0 = g1 then s else s.forAll 4 (State.planeReact c g0 g1)

end Sys2Proof.Machine
end

