-- ==== Sys2Proof/Machine/Winnower.lean ====
section
/-!
DEFINITION. The reference inputs and the Winnower (R19 to R38, R408): samples, measurement results, the four tests, grades and
the hold-off, drift windows and the baseline; and the commands of that chapter.
-/
namespace Sys2Proof.Machine

/-! ## Grades (R30, R31) -/

/-- The input runs: EN is 1 and MODE is not the reserved one, which behaves as disabled (R19, R42). -/
def State.inEnabled (s : State) (n : Nat) : Bool := s.bit .INn_CFG_EN n && s.rd .INn_CFG_MODE n != 3

/-- The grade the tests stand for: 0 ABSENT, 1 BAD, 2 SUSPECT, 3 when every test passes (R30, R33, R408). -/
def State.inStanding (s : State) (n : Fin 16) : Nat :=
  if s.bit .INn_QUAL_CAL n then 1
  else if !s.inEnabled n || s.inType n == .none then 0
  else if s.bit .INn_QUAL_NOM_ZERO n then 1
  else if s.inputs[n].absent then 0
  else if s.bit .INn_QUAL_FREQ_FAIL n || s.bit .INn_QUAL_STEP_BAD n || s.bit .INn_QUAL_DRIFT_BAD n
    || s.bit .INn_QUAL_OVERRATE n then 1
  else if s.bit .INn_QUAL_STEP_SUSP n || s.bit .INn_QUAL_DRIFT_SUSP n then 2
  else 3

/-- A grade change: CHANGED, the log entry, the event line, and the planes in the same cycle (R30). -/
def State.setGrade (s : State) (n : Fin 16) (g : Nat) : State :=
  let old := s.rd .INn_QUAL_GRADE n
  if old = g then s
  else
    let s := (s.wr .INn_QUAL_GRADE n g).flag .INn_QUAL_EV n
    let s := (s.log (0x40 + n) (s.regVal .INn_QUAL_EV n)).pulse n
    s.sourceChange n old g

/-- The hold-off's standing: HOLDING, and since when every test has passed. -/
def State.setHold (s : State) (n : Fin 16) (hold : Bool) (since : Option Nat) : State :=
  (s.setInp n { s.inputs[n] with holdFrom := since }).wrB .INn_QUAL_HOLDING n hold

/-- The hold-off stopped. -/
def State.stopHold (s : State) (n : Fin 16) : State := s.setHold n false none

/-- T1 to T4 do not decide the grade: the input is held at BAD by a calibration run or for want of a nominal frequency (R33,
R408). -/
def State.heldBad (s : State) (n : Nat) : Bool := s.bit .INn_QUAL_CAL n || s.bit .INn_QUAL_NOM_ZERO n

/-- The grade formed anew from the tests' standing (R30, R31). A failure sets it, and one within the hold-off leaves HOLDING
set, lowers the grade if it is the worse, and restarts the time. An edge that ends ABSENT makes the input BAD with HOLDING
set, whatever else stands. When every test passes, an input that is not GOOD keeps its grade while the hold-off runs. Under
RECONFIG an input is no better than BAD (R32). -/
def State.regrade (s : State) (n : Fin 16) : State :=
  let w := s.inStanding n
  let g := s.rd .INn_QUAL_GRADE n
  if w = 0 || s.heldBad n then (s.stopHold n).setGrade n w
  else if w < 3 then
    let w := if s.bit .INn_QUAL_RECONFIG n then 1 else w
    if g = 0 then (s.setHold n true none).setGrade n 1
    else if s.bit .INn_QUAL_HOLDING n then (s.setHold n true none).setGrade n (min g w)
    else s.setGrade n w
  else if g = 3 then s
  else
    let s := if g = 0 then s.setGrade n 1 else s
    if s.inputs[n].holdFrom.isSome then s else s.setHold n true (some s.now)

/-- Every test has passed for INn_HOLDOFF without interruption: the input becomes GOOD, and a restart of qualification ends
(R31, R32). -/
def State.holdoffEnd (s : State) (n : Fin 16) : State :=
  match s.inputs[n].holdFrom with
  | some from_ =>
    if s.inStanding n = 3 && decide (from_ + s.rd .INn_HOLDOFF n * 10000000000 ≤ s.now) then
      ((s.stopHold n).wr .INn_QUAL_RECONFIG n 0).setGrade n 3
    else s
  | none => s

/-- The windows, scores and step history cleared (R32); b_n becomes 0 (R35). The measurement gate in progress runs on
(entry 95). -/
def State.clearWindows (s : State) (n : Fin 16) : State :=
  let x := s.inputs[n]
  let s := s.setInp n { x with last16 := [], steps := [], obsFrom := s.now, obsSum := 0, obsCount := 0, obs := []
                               evalAt := Vector.replicate 3 s.now, baseSet := false, holdFrom := none }
  ((((((((((s.wr .INn_SCORE_S10 n 0).wr .INn_SCORE_S100 n 0).wr .INn_SCORE_S1000 n 0).wr .INn_SCORE_RDY n 0).wr
    .INn_BASE n 0).wr .INn_QUAL_STEPS n 0).wr .INn_QUAL_STEP_SUSP n 0).wr .INn_QUAL_STEP_BAD n 0).wr
    .INn_QUAL_DRIFT_SUSP n 0).wr .INn_QUAL_DRIFT_BAD n 0).wr .INn_QUAL_HOLDING n 0

/-- NOM_ZERO: an enabled input of a type other than NONE has a nominal frequency of 0 (R408). -/
def State.checkNom (s : State) (n : Fin 16) : State :=
  s.wrB .INn_QUAL_NOM_ZERO n (s.inEnabled n && s.inType n != .none && s.rd .INn_NOM n == 0)

/-- T1 begins at an input for which it has not run: its time counts from now (R30, R32, R408). -/
def State.startActivity (s : State) (n : Fin 16) : State := s.setInp n { s.inputs[n] with absent := false, actFrom := s.now }

/-- A restart of qualification (R32): everything cleared, RECONFIG set, the input BAD until R31 is met. -/
def State.restartQual (s : State) (n : Fin 16) : State :=
  let s := ((s.clearWindows n).wr .INn_QUAL_RECONFIG n 1).checkNom n
  let s := if 1 < s.rd .INn_QUAL_GRADE n then s.setGrade n 1 else s
  s.regrade n

/-- The input enabled: its counts and windows begin anew, and VALID is 0 until its first result (R21, R28, R35). -/
def State.enableInput (s : State) (n : Fin 16) : State :=
  let x := s.inputs[n]
  let s := s.setInp n { InputState.init with actFrom := s.now, gateFrom := some s.now, div := x.div, measFreq := x.measFreq
                                             measPhase := x.measPhase, measAt := x.measAt, before := x.before }
  let s := ((s.clearWindows n).wr .INn_MEAS_VALID n 0).wr .INn_QUAL_FREQ_FAIL n 0
  (s.checkNom n).regrade n

/-! ## Samples (R21, R22, R25) -/

/-- The plane whose prediction an input is graded against: the lowest-numbered one that has selected it as active source
or shadow candidate, else PRED_PL (R34). -/
def State.predPlane (s : State) (n : Nat) : Fin 4 :=
  match firstFin 4 (fun p => srcCode (s.rd .PLn_REFSEL_SRC p) == n || s.rd .PLn_SHADOW_STAT_SRC p == n) with
  | some p => p
  | none => Fin.ofNat 4 (s.rd .INn_CFG_PRED_PL n)

/-- T3 on a new sample at position `x` (R30): three steps among the last 16 samples stand at BAD, one at SUSPECT, none
passes. Samples are judged once 16 precede them. -/
def State.stepTest (s : State) (n : Fin 16) (x : Rat) : State :=
  let i := s.inputs[n]
  let step := i.last16.length == 16
    && decide ((s.rd .INn_LIMITS_PSTEP n : Rat) * 100 < ratAbs (x - Config.extrapolate i.last16 i.ecnt))
  let steps := (step :: i.steps).take 16
  let k := steps.count true
  let s := s.setInp n { i with last16 := ((i.ecnt, x) :: i.last16).take 16, steps := steps }
  let s := s.wr .INn_QUAL_STEPS n (min k 15)
  if 3 ≤ k then (s.wr .INn_QUAL_STEP_BAD n 1).wr .INn_QUAL_STEP_SUSP n 0
  else if k = 0 then (s.wr .INn_QUAL_STEP_BAD n 0).wr .INn_QUAL_STEP_SUSP n 0
  else if s.bit .INn_QUAL_STEP_BAD n then s
  else s.wr .INn_QUAL_STEP_SUSP n 1

/-- A sample taken by the Winnower: activity, T3, the observation and the gate in progress, and the planes (R30, R36), from
which a calibration run withholds it (R33); the tests and gates go on meanwhile (entry 96). -/
def State.takeSample (s : State) (n : Fin 16) (x : Sample) (phase pos : Rat) : State :=
  let s := s.stepTest n pos
  let i := s.inputs[n]
  let s := s.setInp n
    { i with absent := false, actFrom := s.now, fresh := if s.bit .INn_QUAL_CAL n then i.fresh else x :: i.fresh, phase := phase, prevPred := some x.pred,
             obsSum := i.obsSum + phase, obsCount := i.obsCount + 1,
             gateFirst := if i.gateFirst.isSome then i.gateFirst else some (x, phase), gateLast := some (x, phase) }
  s.regrade n

/-- The retained edge rate is above 2.1 MHz, judged on the interval from the retained edge before (R20). -/
def overRate (prev : Option Nat) (t : Nat) : Bool :=
  match prev with
  | some u => decide ((t - u) * 21 < 10000000)
  | none => false

/-- The Winnower runs T1 to T4 on the input (R24, R408). -/
def State.tested (s : State) (n : Nat) : Bool := s.inType n != .none && !s.bit .INn_QUAL_NOM_ZERO n

/-- What a calibrated element holds (R357). -/
def State.calElem (s : State) (i : Nat) : CalValue := Store.get s.cal.inForce i .trim

/-- The stamp of TDC `tdc` for an edge that its silicon trim places at `t`: under a calibration, where the edge lies between the
measured edges of its bin, less the measured offset (R350, R357). -/
def State.tdcTime (s : State) (tdc t : Nat) : Int :=
  match s.calElem tdc with
  | .tdc edges offset =>
    let fine := t % cyclePs
    let code := Config.tdcCode tdc fine
    let i := code.1 % 32
    let lower : Rat := if i = 0 then 0 else (edges.getD (i - 1) 0 : Nat)
    let upper : Rat := (edges.getD i 0 : Nat)
    ((t - fine : Nat) : Int) + roundFree 64 ((lower + (upper - lower) * code.2) / 16 - (offset : Rat) / 64)
  | _ => t

/-- A retained edge at instant `t` (R20, R21). One that comes at an excessive rate is discarded, whatever the type or the nominal
frequency; it still tells T1 that edges arrive. -/
def State.edge (s : State) (n : Fin 16) (t : Nat) : State :=
  if !s.inEnabled n || s.inType n == .ptpSw then s
  else
    let i := s.inputs[n]
    let s := s.setInp n { i with ecnt := i.ecnt + 1, prevEdge := some t }
    if overRate i.prevEdge t then
      let s := if s.tested n then s.setInp n { s.inputs[n] with absent := false, actFrom := s.now } else s
      (s.wr .INn_QUAL_OVERRATE n 1).regrade n
    else if !s.tested n then s
    else
      let time : Int := s.tdcTime n t - s.rdI .INn_DELAY n
      let pred := s.predOf time
      let per := s.srcPeriod n
      let dp := match i.prevPred with
        | some q => pred - q
        | none => 0
      let phase := i.phase + ((roundNearest 1 (dp / per) : Int) : Rat) * per - dp
      s.takeSample n ⟨time, i.ecnt + 1, pred, none⟩ phase pred

/-- A commit of INn_SWPHASE with the signed offset `off` (R25): re-expressed on the prediction timescale for T2 to T4. -/
def State.swSample (s : State) (n : Fin 16) (off : Int) : State :=
  if !s.inEnabled n || s.inType n != .ptpSw || s.bit .INn_QUAL_NOM_ZERO n then s
  else
    let i := s.inputs[n]
    let p := s.predPlane n
    let pred := s.predOf s.now
    let phase := (off : Rat) + s.tod p s.now - pred
    let s := s.setInp n { i with ecnt := i.ecnt + 1 }
    s.takeSample n ⟨s.now, i.ecnt + 1, pred, some (off, p.val)⟩ phase phase

/-! ## Results (R27 to R29) -/

/-- The phase sample word of R21. -/
def Sample.word (x : Sample) : DWord :=
  let time := match x.offset with
    | some o => Config.swPhaseTime x.time.toNat o.1 % 2 ^ 40
    | none => (x.time % (2 ^ 40 : Nat)).toNat
  BitVec.ofNat 64 (time + x.ecnt % 65536 * 2 ^ 40 + 2 ^ 63)

/-- T2 at a completed gate whose offset against the prediction timescale is `off` (R30). -/
def State.freqTest (s : State) (n : Fin 16) (off : Rat) : State :=
  let win : Rat := (s.rd .INn_LIMITS_FWIN n : Rat) / 100000000
  if win < ratAbs off then s.wr .INn_QUAL_FREQ_FAIL n 1
  else if ratAbs off < win * 8 / 10 then s.wr .INn_QUAL_FREQ_FAIL n 0
  else s

/-- The result of an input that a read in this SYS cycle returns: one completed in the same cycle is not yet seen (R28). -/
def State.inResult (s : State) (n : Fin 16) : Result :=
  let x := s.inputs[n]
  if s.bit .INn_MEAS_VALID n && sameCycle x.measAt s.now then x.before
  else ⟨s.rd .INn_MEAS_SEQ n, s.bit .INn_MEAS_VALID n, x.measAt, x.measFreq, x.measPhase, 0⟩

/-- The measurement gate ends: a result with SEQ one higher, and T2 (R27, R28, R30). A gate spans INn_MGATE and holds at
least two samples; with MGATE 0 it has no length (entry 98). -/
def State.gateEnd (s : State) (n : Fin 16) : State :=
  let i := s.inputs[n]
  match i.gateFrom, i.gateFirst, i.gateLast with
  | some g, some (a, pa), some (b, pb) =>
    if s.inEnabled n && !s.bit .INn_QUAL_NOM_ZERO n && g + s.rd .INn_MGATE n * 1000000000 ≤ s.now && a.ecnt < b.ecnt
        && a.time < b.time && a.pred < b.pred then
      let adv := pb - pa + (b.pred - a.pred)
      let f := adv / ((b.time : Rat) - a.time) - 1
      let w := fitSigned 1 64 (roundFree 2 (f * (2 ^ 48 : Nat)))
      let s := s.setInp n { i with gateFrom := some s.now, gateFirst := none, gateLast := none, before := s.inResult n,
                                   measFreq := BitVec.ofNat 64 w, measPhase := b.word, measAt := s.now }
      let s := (s.wr .INn_MEAS_SEQ n (s.rd .INn_MEAS_SEQ n + 1)).wr .INn_MEAS_VALID n 1
      (s.freqTest n ((pb - pa) / (b.pred - a.pred))).regrade n
    else s
  | _, _, _ => s

/-! ## Activity (T1) -/

/-- INn_ACT in ps; 0 means four nominal sample periods (R30). -/
def State.actPs (s : State) (n : Nat) : Rat :=
  if s.rd .INn_ACT n = 0 then 4 * s.srcPeriod n else (s.rd .INn_ACT n : Rat) * 1000000

/-- T1 fails: no edge or sample within INn_ACT (R25, R30). -/
def State.activityFail (s : State) (n : Fin 16) : State :=
  let i := s.inputs[n]
  if s.inEnabled n && s.tested n && decide ((i.actFrom : Rat) + s.actPs n ≤ s.now) then
    (s.setInp n { i with absent := true }).regrade n
  else s

/-! ## Drift (R36 to R38) -/

/-- A window's place, W in s, and its score field, divergence field and readiness bit. -/
def winIdx : DriftWindow → Fin 3
  | .w10 => 0
  | .w100 => 1
  | .w1000 => 2
def winSecs : DriftWindow → Nat
  | .w10 => 10
  | .w100 => 100
  | .w1000 => 1000
def winScore : DriftWindow → Field
  | .w10 => .INn_SCORE_S10
  | .w100 => .INn_SCORE_S100
  | .w1000 => .INn_SCORE_S1000
def winDiverg : DriftWindow → Field
  | .w10 => .INn_DIVERG_10
  | .w100 => .INn_DIVERG_100
  | .w1000 => .INn_DIVERG_1000
def winReady : DriftWindow → Nat
  | .w10 => 0
  | .w100 => 1
  | .w1000 => 2

/-- Observations per second: 1 for PPS and PTP_SW, 10 otherwise (R36). -/
def State.obsRate (s : State) (n : Nat) : Nat :=
  if s.inType n = .pps || s.inType n = .ptpSw then 1 else 10

/-- The observation interval in ps (R36). -/
def State.obsPs (s : State) (n : Nat) : Nat := psPerS / s.obsRate n

/-- The baseline in ps per s. -/
def State.basePerS (s : State) (n : Nat) : Rat := (s.rdI .INn_BASE n : Rat) * psPerS / (2 ^ 48 : Nat)

/-- The residuals of observations, newest first, the first of them `back` intervals ago: the phase less b_n × t, where t counts from
now (R34, R36). An interval without a sample has none. -/
def residuals (b step : Rat) (back : Nat) : List (Option Rat) → List Rat
  | [] => []
  | some x :: l => (x + b * step * (back : Rat)) :: residuals b step (back + 1) l
  | none :: l => residuals b step (back + 1) l

/-- The residuals of the last window of `k` intervals and of the one before it. -/
def State.windowPair (s : State) (n : Fin 16) (k : Nat) : List Rat × List Rat :=
  let o := s.inputs[n].obs
  let step : Rat := 1 / (s.obsRate n : Rat)
  (residuals (s.basePerS n) step 0 (o.take k), residuals (s.basePerS n) step k ((o.drop k).take k))

/-- d_W in ps: the mean residual over the last W less that over the W before it (R36). -/
def State.divergence (s : State) (n : Fin 16) (w : DriftWindow) : Rat :=
  let r := s.windowPair n ((winSecs w) * s.obsRate n)
  meanRat r.1 - meanRat r.2

/-- 2W of residual exists, with an observation in each half (R36). -/
def State.winIsReady (s : State) (n : Fin 16) (w : DriftWindow) : Bool :=
  let k := (winSecs w) * s.obsRate n
  let r := s.windowPair n k
  decide (2 * k ≤ s.inputs[n].obs.length) && !r.1.isEmpty && !r.2.isEmpty

/-- The allowance a_W in ps (R36). -/
def State.allowance (s : State) (n : Nat) (w : DriftWindow) : Rat :=
  (ceilSqrt (4 * s.rd .INn_NOISE n) 2 ((winSecs w) * s.obsRate n) : Rat) + (s.rd .INn_WANDER n * (winSecs w) : Rat) / 1000

/-- T4's standing from the scores (R30, R37). -/
def State.driftStand (s : State) (n : Fin 16) (bad : Bool) : State :=
  let a := s.rd .INn_SCORE_S10 n
  let b := s.rd .INn_SCORE_S100 n
  let c := s.rd .INn_SCORE_S1000 n
  let top := max a (max b c)
  if bad || 12 ≤ top then (s.wr .INn_QUAL_DRIFT_BAD n 1).wr .INn_QUAL_DRIFT_SUSP n 0
  else if top = 0 then (s.wr .INn_QUAL_DRIFT_BAD n 0).wr .INn_QUAL_DRIFT_SUSP n 0
  else if 6 ≤ top && !s.bit .INn_QUAL_DRIFT_BAD n then s.wr .INn_QUAL_DRIFT_SUSP n 1
  else s

/-- The mean of the interval's samples; none without a sample. -/
def InputState.obsMean (i : InputState) : Option Rat :=
  if i.obsCount = 0 then none else some (i.obsSum / (i.obsCount : Rat))

/-- The observation interval ends: the mean of its samples enters the windows (R36). An interval that has passed without a sample
enters as one without an observation, so that the windows keep their length. -/
def State.observe (s : State) (n : Fin 16) : State :=
  let i := s.inputs[n]
  let k := (s.now - i.obsFrom) / s.obsPs n
  if !s.inEnabled n || !s.tested n || k = 0 then s
  else
    s.setInp n { i with obsFrom := i.obsFrom + k * s.obsPs n, obsSum := 0, obsCount := 0
                        obs := (List.replicate (min 20000 (k - 1)) none ++ i.obsMean :: i.obs).take 20000 }

/-- BASE moved by a divergence over 1000 s (R35); beyond its range its bits are free
(entry 94). -/
def State.addBase (s : State) (n : Fin 16) (d : Rat) : State :=
  s.wr .INn_BASE n (fitSigned 2 32 (s.rdI .INn_BASE n + roundFree 3 (d / 1000 * (2 ^ 48 : Nat) / psPerS)))

/-- The latest divergence of a window: held exact, and shown in whole ps; beyond the register's range its bits are free (R36,
entry 94). -/
def State.setDiverg (s : State) (n : Fin 16) (w : DriftWindow) (d : Rat) : State :=
  (s.setInp n { s.inputs[n] with div := s.inputs[n].div.set (winIdx w) d }).wr (winDiverg w) n (fitSigned 3 32 (roundNearest 4 d))

/-- W / 10 has passed since the window's last evaluation (R36). -/
def State.evalDue (s : State) (n : Fin 16) (w : DriftWindow) : Bool :=
  decide (s.inputs[n].evalAt[winIdx w] + winSecs w * psPerS / 10 ≤ s.now)

/-- An evaluation of one window (R35 to R38). -/
def State.driftEval (s : State) (n : Fin 16) (w : DriftWindow) : State :=
  if !s.inEnabled n || !s.tested n || !s.evalDue n w then s
  else
    let i := s.inputs[n]
    let s := s.setInp n { i with evalAt := i.evalAt.set (winIdx w) s.now }
    if !s.winIsReady n w then
      let sc := s.rd (winScore w) n
      (((s.clearBit .INn_SCORE_RDY n (winReady w)).wr (winScore w) n (sc - 1)).driftStand n false).regrade n
    else
      let s := s.setBit .INn_SCORE_RDY n (winReady w)
      let s := if w = .w1000 && !s.inputs[n].baseSet then
          let d := s.divergence n .w1000
          (s.setInp n { s.inputs[n] with baseSet := true }).addBase n d
        else s
      let d := s.divergence n w
      let a := s.allowance n w
      let s := s.setDiverg n w d
      let sc := s.rd (winScore w) n
      if w = .w1000 && !s.assist then ((s.wr (winScore w) n 0).driftStand n false).regrade n
      else
        let sc' := if a < ratAbs d then min 15 (sc + 2) else sc - 1
        ((s.wr (winScore w) n sc').driftStand n (decide (4 * a < ratAbs d))).regrade n

/-- While no model is applied the 1000 s window is held as passing (R38): what the withdrawal of one does to an input. -/
def State.holdS1000 (s : State) (n : Fin 16) : State := ((s.wr .INn_SCORE_S1000 n 0).driftStand n false).regrade n

/-- REANCHOR (R35): the baseline moves by the latest d₁₀₀₀, which that makes zero. -/
def State.reanchor (s : State) (n : Fin 16) : State :=
  let s := ((s.wr .INn_SCORE_S10 n 0).wr .INn_SCORE_S100 n 0).wr .INn_SCORE_S1000 n 0
  let s := if s.bitOf .INn_SCORE_RDY n 2 then
      let d := s.inputs[n].div[winIdx .w1000]
      (s.addBase n d).setDiverg n .w1000 0
    else s
  (s.driftStand n false).regrade n

/-! ## Calibration (R33) -/

/-- A calibration run takes the input: held at BAD with CAL set. -/
def State.calTake (s : State) (n : Fin 16) : State := (s.wr .INn_QUAL_CAL n 1).regrade n

/-- The run has ended: the hold-off of R31 starts, but on an input whose edges have ceased. -/
def State.calRelease (s : State) (n : Fin 16) : State :=
  if s.bit .INn_QUAL_CAL n then ((s.setHold n true none).wr .INn_QUAL_CAL n 0).regrade n else s

/-! ## Terms of the bound (R23, R26) -/

/-- The declared reference bound of an input (R26). -/
def State.declaredBound (s : State) (n : Nat) : Bound :=
  let b := Bound.ofReg (s.rd .INn_BOUND n)
  if s.rd .INn_QUAL_GRADE n = 2 then
    let d := (s.inputs[Fin.ofNat 16 n]).div
    b.add (Bound.ofRat (max (ratAbs d[0]) (max (ratAbs d[1]) (ratAbs d[2]))))
  else b

/-- The input path term (R23). -/
def State.pathTerm (s : State) (n : Nat) : Bound := .of (s.rd .INn_DELAY_UNC n + 4)

/-! ## Register writes of the IN block -/

/-- A write of INn_CFG (R32, R35, R42): EN takes the input in or out of service; a change of MODE or EDGE restarts
qualification; REANCHOR acts. -/
def State.writeInCfg (s : State) (n : Fin 16) (v : Word) : State :=
  let mode := s.rd .INn_CFG_MODE n
  let edge := s.rd .INn_CFG_EDGE n
  let was := s.inEnabled n
  let s := s.writeWord .INn_CFG n v
  let changed := mode != s.rd .INn_CFG_MODE n || edge != s.rd .INn_CFG_EDGE n
  let s := if changed then s.restartQual n else s
  let s := if !was && s.inEnabled n then s.enableInput n
    else if was && !s.inEnabled n then (s.checkNom n).regrade n
    else s
  if fieldOf .INn_CFG_REANCHOR v = 1 then s.reanchor n else s

/-- The defaults of a type (R24): FWIN, PSTEP, INn_ACT, HOLDOFF. -/
def typeDefaults : RefType → Option (Nat × Nat × Nat × Nat)
  | .pps => some (1000, 10000, 1500000, 6000)
  | .gnss => some (100, 1000, 0, 1000)
  | .synce => some (920, 1000, 0, 1000)
  | .clock => some (10000, 10000, 0, 10)
  | .ptpSw => some (1000, 10000, 4000000, 6000)
  | _ => none

/-- OVERRATE clears (R20). -/
def State.clearOverrate (s : State) (n : Fin 16) : State :=
  if s.bit .INn_QUAL_OVERRATE n then (s.wr .INn_QUAL_OVERRATE n 0).regrade n else s

/-- A write of INn_TYPE (R20, R24, R32). -/
def State.writeInType (s : State) (n : Fin 16) (v : Word) : State :=
  let old := s.rd .INn_TYPE n
  let none_ := s.inType n == .none
  let s := s.writeWord .INn_TYPE n v
  let s := match typeDefaults (s.inType n) with
    | some (fwin, pstep, act, hold) =>
      (((s.wr .INn_LIMITS_FWIN n fwin).wr .INn_LIMITS_PSTEP n pstep).wr .INn_ACT n act).wr .INn_HOLDOFF n hold
    | none => s
  let s := s.clearOverrate n
  let s := if none_ && s.inType n != .none then s.startActivity n else s
  if old != s.rd .INn_TYPE n then s.restartQual n else s

/-- A write of INn_DIV (R20, R32). -/
def State.writeInDiv (s : State) (n : Fin 16) (v : Word) : State :=
  let old := s.rd .INn_DIV n
  let s := (s.writeWord .INn_DIV n v).clearOverrate n
  if old != s.rd .INn_DIV n then s.restartQual n else s

/-- A commit of INn_NOM (R32, R408). -/
def State.commitInNom (s : State) (n : Fin 16) (v : DWord) : State :=
  let old := s.rd .INn_NOM n
  let s := s.writePair .INn_NOM n v
  let s := if s.bit .INn_QUAL_NOM_ZERO n && s.rd .INn_NOM n != 0 then s.startActivity n else s
  if old != s.rd .INn_NOM n then s.restartQual n else s.checkNom n

end Sys2Proof.Machine
end

