-- ==== Sys2Proof/Machine/OutCore.lean ====
section
/-!
DEFINITION. What other blocks need of the outputs: frequencies and ratios (R85, R99, R106), steps under STEPWRAP (R114), the output path
term (R133).
-/
namespace Sys2Proof.Machine

/-- Reference multiplier m of REFMUL (R85); 3 is invalid and reads 0. -/
def refMul (v : Nat) : Nat := [1, 2, 4, 0].getD v 0

/-- f_PFD in Hz (R85). -/
def State.fPfd (s : State) (x : Nat) : Rat := (s.rd .XO_NOM * refMul (s.rd .APLLx_CTRL_REFMUL x) : Nat)

/-- f_APLL in Hz (R85). -/
def State.fVco (s : State) (x : Nat) : Rat :=
  4 * s.fPfd x * ((s.rd .APLLx_N x : Rat) + (s.rd .APLLx_NUM x : Rat) / (s.rd .APLLx_DEN x : Rat))

/-- VCO period in ps. -/
def State.tVco (s : State) (x : Nat) : Rat := psPerS / s.fVco x

/-- The active and the shadow ratio of an output (R106, R120). -/
def State.ratio (s : State) (n : Nat) : Ratio := ⟨s.rd .OUTn_INT n, s.rd .OUTn_NUM n, s.rd .OUTn_DEN n⟩
def State.shadowRatio (s : State) (n : Nat) : Ratio := ⟨s.rd .OUTn_S_INT n, s.rd .OUTn_S_NUM n, s.rd .OUTn_S_DEN n⟩

/-- A ratio as a number. -/
def Ratio.val (r : Ratio) : Rat := (r.int : Rat) + (r.num : Rat) / (r.den : Rat)

/-- A ratio is valid: 8 ≤ INT ≤ 2³⁴ − 1, DEN ≥ 1, NUM < DEN (R106). -/
def Ratio.valid (r : Ratio) : Bool := 8 ≤ r.int && r.int ≤ 2 ^ 34 - 1 && 1 ≤ r.den && r.num < r.den

/-- The ratio that gives the same frequency on another APLL, f_other / f_own = q, and whether it is exact within the widths
(R99). -/
def Ratio.alternate (r : Ratio) (q : Rat) : Ratio × Bool :=
  let a := r.val * q
  let i := a.floor.toNat
  let num := a.num.toNat - i * a.den
  (⟨i, num, a.den⟩, 8 ≤ i && i ≤ 2 ^ 34 - 1 && a.den ≤ 2 ^ 32 - 1)

/-- The APLL an output draws on, its mode and its plane, `none` for no plane (R105, R135). -/
def State.outApll (s : State) (n : Nat) : Fin 2 := Fin.ofNat 2 (s.rd .OUTn_SRC_APLL n)
def State.outMode (s : State) (n : Nat) : Nat := s.rd .OUTn_CFG_MODE n
def State.outPlane (s : State) (n : Nat) : Option (Fin 4) :=
  let p := s.rd .OUTn_SRC_PL n
  if p < 4 then some (Fin.ofNat 4 p) else none

/-- OUTn_STAT.RUN: 0 STOPPED, 1 WAITING, 2 RUNNING, 3 SQUELCHED. -/
def State.run (s : State) (n : Nat) : Nat := s.rd .OUTn_STAT_RUN n

/-- RUN reads RUNNING or SQUELCHED. -/
def State.outOn (s : State) (n : Nat) : Bool := 2 ≤ s.run n

/-- The word of an output from the next in-force boundary on, with the plane that a write of PL has named (R108, R125). -/
def State.nextWord (s : State) (n : Fin 64) : Int :=
  let pl := (s.outs[n]).planeNext.getD (s.rd .OUTn_SRC_PL n)
  if h : pl < 4 then (s.planes[pl]).sent else 0

/-- Nominal period in ps: r × t_vco, 1 s, or OUTn_TPER. -/
def State.nomPeriod (s : State) (n : Nat) : Rat :=
  match s.outMode n with
  | 1 => (psPerS : Rat)
  | 2 => (s.rd .OUTn_TPER n * 1000 : Nat)
  | _ => (s.ratio n).val * s.tVco (s.outApll n)

/-- SWAP_OK of an output (R99): its alternate ratio is exact; always for PPS and TIMED. -/
def State.swapOk (s : State) (n : Nat) : Bool :=
  if s.outMode n = 1 || s.outMode n = 2 then true
  else
    let x := s.outApll n
    ((s.ratio n).alternate (s.fVco (1 - x) / s.fVco x)).2

/-- The nearest integer, ties toward zero (R114). -/
def roundTiesZero (x : Rat) : Int := if x < 0 then -((-x - 1 / 2).ceil) else (x - 1 / 2).ceil

/-- `cur` moved toward `target` by at most `lim`. -/
def slewTo (cur target lim : Rat) : Rat :=
  if target < cur - lim then cur - lim else if cur + lim < target then cur + lim else target

/-- EDGEADJ moved by `k`, saturating (R119). -/
def State.addEdgeAdj (s : State) (n : Nat) (k : Int) : State :=
  (s.wrI .OUTn_EDGEADJ n (satSigned 16 (s.rdI .OUTn_EDGEADJ n + k))).noteSet .OUTn_EDGEADJ n (ofSigned 16 k)

/-- The period of a phase advanced to instant `t` under word `c` (R107). -/
def Track.upTo (k : Track) (t : Rat) (c : Int) : Track :=
  if k.period = 0 then { k with at_ := t }
  else { k with theta := k.theta + (t - k.at_) * (1 + wordFrac c) / k.period, at_ := t }

/-- The device instant at which a phase reaches its next edge under word `c`. -/
def Track.edge (k : Track) (c : Int) : Rat := k.at_ + ((k.k : Rat) - k.theta) * k.period / (1 + wordFrac c)

/-- The time an output places by, in ps: its plane's TOD, or with no plane the device timescale (R112). -/
def State.outTime (s : State) (n : Nat) : Rat :=
  match s.outPlane n with
  | some p => s.tod p s.now
  | none => (s.now : Rat) - s.tick0

/-- The output that phase D of a calibration run uses on an APLL, where its bit in CAL_DTC is set (R353). -/
def State.dtcOut (s : State) (x : Fin 2) : Option (Fin 64) :=
  if x = 0 then (if s.bit .CAL_DTC_EN_A then some (Fin.ofNat 64 (s.rd .CAL_DTC_OUT_A)) else none)
  else (if s.bit .CAL_DTC_EN_B then some (Fin.ofNat 64 (s.rd .CAL_DTC_OUT_B)) else none)

/-- The named output meets R353. -/
def State.dtcOk (s : State) (x : Fin 2) (n : Fin 64) : Bool :=
  let b := n.val / 8
  s.outApll n == x && s.run n == 2 && s.outMode n == 0 && s.bit .OBb_BTSEL_EN b && 8 * b + s.rd .OBb_BTSEL_SEL b == n

/-- APLLs whose part of phase D has passed when that of `x` has: 340 ms for each, APLL_A first (R350). -/
def State.dtcParts (s : State) (x : Fin 2) : Nat := if x = 1 && (s.dtcOut 0).isSome then 2 else 1

/-- The displacement of the output that phase D uses on an APLL, in tap spacings: 0 to 15 for 20 ms each, then full DTC scale, which is
one (R96, R353). -/
def State.dtcTaps (s : State) (x : Fin 2) : Nat :=
  let start := s.cal.phaseAt + 340000000000 * (s.dtcParts x - 1)
  let j := (s.now - start) / 20000000000
  if s.now < start then 0 else if j < 16 then j else if j = 16 then 1 else 0

/-- What a calibration run adds to an output's edges, in ps (R353). -/
def State.calDisplace (s : State) (n : Fin 64) : Rat :=
  let part := fun (x : Fin 2) => if s.dtcOut x == some n && s.dtcOk x n then (s.dtcTaps x : Rat) * s.tVco x / 16 else 0
  if s.rd .CAL_STATE_PHASE = 5 then part 0 + part 1 else 0

/-- φ_now − D of an output, in ps (R107), with its calibration correction and a run's displacement, which act inside the PIFD (R353,
R357). -/
def State.outShift (s : State) (n : Fin 64) : Rat :=
  let o := s.outs[n]
  (o.phi + (o.corr : Rat)) / 64 + s.calDisplace n - (s.rdI .OUTn_DELAY n : Rat)

/-- A phase that reaches 0 at the next whole second of the output's time (R112): the first whose edge, moved by φ_now − D, is still to
come (entry 134). -/
def State.anchorTrack (s : State) (n : Fin 64) : Track :=
  let x := s.outTime n
  let m : Rat := (((x - min 0 (s.outShift n)) / psPerS).floor + 1 : Int) * (psPerS : Rat)
  let p := s.nomPeriod n
  ⟨if p = 0 then 0 else -((m - x) / p), s.now, p, 0, 0⟩

/-- The part of a step of `d` ps that a RATIO output applies, and j (R114): whole periods are taken out while STEPWRAP
is 1. -/
def State.wrapStep (s : State) (n : Fin 64) (d : Rat) : Rat × Int :=
  let p := s.outs[n].cur.period
  let j := if p = 0 then 0 else roundTiesZero (d / p)
  (if s.bit .OUTn_CFG_STEPWRAP n then d - j * p else d, j)

/-- How far φ_now of an output is from its setpoint, in ps. -/
def State.phaseGap (s : State) (n : Fin 64) : Rat := ratAbs ((s.rdI .OUTn_PHASE n : Rat) - (s.outs[n]).phi) / 64

/-- |φ − φ_now| and backlog of an output, in ps (R133). -/
def State.outErr (s : State) (n : Fin 64) : Rat := s.phaseGap n + (s.outs[n]).backlog

/-- One output's sum under R133, where |φ − φ_now| and backlog come to `err` ps. -/
def State.outSumWith (s : State) (n : Fin 64) (err : Rat) : Bound :=
  (Bound.of (s.rd .OUTn_DELAY_UNC n + 2 + (if s.rd .CAL_STATE_APPLY = 2 then 1 else 6))).add (Bound.ofRat err)

/-- One output's sum under R133. -/
def State.outSum (s : State) (n : Fin 64) : Bound := s.outSumWith n (s.outErr n)

/-- The bound of a plane may not fall of itself: HOLDOVER or STEERED, as at the last tick (R157). -/
def State.boundHeld (s : State) (p : Fin 4) : Bool :=
  let st := s.rd .PLn_STATE_STATE p
  (st == 3 || st == 4) && s.planes[p].floorD.isSome

/-- |φ − φ_now| and backlog of an output as plane `p` counts them: while its bound is held, they fall only by what slewing and
catching up take away (R157). -/
def State.outErrHeld (s : State) (p : Fin 4) (n : Fin 64) : Rat :=
  let o := s.outs[n]
  if s.boundHeld p then max (s.outErr n) (o.errSeen - o.errFell) else s.outErr n

/-- The output path term of a plane (R133): the largest sum over its RUNNING outputs with TIMEREF = 1. -/
def State.outPathTerm (s : State) (p : Fin 4) : Bound :=
  (List.finRange 64).foldl (fun b (n : Fin 64) =>
    if s.outPlane n == some p && s.run n == 2 && s.bit .OUTn_CFG_TIMEREF n then b.max (s.outSumWith n (s.outErrHeld p n))
    else b) (.ps 0)

/-- The outputs of a plane as this tick counts them (R157). -/
def State.noteOutErrs (s : State) (p : Fin 4) : State :=
  s.forAll 64 (fun s n =>
    if s.outPlane n == some p then s.setOut n { s.outs[n] with errSeen := s.outErrHeld p n, errFell := 0 } else s)

end Sys2Proof.Machine
end

