-- ==== Sys2Proof/Machine/Placement.lean ====
section
/-!
DEFINITION. Where an output's edges fall (R107 to R119): the phase law, φ_now's steps and slews, hops and aligned edges, the
period-stretch rule, high times; and the steps of a plane's time (R116, R124, R143, R144).
-/
namespace Sys2Proof.Machine

/-! ## High times (R111) -/

/-- The falling edge of a high time: H after its rising edge, or half the way to the next (R111). -/
def Pulse.fall (p : Pulse) : Rat :=
  let half := (p.next - p.rise) / 2
  p.rise + (if p.high < half then p.high else half)

/-- An output drives a pulse at the present instant: not one placed before the edge at which it resumed (R129). -/
def State.within (s : State) (n : Fin 64) (p : Pulse) : Bool :=
  decide ((s.outs[n]).driveFrom ≤ p.rise) && decide (p.rise ≤ (s.now : Rat)) && decide ((s.now : Rat) < p.fall)

/-- The output is high at the present instant, before POL (R111). -/
def State.outHigh (s : State) (n : Fin 64) : Bool := (s.outs[n]).pulses.any (s.within n)

/-- The end of the current high time; the present instant while the output is low. -/
def State.highEnd (s : State) (n : Fin 64) : Rat :=
  match (s.outs[n]).pulses.find? (s.within n) with
  | some p => p.fall
  | none => (s.now : Rat)

/-- The next falling edge of the edges placed so far. -/
def State.nextFall (s : State) (n : Fin 64) : Option Rat :=
  ((s.outs[n]).pulses.filter (fun p => decide ((s.now : Rat) < p.fall))).getLast?.map Pulse.fall

/-- Half the nominal period, or OUTn_PW within its range (R111). -/
def State.highTime (s : State) (n : Nat) (per : Rat) : Rat :=
  if s.outMode n = 0 || s.rd .OUTn_PW n = 0 then per / 2
  else
    let w : Rat := (s.rd .OUTn_PW n * 1000 : Nat)
    if w < 10000 then 10000 else if per - 10000 < w then per - 10000 else w

/-- The rising edge after the last high time, predicted or placed at `t`: while that high time has not ended its falling edge
follows, and what waits for the falling edge with it (R111, R127, R129). -/
def State.setLastNext (s : State) (n : Fin 64) (t : Rat) : State :=
  let o := s.outs[n]
  match o.pulses with
  | q :: l =>
    if q.fall ≤ (s.now : Rat) then s
    else
      let r : Pulse := { q with next := t }
      let re := fun (at_ : Rat) => if at_ = q.fall then r.fall else at_
      s.setOut n { o with pulses := r :: l, sqAt := re o.sqAt, driverNext := o.driverNext.map (fun x => (x.1, x.2.map re)) }
  | [] => s

/-! ## φ_now (R113 to R115, R412) -/

/-- The applied offset as its register shows it: whole units of 1/64 ps. -/
def State.showPhase (s : State) (n : Fin 64) : State := s.wrI .OUTn_PHASE_NOW n (roundFree 20 s.outs[n].phi)

/-- The member's first edge at the new ratio of its sheaf's hop is still to come (R121). -/
def State.hopWaits (s : State) (n : Fin 64) : Bool :=
  (s.outs[n]).next.any (fun x => !x.2) || (s.outs[n]).hop.any (fun h => h.ok && h.moved.isNone && h.sheaf.isSome)

/-- The output places by the new ratio of its sheaf's hop already. -/
def State.hopMoved (s : State) (n : Fin 64) : Bool := (s.outs[n]).hop.any (fun h => h.moved.isSome && h.sheaf.isSome)

/-- A sheaf's phase change does not yet hold at an edge at `tau`: it does from its instant on, with a hop from the first edge at the
new ratio on (R123, R124, R412). -/
def State.phaseHeld (s : State) (n : Fin 64) (tau : Rat) (w : PhaseWait) : Bool :=
  if w.hop && s.hopWaits n then true else if w.hop && s.hopMoved n then false else decide (tau < w.from_)

/-- φ as the next edge at `tau` is to move toward, and whether by a step. -/
def State.phaseTarget (s : State) (n : Fin 64) (tau : Rat) : Int × Bool :=
  match (s.outs[n]).phaseFrom.filter (s.phaseHeld n tau) with
  | some w => (w.old, w.oldStep)
  | none => (s.rdI .OUTn_PHASE n, (s.outs[n]).asStep)

/-- A change of OUTn_PHASE is a slew: PMODE is 1 and SLOPE is not 0 (R114, R115). -/
def State.slews (s : State) (n : Nat) : Bool := s.bit .OUTn_CFG_PMODE n && s.rd .OUTn_SLEW n != 0

/-- SLEWING is 1 while a slew runs (R115). -/
def State.markSlew (s : State) (n : Fin 64) : State :=
  s.wrB .OUTn_STAT_SLEWING n (s.outOn n && s.slews n && !(s.outs[n]).asStep && (s.outs[n]).phi != (s.rdI .OUTn_PHASE n : Rat))

/-- A step of `d` ps that an edge's place reckons with whole: on a RATIO output the whole periods that STEPWRAP takes out, or
EDGEADJ (R114, R119). -/
def State.stepWhole (s : State) (n : Fin 64) (d : Rat) : State :=
  if s.outMode n = 0 then
    let k := (s.outs[n]).cur
    let w := s.wrapStep n d
    let s := if s.bit .OUTn_CFG_STEPWRAP n then s else s.addEdgeAdj n (-w.2)
    s.setOut n { s.outs[n] with cur := { k with shift := k.shift + (w.1 - d) } }
  else s

/-- A calibration correction that has waited is taken at an edge, as a step under R114 (R357). -/
def State.stepCorr (s : State) (n : Fin 64) : State :=
  let o := s.outs[n]
  match o.corrNext with
  | some c => (s.setOut n { o with corr := c, corrNext := none }).stepWhole n (((c - o.corr : Int) : Rat) / 64)
  | none => s

/-- φ_now moved at a rising edge whose nominal interval is `per` ps toward `target`: a step whole, under R114, or a slew's share
(R115). -/
def State.movePhase (s : State) (n : Fin 64) (target : Int × Bool) (per : Rat) : State :=
  let o := s.outs[n]
  let goal : Rat := target.1
  if o.phi = goal then s.setOut n { o with asStep := o.asStep && goal != (s.rdI .OUTn_PHASE n : Rat) }
  else if s.slews n && !target.2 then
    let lim : Rat := (s.rd .OUTn_SLEW n : Rat) * 10 * per / psPerS * 64
    let phi := slewTo o.phi goal lim
    let was := s.phaseGap n
    let s := (s.setOut n { o with phi := phi }).showPhase n
    let s := s.setOut n { s.outs[n] with errFell := o.errFell + max 0 (was - s.phaseGap n) }
    if phi = goal then (s.flag .OUTn_EV_PHASE_DONE n).markSlew n else s
  else
    let s := s.stepWhole n ((goal - o.phi) / 64)
    let s := (s.setOut n { s.outs[n] with phi := goal, asStep := o.asStep && goal != (s.rdI .OUTn_PHASE n : Rat) }).showPhase n
    (s.flag .OUTn_EV_PHASE_DONE n).markSlew n

/-- φ_now moved for an edge at `tau`; a sheaf's change that holds there waits no more. -/
def State.moveFor (s : State) (n : Fin 64) (tau per : Rat) : State :=
  let target := s.phaseTarget n tau
  let o := s.outs[n]
  (s.setOut n { o with phaseFrom := o.phaseFrom.filter (s.phaseHeld n tau) }).movePhase n target per

/-- The steps of the plane's time that wait are taken at an edge of a RATIO output, each under R114 with the period and STEPWRAP that
hold there; setpoint and φ_now stay (R116, R119). -/
def State.takeSteps (s : State) (n : Fin 64) : State :=
  (s.outs[n]).steps.foldl (fun (s : State) d =>
    let w := s.wrapStep n d.1
    let s := if s.bit .OUTn_CFG_STEPWRAP n then s else s.addEdgeAdj n (-w.2)
    let o := s.outs[n]
    s.setOut n { o with
      cur := { o.cur with shift := o.cur.shift + w.1 }
      next := o.next.map (fun x => if x.2 || d.2 then x else ({ x.1 with shift := x.1.shift + w.1 }, false)) })
    (s.setOut n { s.outs[n] with steps := [] })

/-! ## The phase law (R107, R108, R110) -/

/-- The device instant at which a plane's TOD reaches `x` ps, with the words known now (R139). -/
def State.devInstant (s : State) (p : Fin 4) (x : Rat) : Rat :=
  let d := s.tods[p]
  let t := (d.since : Rat) + (x - d.base) / (1 + wordFrac d.word)
  let b : Rat := s.forceAt
  if s.due && decide (b < t) then
    b + (x - s.todAt p b) / (1 + wordFrac s.planes[p].sent)
  else t

/-- A phase carried to instant `t` under the words known now (R107, R108). -/
def State.carry (s : State) (n : Fin 64) (k : Track) (t : Rat) : Track :=
  let o := s.outs[n]
  let b : Rat := s.forceAt
  if s.due && decide (b < t) then (k.upTo b o.word).upTo t (s.nextWord n) else k.upTo t o.word

/-- The instant at which a phase reaches its next edge, before φ_now and D (R107). -/
def State.reachAt (s : State) (n : Fin 64) (k : Track) : Rat :=
  let o := s.outs[n]
  let t := k.edge o.word
  let b : Rat := s.forceAt
  if s.due && decide (b < t) then (k.upTo b o.word).edge (s.nextWord n) else t

/-- Where the next edge of a phase is placed, φ_now and D applied (R107). -/
def State.placeAt (s : State) (n : Fin 64) (k : Track) : Rat := s.reachAt n k + s.outShift n + k.shift

/-- P_min of an edge whose nominal period is `per` (R117, R118). -/
def State.pMin (s : State) (n : Fin 64) (per : Rat) : Rat :=
  let m := (max 512 (s.rd .OUTn_MINPER n) : Rat) / 1024 * per
  if s.outMode n = 0 then
    let v := s.tVco (s.outApll n) * 15 / 2
    if m < v then v else m
  else m

/-- The emission of an edge placed at `tau` (R117). -/
def State.emitAt (s : State) (n : Fin 64) (tau per : Rat) : Rat :=
  match s.outs[n].lastRise with
  | some r => if tau < r + s.pMin n per then r + s.pMin n per else tau
  | none => tau

/-- The next edge falls within the 100 ns in which placements are fixed (R108). -/
def State.fixes (s : State) (t : Rat) : Bool := decide (t ≤ (s.now : Rat) + 100000)

/-- The phase moved for the next edge of a RATIO output (R114 to R116). -/
def State.moved (s : State) (n : Fin 64) : State :=
  let s := (s.takeSteps n).stepCorr n
  let k := (s.outs[n]).cur
  s.moveFor n (s.placeAt n k) k.period

/-- Where the next edge of a RATIO output is emitted, its phase moved (R107, R114, R117). -/
def State.ratioEdge (s : State) (n : Fin 64) : Rat :=
  let s := s.moved n
  let k := (s.outs[n]).cur
  s.emitAt n (s.placeAt n k) k.period

/-- The next instant of a PPS or TIMED output: its place on the output's time, and on the device timescale moved by
φ_now − D (R110). -/
def State.nextInst (s : State) (n : Fin 64) (per : Rat) : Rat × Rat :=
  let o := s.outs[n]
  let m := (o.instFrom / per).ceil * per
  let t := match s.outPlane n with
    | some p => s.devInstant p m
    | none => m + s.tick0
  (m, t + s.outShift n)

/-- The phase moved for the next edge of a PPS or TIMED output (R114, R115). -/
def State.timedMoved (s : State) (n : Fin 64) : State :=
  let s := s.stepCorr n
  let per := s.nomPeriod n
  s.moveFor n (s.nextInst n per).2 per

/-! ## Hops (R120, R121, R124) -/

/-- The instant E of an output's pending hop, once it is known: an immediate hop's, or a FIXED sheaf's. -/
def State.hopInstant (s : State) (h : HopPend) : Option Rat :=
  match h.sheaf with
  | none => some (h.at_ : Rat)
  | some k =>
    match s.sheafs[Fin.ofNat 16 k] with
    | some j => if s.rd .SHk_STAT_STATE k = 2 then some (s.devInstant (Fin.ofNat 4 j.plane) j.e) else none
    | none => none

/-- A phase that reaches its next edge at the same instant with another period. -/
def Track.rescale (k : Track) (per : Rat) : Track := { k with theta := k.k - (k.k - k.theta) * k.period / per, period := per }

/-- The nominal period of a hop's ratio. -/
def State.hopPeriod (s : State) (n : Fin 64) (h : HopPend) : Rat := h.ratio.val * s.tVco (s.outApll n)

/-- The phase from which θ restarts at the aligned edge of a SYNC hop effective at `e` (R121). -/
def State.alignTrack (s : State) (n : Fin 64) (h : HopPend) (e : Rat) : Track := ⟨0, e + 120000, s.hopPeriod n h, 0, 0⟩

/-- The aligned or anchor edge to come: one that is set, or the aligned edge of a pending SYNC hop as soon as E is known; of two the
earlier (R112, R121, R123). -/
def State.aligned (s : State) (n : Fin 64) : Option (Track × Bool) :=
  let o := s.outs[n]
  match o.hop.filter (fun h => h.sync && h.ok && h.moved.isNone) with
  | none => o.next
  | some h =>
    match s.hopInstant h with
    | none => o.next
    | some e =>
      match o.next with
      | none => some (s.alignTrack n h e, false)
      | some x => if s.reachAt n x.1 ≤ e + 120000 then some x else some (s.alignTrack n h e, false)

/-- The PIFD goes over to a hop's ratio, effective at `e` (R121): θ continuous, or an aligned edge at E + 120 ns. An anchor or an
aligned edge that was to come already keeps its instant, with the new period. -/
def State.hopTrack (s : State) (n : Fin 64) (h : HopPend) (e : Rat) : State :=
  let o := s.outs[n]
  let per := s.hopPeriod n h
  let t : OutState := if h.sync then
      { o with next := some (s.alignTrack n h e, false), steps := o.steps.map (fun (d : Rat × Bool) => (d.1, true)) }
    else { o with cur := if o.anchoring then o.cur.rescale per else { s.carry n o.cur e with period := per }
                  next := o.next.map (fun (x : Track × Bool) => (x.1.rescale per, x.2)) }
  s.setOut n { t with hop := some { h with moved := some o.cur } }

/-- The PIFD goes over to a CONT hop where the next edge lies past E by its phase, before φ_now and D (R121, R124, entry 133): once E
is within the 100 ns in which placements are fixed, or, for a prediction (`far`), as soon as E is known. -/
def State.overHop (s : State) (n : Fin 64) (far : Bool) : State :=
  match s.outs[n].hop with
  | some h =>
    match s.hopInstant h with
    | some e =>
      if h.ok && !h.sync && h.moved.isNone && (far || s.fixes e) && decide (e < s.reachAt n s.outs[n].cur) then s.hopTrack n h e
      else s
    | none => s
  | none => s

/-- θ restarts from the aligned or anchor edge, and catch-up is discarded (R112, R121); a phase change that waited for the
aligned edge holds from it on (R412). An edge of a hop that is still pending moves the output over to its ratio. -/
def State.atNext (s : State) (n : Fin 64) (x : Track × Bool) : State :=
  let o := s.outs[n]
  let ahead := o.next != some x
  s.setOut n { o with cur := x.1, next := none, lastRise := none, backlog := 0
                      hop := if ahead then o.hop.map (fun h => { h with moved := some o.cur }) else o.hop
                      steps := if ahead || x.2 then [] else o.steps.filter (fun d => !d.2)
                      phaseFrom := if !x.2 && o.phaseFrom.any (·.hop) then none else o.phaseFrom }

/-- A sheaf's instant E has moved (R124): a member that placed an edge at the new ratio takes its old phase up again from the next
edge on. -/
def State.unhop (s : State) (k : Fin 16) (n : Fin 64) : State :=
  let o := s.outs[n]
  match o.hop with
  | some h =>
    match h.moved with
    | some old =>
      if h.sheaf = some k.val then
        let last := (s.carry n old ((o.lastRise.getD s.now) - s.outShift n - old.shift)).theta.floor + 1
        let kn := if h.sync then max old.k last else o.cur.k
        s.setOut n { o with cur := { old with k := kn, shift := if h.sync then old.shift else o.cur.shift }
                            hop := some { h with moved := none } }
      else s
    | none => s
  | none => s

/-! ## The next edge as predicted (R111) -/

/-- The next rising edge of a running output as it now stands to come, with the slew, step or hop that it will meet. -/
def State.predict (s : State) (n : Fin 64) : Rat :=
  if s.outMode n = 0 then
    let s := s.overHop n true
    let t := s.ratioEdge n
    match s.aligned n with
    | some x =>
      let ta := (s.atNext n x).ratioEdge n
      if ta < t + s.pMin n x.1.period then ta else t
    | none => t
  else ((s.timedMoved n).nextInst n (s.nomPeriod n)).2

/-- The end of a high time that has not ended formed anew: something that moves the next edge has changed (R111). -/
def State.repredict (s : State) (n : Fin 64) : State :=
  match (s.outs[n]).pulses with
  | q :: _ => if s.outOn n && decide ((s.now : Rat) < q.fall) then s.setLastNext n (s.predict n) else s
  | [] => s

/-! ## Steps of a plane's time -/

/-- A RATIO output is to step by `d` ps at its first edge not yet fixed (R116). An edge that is to fall on a whole second of the TOD
follows the stepped TOD. -/
def State.stepOut (s : State) (n : Fin 64) (d : Rat) : State :=
  let o := s.outs[n]
  if o.anchoring then s.setOut n { o with cur := s.anchorTrack n }
  else
    (s.setOut n { o with steps := o.steps ++ [(d, false)]
                         next := o.next.map (fun x => if x.2 then (s.anchorTrack n, true) else x) }).repredict n

/-- An output's calibration correction changes: at once, and at the first edge not yet fixed where the PIFD runs (R357). -/
def State.takeCorr (s : State) (n : Fin 64) (c : Int) : State :=
  let o := s.outs[n]
  if s.outOn n then (s.setOut n { o with corrNext := some c }).repredict n
  else s.setOut n { o with corr := c, corrNext := none }

/-- A step of `d` ps of plane `p`'s time: each running RATIO output of the plane steps by −d (R116); the others follow the stepped
TOD. -/
def State.stepOutputs (s : State) (p : Fin 4) (d : Rat) : State :=
  s.forAll 64 (fun s n =>
    if s.outPlane n == some p && s.outOn n then (if s.outMode n == 0 then s.stepOut n (-d) else s.repredict n) else s)

/-- 2 µs in ps. -/
def twoUs : Nat := 2000000

/-- A phase change that a sheaf has committed and that no edge has taken is taken back (R124, entry 123). -/
def State.unphase (s : State) (n : Fin 64) : State :=
  match (s.outs[n]).phaseFrom with
  | some w =>
    let s := s.wrI .OUTn_PHASE n w.old
    (s.setOut n { s.outs[n] with asStep := w.oldStep, phaseFrom := none }).markSlew n
  | none => s

/-- A sheaf's instant E moves: its members' phase changes that no edge has taken are taken back, and edges at the new ratio end
(R124). Answers the members whose change stands. -/
def State.unplace (s : State) (k : Fin 16) (phased : List Nat) : State × List Nat :=
  let stays := phased.filter (fun n => (s.outs[Fin.ofNat 64 n]).phaseFrom.isNone)
  let s := phased.foldl (fun s n => s.unphase (Fin.ofNat 64 n)) s
  (s.forAll 64 (fun s n => s.unhop k n), stays)

/-- Pending sheaf commands of plane `p` meet a step of its TOD (R124). -/
def State.stepSheafs (s : State) (p : Fin 4) : State :=
  s.forAll 16 (fun s k =>
    match s.sheafs[k] with
    | some j =>
      if j.plane = p.val && !j.effective then
        let now := s.tod p s.now
        let u := s.unplace k j.phased
        let s := u.1
        let j := { j with placed := false, phased := u.2 }
        if j.at_ < now + (twoUs : Nat) then
          s.setSheaf k (some { j with e := now + (twoUs : Nat), slipped := true })
        else (s.setSheaf k (some { j with e := j.at_, slipped := false })).wr .SHk_STAT_STATE k 1
      else s
    | none => s)

/-- A step of plane `p`'s time and TOD by `d` ps (R55, R116, R124, R143, R144). -/
def State.stepTod (s : State) (p : Fin 4) (d : Rat) : State :=
  let t := s.tods[p]
  let old := s.tod p s.now
  let new := old + d
  let sec (x : Rat) : Nat := (x / psPerS).floor.toNat
  let low := if d < 0 then sec new else t.lastSec
  let cmd := t.cmd.map (fun x => (x.1, x.2.1, min x.2.2 (sec new)))
  let s := s.setTod p { t.turn s.now new t.word with lastSec := low, secDone := sec new, cmd := cmd, steps := t.steps + 1 }
  let s := s.flag .TODp_EV_STEPPED p
  let s := if sec old < sec new then (s.flag .TODp_EV_SEC p).pulse (24 + p) else s
  let s := s.log (0x5C + p) (s.regVal .TODp_EV p)
  let s := s.forAll 64 (fun s n => if s.outPlane n == some p then
    s.setOut n { s.outs[n] with instFrom := if d < 0 then new else max s.outs[n].instFrom new } else s)
  (s.stepOutputs p d).stepSheafs p

end Sys2Proof.Machine
end

