-- ==== Sys2Proof/Machine/Trim.lean ====
section
/-!
DEFINITION. The DTC trim tables (R96, R97, R357): what fills them, interpolation over Tj and the slewed corrections.
-/
namespace Sys2Proof.Machine

/-- The lower bin in use at a junction temperature in units of 0.25 °C, and how far Tj lies toward the next bin's centre
(R96). -/
def trimBin (tj : Int) : Nat × Rat :=
  if tj < -140 then (0, 0)
  else if 460 ≤ tj then (15, 0)
  else
    let d := (tj + 140).toNat
    (d / 40, ((d % 40 : Nat) : Rat) / 40)

/-- A table entry in force between two bins. -/
def interp (lo hi : Int) (f : Rat) : Rat := (lo : Rat) + ((hi : Rat) - (lo : Rat)) * f

/-- The interpolated gain of an APLL at its Tj, in 2⁻¹⁶ of full scale. -/
def State.gainTarget (s : State) (x : Fin 2) : Rat :=
  let b := trimBin (s.rdI .APLLx_TEMP x)
  interp (s.rdI .APLLx_GAIN (16 * x + b.1)) (s.rdI .APLLx_GAIN (16 * x + min 15 (b.1 + 1))) b.2

/-- The interpolated correction of tap `j`, in 1/64 ps. -/
def State.tapTarget (s : State) (x : Fin 2) (j : Nat) : Rat :=
  let b := trimBin (s.rdI .APLLx_TEMP x)
  interp (s.rdI .APLLx_TAP (256 * x + 16 * b.1 + j)) (s.rdI .APLLx_TAP (256 * x + 16 * min 15 (b.1 + 1) + j)) b.2

/-- 1/64 ps as a gain: full scale is one tap spacing, a sixteenth of the VCO period; 0 where the configuration gives no VCO period
(entry 136). -/
def State.gainStep (s : State) (x : Fin 2) : Rat :=
  let t := s.tVco x
  if t = 0 then 0 else 16384 / t

/-- An applied correction of the APLL still moves toward its interpolated value. -/
def State.trimMoves (s : State) (x : Fin 2) : Bool :=
  s.aplls[x].gain != s.gainTarget x || (List.finRange 16).any (fun (j : Fin 16) => s.aplls[x].taps[j] != s.tapTarget x j)

/-- The applied corrections moved by one millisecond's step (R96); FREEZE holds them (R97). -/
def State.slewTrims (s : State) (x : Fin 2) : State :=
  let s := s.wr .APLLx_TRIM_CTRL_BIN x (trimBin (s.rdI .APLLx_TEMP x)).1
  if s.bit .APLLx_TRIM_CTRL_FREEZE x then s
  else
    let a := s.aplls[x]
    s.setApll x { a with gain := slewTo a.gain (s.gainTarget x) (s.gainStep x)
                         taps := Vector.ofFn (fun j : Fin 16 => slewTo a.taps[j] (s.tapTarget x j) 1) }

/-- Silicon gain and tap of an APLL's bin: its OTP trim, or nominal with zero correction where the trim check failed (R96,
R364). -/
def State.otpGain (s : State) (x b : Nat) : Int := if s.boot.otpBad then 0 else toSigned 12 (Config.trimGain x b)
def State.otpTap (s : State) (x b j : Nat) : Int := if s.boot.otpBad then 0 else toSigned 16 (Config.trimTap x b j)

/-- A sum of trim and delta within a table entry's width. -/
def trimSum (w : Nat) (x : Int) : Nat :=
  if -(2 ^ (w - 1)) ≤ x ∧ x < 2 ^ (w - 1) then ofSigned w x else Config.trimOverflow x

/-- The DTC table of an APLL takes silicon trim plus deltas: GAIN, then the taps (R357); SRC tells which it is. -/
def State.loadTable (s : State) (x : Fin 2) (d : List Int) (image : Bool) : State :=
  let s := s.forAll 16 (fun s b =>
    let s := s.wr .APLLx_GAIN (16 * x + b) (trimSum 12 (s.otpGain x b + d.getD 0 0))
    s.forAll 16 (fun s j => s.wr .APLLx_TAP (256 * x + 16 * b + j) (trimSum 16 (s.otpTap x b j + d.getD (j + 1) 0))))
  s.wrB .APLLx_TRIM_CTRL_SRC x image

/-- Both tables at their silicon trims. -/
def State.loadSilicon (s : State) : State := s.forAll 2 (fun s x => s.loadTable x [] false)

end Sys2Proof.Machine
end

