-- ==== Sys2Proof/Machine/CalCore.lean ====
section
/-!
DEFINITION. The end of a calibration run (R350, R352) and the changes of CAL_STATE that other blocks cause (R357, R358).
-/
namespace Sys2Proof.Machine

def State.setCal (s : State) (x : CalData) : State := { s with cal := x }

/-- The number of elements that wait (R357). -/
def State.calWaiting (s : State) : Nat := s.cal.waiting.length

/-- Every applied DTC correction has reached its interpolated value (R357); `slewing` says of each APLL whether it moves. -/
def State.calSettle (s : State) (slewing : Bool) : State :=
  if s.rd .CAL_STATE_APPLY = 1 && s.cal.waiting.isEmpty then
    if s.cal.reverting then
      (({ s with cal := { s.cal with reverting := false } } : State).wr .CAL_STATE_APPLY 0 0).raise 41
    else if slewing then s
    else (s.wr .CAL_STATE_APPLY 0 2).flag .CAL_EV_APPLIED 0
  else s

/-- The change of calibration state that waiting elements or a DTC slew held back (R357). -/
def State.calCheck (s : State) : State := s.calSettle (s.trimMoves 0 || s.trimMoves 1)

/-- An output's correction in 1/64 ps; 0 at its silicon trim. -/
def CalValue.corr : CalValue → Int
  | .out c => c
  | _ => 0

/-- An element takes its new value: an output's is handed to its PIFD (R357). -/
def State.calTakeElem (s : State) (e : Nat × CalValue) : State :=
  let s := { s with cal := { s.cal with inForce := Store.set s.cal.inForce e.1 e.2 .trim } }
  if 25 ≤ e.1 then s.takeCorr (Fin.ofNat 64 (e.1 - 25)) e.2.corr else s

/-- Elements that reach their boundary take their new values (R357); while a run is in progress none does (R350). -/
def State.calTakeElems (s : State) (at_ : Nat → Bool) : State :=
  if s.bit .CAL_STATE_RUN then s
  else
    let hit := s.cal.waiting.filter (fun e => at_ e.1)
    let rest := s.cal.waiting.filter (fun e => !at_ e.1)
    hit.foldl State.calTakeElem { s with cal := { s.cal with waiting := rest } }

/-- The gate of a bank TDC starts, or there is none while it is disabled; its waiting element is taken (R132, R357). -/
def State.startGate (s : State) (b : Fin 8) : State :=
  let on := s.bit .OBb_BTSEL_EN b && !s.bit .CAL_STATE_RUN
  (s.setBank b { s.banks[b] with gateFrom := if on then some s.now else none }).calTakeElems (fun i => i == 17 + b && on)

/-- What a bank TDC's gate measures as its mean, `mean` being that of its silicon trim, in 1/64 ps (R132, R350, R357). -/
def State.bankMean (s : State) (b : Fin 8) (mean : Int) : Int :=
  match s.calElem (17 + b) with
  | .tdc edges offset => Config.tableMean (17 + b) edges mean - offset
  | _ => mean

/-- The spine and the bank TDCs are released; the hold-off of R31 starts at the inputs (R350, R132). -/
def State.calReleaseAll (s : State) : State := (s.forAll 16 State.calRelease).forAll 8 State.startGate

/-- Once no run is in progress, the DTC tables of a REVERT written during one take their silicon trims (R350, R358). -/
def State.calTables (s : State) : State :=
  if s.cal.tables && !s.bit .CAL_STATE_RUN then (s.setCal { s.cal with tables := false }).loadSilicon else s

/-- The element of an output that is not RUNNING is taken at once (R357). -/
def State.calOutput (s : State) (n : Fin 64) : State := (s.calTakeElems (fun i => i == 25 + n)).calCheck

/-- A run is over: the spine, the inputs and the bank TDCs are released, DONE is set, and what waited for the end of the run is taken
(R350, R357). -/
def State.calOver (s : State) : State :=
  let s := ((s.wr .CAL_STATE_RUN 0 0).wr .CAL_STATE_PHASE 0 0).calReleaseAll
  ((s.flag .CAL_EV_DONE 0).calTables.calTakeElems (fun i => 25 ≤ i && s.run (i - 25) != 2)).calCheck

/-- A run ends without a result (R352). -/
def State.calEnd (s : State) (err : Nat) : State := ((s.wr .CAL_STATE_ERR 0 err).wr .CAL_STATE_READY 0 0).calOver

/-- A run that is in progress is aborted (R352). -/
def State.calAbort (s : State) : State := if s.bit .CAL_STATE_RUN then s.calEnd 2 else s

end Sys2Proof.Machine
end

