-- ==== Sys2Proof/Machine/LinkCore.lean ====
section
/-!
DEFINITION. A link's result at the tick (R220, R226, R234): the mean of θ, LZn_MEAS, the link term.
-/
namespace Sys2Proof.Machine

/-- The link term (R226). -/
def State.linkTerm (s : State) (n : Fin 4) : Bound :=
  let l := s.links[n]
  match l.peer with
  | none => .unbounded
  | some p =>
    let unc := s.rd .LZn_ASYM_UNC n
    let asym : Bound :=
      if unc = 0xFFFFFFFF then
        (match l.mean with
          | some m => Bound.ofRat (m / 2)
          | none => .unbounded)
      else .of ((unc + 1) / 2)
    let age : Rat := (((s.now - l.sampleAt) / 1000000000 : Nat) : Rat) / 10
    (Bound.ofReg p.teb.toNat).add (asym.add ((Bound.ps 6).add (Bound.ofRat age)))

/-- LZn_LINKTERM formed anew. -/
def State.showLinkTerm (s : State) (n : Fin 4) : State := s.wr .LZn_LINKTERM n (s.linkTerm n).word

/-- What LZn_MEAS now returns (R27). -/
def State.lzResult (s : State) (n : Fin 4) : Result :=
  ⟨s.rd .LZn_MEAS_SEQ n, s.bit .LZn_MEAS_VALID n, s.links[n].sampleAt, s.links[n].offset, 0, 0⟩

/-- The link's sample of the tick (R220): the mean of θ over the frames received since the last one; none while STATE is
CAL. -/
def State.linkTick (s : State) (n : Fin 4) : State :=
  let l := s.links[n]
  let s :=
    if l.fresh.isEmpty || s.rd .LZn_STAT_STATE n == 5 then s
    else
      let m := meanRat (l.fresh.map (·.2))
      let s := s.setLink n { l with before := s.lzResult n, offset := BitVec.ofInt 64 (roundNearest 40 (m * 64)), measTick := s.tick, sampleAt := s.now }
      ((s.wr .LZn_MEAS_SEQ n (s.rd .LZn_MEAS_SEQ n + 1)).wr .LZn_MEAS_VALID n 1)
  s.showLinkTerm n

end Sys2Proof.Machine
end

