-- ==== Sys2Proof/Machine/Planes.lean ====
section
/-!
DEFINITION. The timing planes: the loop (R44 to R48), the state machine (R52 to R55, R409), steering (R56, R57), holdover (R58
to R61), the terms of the bound (R62, R63, R154 to R158), the shadow loop (R64, R65), swap and recall (R68 to R72), and the
plane tick.
-/
namespace Sys2Proof.Machine

/-! ## Phase (R44, R45, R22) -/

/-- PBO in ps. -/
def State.pboPs (s : State) (p : Nat) : Rat := (s.rdI .PLn_PBO p : Rat) / 64

/-- `x` reduced by whole periods to the nearest zero (R22); the tie's side is free. -/
def wrapTo (per x : Rat) : Rat := if per = 0 then x else x - (roundNearest 6 (x / per) : Rat) * per

/-- phi_ref − phi_pl − pbo of one sample, in ps (R45): positive when the reference is ahead of the plane's time. A step of the
plane's time since the sample counts as made before it, as PBO does (R142). -/
def State.sampleErr (s : State) (p : Fin 4) (c : Nat) (x : Sample) : Rat :=
  match x.offset with
  | some (off, q) =>
    let d := if q = p.val then 0 else s.todAt (Fin.ofNat 4 q) x.time - s.todAt p x.time
    (off : Rat) + d - s.tods[p].stepsSince x.time - s.pboPs p
  | none => -(wrapTo (s.srcPeriod c) (s.todAt p x.time + s.tods[p].stepsSince x.time + s.pboPs p))

/-- The fresh samples' mean error of source `c` for plane `p`; none without a fresh sample (R44, R220). Samples of the
LENUZ type are the means θ of the frames received: phi_ref − phi_pl = −θ. -/
def State.freshErr (s : State) (p : Fin 4) (c : Nat) : Option Rat :=
  if c < 16 then
    match s.inputs[Fin.ofNat 16 c].fresh with
    | [] => none
    | l => some (meanRat (l.map (s.sampleErr p c)))
  else if c < 20 then
    match s.links[Fin.ofNat 4 (c - 16)].fresh with
    | [] => none
    | l => if s.rd .LZn_STAT_STATE (c - 16) = 5 then none else
      some (-(meanRat (l.map (fun x => x.2 + s.tods[p].stepsSince x.1))) - s.pboPs p)
  else if c = 20 then
    match s.xo.fresh with
    | [] => none
    | l => some (meanRat (l.map (s.sampleErr p c)))
  else none

/-! ## States (R52, R53) -/

/-- A plane changes state (a swap or a switch that leaves STATE as it is enters no state: entry 130): STATE_CHG, its line and log entry; LOCK_LOST on LOCKED to ACQUIRE; the hold fault source on
entry to HOLDOVER or FREERUN from ACQUIRE or LOCKED, unless the holdover is forced and the plane is enabled, EN = 0 being the
reason that comes first (R54, R299, R313). -/
def State.setPlState (s : State) (p : Fin 4) (st : Nat) : State :=
  let old := s.rd .PLn_STATE_STATE p
  if old = st then s
  else
    let forced := s.forced p
    let pl := s.planes[p]
    let s := s.setPlane p { pl with cEntry := pl.c, lockFrom := none, unlockRun := 0, floorD := none,
                                    everLocked := pl.everLocked || st == 2 }
    let s := (s.wr .PLn_STATE_STATE p st).flag .PLn_EV_STATE_CHG p
    let s := if old = 2 && st = 1 then s.flag .PLn_EV_LOCK_LOST p else s
    let s := (s.pulse (16 + p)).log (0x50 + p) (s.regVal .PLn_EV p)
    let s := if st = 2 then
        s.forAll 64 (fun s n => if s.outPlane n == some p then s.wr .OUTn_STAT_EARLY n 0 else s)
      else s
    if (st = 0 || st = 3) && (old = 1 || old = 2) && (forced = 0 || !s.bit .PLn_CTRL_EN p) then s.raise (42 + p) { inst := p } else s

/-! ## The correction word (R45, R48, R59, R81) -/

/-- The limits of R48 on a word: FMAX, then PSLOPE about the word at entry, each the largest whole number of units of 2⁻⁴⁸ within its
limit (entry 129). Answers the word and which limits act. -/
def State.limitWord (s : State) (p : Fin 4) (c : Int) : Int × Bool × Bool :=
  let fm : Int := ((s.rd .PLn_FMAX p : Rat) / 100000000 * (2 ^ 48 : Nat)).floor
  let c1 := clampInt (-fm) fm c
  let ps := s.rd .PLn_SLOPE p
  let sl : Int := ((ps : Rat) / 100000000000 * (2 ^ 48 : Nat)).floor
  let e := s.planes[p].cEntry
  let c2 := if ps = 0 then c1 else clampInt (e - sl) (e + sl) c1
  (c2, c1 != c, c2 != c1)

/-- A limit flag set to `b`; its rise sets PLn_EV.LIMIT (R74). -/
def State.limitFlag (s : State) (f : Field) (p : Nat) (b : Bool) : State :=
  let rises := b && !s.bit f p
  let s := s.wrB f p b
  if rises then s.flag .PLn_EV_LIMIT p else s

/-- A word put through the limits, their flags set, and made the plane's word. -/
def State.putWord (s : State) (p : Fin 4) (c : Int) : State × Bool :=
  let l := s.limitWord p c
  let s := (s.limitFlag .PLn_STATE_FMAX_HIT p l.2.1).limitFlag .PLn_STATE_SLOPE_HIT p l.2.2
  (s.setPlane p { s.planes[p] with c := l.1 }, l.2.1 || l.2.2)

/-- A phase in ps in the units of 1/64 ps of PLn_UPD; beyond 64 bits its bits are free (R74). -/
def updUnits (x : Rat) : Int := toSigned 64 (fitSigned 15 64 (roundNearest 8 (x * 64)))

/-- An update recorded: the error and the shadow offset that PLn_UPD latches, SEQ and VALID, the event line 28 + p, and a trace
entry where EVR_CTRL.TRACE asks for it (R74, R171, R313). `c0` is the word before the update. -/
def State.noteUpdate (s : State) (p : Fin 4) (c0 : Int) (e : Rat) : State :=
  let pl := s.planes[p]
  let b : Result := ⟨s.rd .PLn_UPD_SEQ p, s.bit .PLn_UPD_VALID p, pl.lastUpd, BitVec.ofInt 64 c0, BitVec.ofInt 64 pl.updErr,
    BitVec.ofInt 64 pl.updOffset⟩
  let s := s.setPlane p { pl with errs := (e :: pl.errs).take 64, lastUpd := s.now, updErr := updUnits e
                                  updOffset := updUnits pl.shadow.offset, before := b }
  let s := (s.wr .PLn_UPD_SEQ p (s.rd .PLn_UPD_SEQ p + 1)).wr .PLn_UPD_VALID p 1
  let s := s.pulse (28 + p)
  if s.bitOf .EVR_CTRL_TRACE 0 p then
    let c64 := ofSigned 64 s.planes[p].c
    s.post { cls := .trace, src := 0x100 + p, data0 := ofSigned 32 s.planes[p].updErr, data1 := c64 % 2 ^ 32
             data2 := c64 / 2 ^ 32 }
  else s

/-- One loop update with error `e` in ps from source `c` (R45 to R48, R51), at the tick's instant. -/
def State.loopUpdate (s : State) (p : Fin 4) (c : Nat) (e : Rat) : State :=
  let tu := s.updPeriod c / psPerS
  let bw := s.clampBw c (s.rd .PLn_BW p)
  let s := s.limitFlag .PLn_STATE_BW_CLAMP p bw.2
  let k := loopCoeffs bw.1 (s.rd .PLn_LOOP_DAMP p) (s.rd .PLn_LOOP_M p) tu
  let pl := s.planes[p]
  let c0 := pl.c
  let es := e / psPerS
  let i := pl.i + k.2.1 * es
  let v := i + k.1 * es
  let w := pl.w + k.2.2 * (v - pl.w)
  let r := s.putWord p (roundNearest 7 (w * (2 ^ 48 : Nat)))
  let s := r.1
  let pl := s.planes[p]
  let pl := if r.2 then { pl with w := wordFrac pl.c } else { pl with i := i, w := w }
  (s.setPlane p pl).noteUpdate p c0 e

/-- Lock and unlock after an update with error `e` (R53). A tick takes one transition: where it has taken another, `free` is false
and the update only counts (R54, entry 130). -/
def State.lockTest (s : State) (p : Fin 4) (e : Rat) (free : Bool) : State :=
  let pl := s.planes[p]
  let a := ratAbs e
  match s.rd .PLn_STATE_STATE p with
  | 1 =>
    if a < (s.rd .PLn_LOCK_LTHR p * 10 : Nat) then
      let f := pl.lockFrom.getD s.now
      if free && f + s.rd .PLn_LOCK_LTIME p * 10000000000 ≤ s.now then s.setPlState p 2
      else s.setPlane p { pl with lockFrom := some f }
    else s.setPlane p { pl with lockFrom := none }
  | 2 =>
    if ((s.rd .PLn_UNLOCK_UTHR p * 10 : Nat) : Rat) < a then
      if free && max 1 (s.rd .PLn_UNLOCK_UCNT p) ≤ pl.unlockRun + 1 then s.setPlState p 1
      else s.setPlane p { pl with unlockRun := pl.unlockRun + 1 }
    else s.setPlane p { pl with unlockRun := 0 }
  | _ => s

/-- A step in ps as a source of plane time takes it (R142): whole for PTP_SW and LENUZ, otherwise reduced by whole periods. -/
def State.stepFor (s : State) (c : Nat) (d : Rat) : Rat :=
  match s.srcType c with
  | .ptpSw | .lenuz => d
  | _ => wrapTo (s.srcPeriod c) d

/-- The shadow offset where φ_pl + PBO has moved by `d` ps at once: O_s, the estimate of φ_cand − φ_pl − PBO, moves with it,
reduced against the candidate's period, and READY is kept (R65, R142). -/
def State.shiftShadow (s : State) (p : Fin 4) (d : Rat) : State :=
  let pl := s.planes[p]
  if pl.shadow.seeded then
    s.setPlane p { pl with shadow := { pl.shadow with offset := pl.shadow.offset - s.stepFor (s.rd .PLn_SHADOW_STAT_SRC p) d } }
  else s

/-- PBO set to the bits `v`: the shadow offset moves the other way (R65). -/
def State.setPbo (s : State) (p : Fin 4) (v : Nat) : State :=
  let t := s.wr .PLn_PBO p v
  t.shiftShadow p (t.pboPs p - s.pboPs p)

/-- PBO moved by `d` ps, in units of 1/64 ps; beyond its range its bits are free (R55, R68, entry 94). -/
def State.addPbo (s : State) (p : Fin 4) (d : Rat) : State :=
  s.setPbo p (fitSigned 6 48 (s.rdI .PLn_PBO p + roundNearest 9 (d * 64)))

/-- The initial error of an acquisition removed as R55 says; answers the error that is left for the update. -/
def State.acquireFirst (s : State) (p : Fin 4) (e : Rat) : State × Rat :=
  match s.planes[p].acq with
  | none => (s, e)
  | some a =>
    let s := s.setPlane p { s.planes[p] with acq := none }
    if a = 0 then ((s.stepTod p e).shiftShadow p e, 0)
    else if a = 1 then
      let b := s.pboPs p
      let s := s.addPbo p e
      (s, e - (s.pboPs p - b))
    else (s, e)

/-- PBO is bled toward 0 (R72). -/
def State.bleed (s : State) (p : Fin 4) : State :=
  let pbo := s.rdI .PLn_PBO p
  if s.bit .PLn_CTRL_BLEED p && (s.srcType (srcCode (s.rd .PLn_REFSEL_SRC p))).isTime && pbo ≠ 0 then
    let ps := s.rd .PLn_SLOPE p
    let rate : Rat := if ps = 0 then 1000 else (ps : Rat) * 10        -- ps per s
    let pl := s.planes[p]
    let m := pl.bleed + rate * tickPs / psPerS * 64
    let k := m.floor
    let new := if pbo < 0 then min 0 (pbo + k) else max 0 (pbo - k)
    let s := (s.setPlane p { pl with bleed := m - (k : Rat) }).setPbo p (ofSigned 48 new)
    if new = 0 then s.wr .PLn_RSUM p 0 else s
  else s

/-! ## Holdover (R59, R61, R81) -/

/-- The word of HOLDOVER at this tick, with the rounding remainder carried (R59, R81). -/
def State.holdWord (s : State) (p : Fin 4) : State :=
  let pl := s.planes[p]
  let x := pl.growth.cHist - (s.xo.y - pl.growth.yEntry) * (2 ^ 48 : Nat) + pl.carry
  let c := roundNearest 10 x
  (((s.setPlane p { pl with carry := x - (c : Rat) }).putWord p c).1)

/-- The class of d in force: the register R61 selects. -/
def State.growthD (s : State) (p : Nat) : Nat :=
  if s.assist then (if s.modelOld then s.rd .PLn_HOD_DEGR p else s.rd .PLn_HOD_ASSIST p) else s.rd .PLn_HOD_XO p

/-- One second of a growth term with the value `d` of the register in force (R61). -/
def Growth.second (g : Growth) (d : Nat) : Growth :=
  if !g.run then g
  else if d = 0xFFFFFFFF then { g with unb := true }
  else
    let r := g.r + (d : Rat) / 1000000
    { g with r := r, h := g.h + r }

/-- One second of the plane's growth term; a snapshot's continues through the window (R61, R70). -/
def State.growthSecond (s : State) (p : Fin 4) : State :=
  let pl := s.planes[p]
  let d := s.growthD p
  s.setPlane p { pl with growth := pl.growth.second d
                         snap := pl.snap.map (fun x => { x with growth := x.growth.second d }) }

/-- H as it will stand at the end of the current second (R61, R155). -/
def State.growTerm (s : State) (p : Fin 4) : Bound :=
  let g := s.planes[p].growth
  let d := s.growthD p
  if g.unb || d = 0xFFFFFFFF then .unbounded else Bound.ofRat (g.h + (g.r + (d : Rat) / 1000000))

/-! ## Following a source (R63) -/

/-- Reference and path term of source `c` at the instant `t` (R23, R26, R63, R154, R155). -/
def State.refTermsAt (s : State) (p : Fin 4) (c t : Nat) : Bound × Bound :=
  if (s.srcType c).isTime then
    if c < 16 then (s.declaredBound c, s.pathTerm c) else (Bound.ofReg (s.rd .LZn_LINKTERM (c - 16)), .ps 0)
  else
    match s.planes[p].anchor with
    | none => (.unbounded, .ps 0)
    | some a =>
      let w : Rat := if c = 20 then 1 / 1000 else (s.rd .INn_WANDER c : Rat) / 1000
      let tau : Rat := ((t + tickPs - a.since : Nat) : Rat) / psPerS
      (a.ref.add (Bound.ofRat (w * tau)), a.inp)

/-- Reference and path term of source `c` at this tick. -/
def State.refTerms (s : State) (p : Fin 4) (c : Nat) : Bound × Bound := s.refTermsAt p c s.now

/-- The plane begins to follow source `c`: its anchor (R63), the terms it starts from and the reference it traces (R148). -/
def State.beginFollow (s : State) (p : Fin 4) (c : Nat) : State :=
  let time := (s.srcType c).isTime
  let pl := s.planes[p]
  let a : Option Anchor := if time then none else pl.timeRef.map (fun r => ⟨r.1, r.2.1, r.2.2, s.now⟩)
  let s := (s.setPlane p { pl with anchor := a, lossAt := none, lastTime := time }).stopGrowth p
  let r := s.refTerms p c
  let pl := s.planes[p]
  (s.setPlane p { pl with frozen := { pl.frozen with ref := r.1, inp := r.2 }
                          traced := if time then c else (match a with
                            | some x => x.src
                            | none => 31) }).wrB .PLn_STATE_ANCHORED p a.isSome

/-- The loop residual |mean e| + 3σ over the last 64 updates (R62); 0 before the first update of all (entry 131). -/
def State.loopTerm (s : State) (p : Fin 4) : Bound :=
  let es := s.planes[p].errs
  if es.isEmpty then .ps 0 else Bound.ofRat (ratAbs (meanRat es) + 3 * spreadOf 31 es)

/-- The switch residual (R62). -/
def State.switchTerm (s : State) (p : Nat) (time : Bool) : Bound :=
  Bound.of (s.rd .PLn_RSUM p + (if time then (ratAbs (s.pboPs p)).ceil.toNat else 0))

/-- The calibration term (R154, R358, R364). -/
def State.calTerm (s : State) : Bound :=
  if s.rd .DEV_STATE_ERR = 4 then .unbounded else if s.rd .CAL_STATE_APPLY = 2 then .ps 8 else .ps 60

/-- The terms at the entry to HOLDOVER from ACQUIRE or LOCKED, taken at the instant `t` (R62, R154). A TIME-class source that is no
longer qualified supplies no term (R26): its last one stands. -/
def State.freezeEntry (s : State) (p : Fin 4) (t : Nat) : State :=
  let st := s.rd .PLn_STATE_STATE p
  if st = 1 || st = 2 then
    let c := srcCode (s.rd .PLn_REFSEL_SRC p)
    let pl := s.planes[p]
    let r := if (s.srcType c).isTime && !s.srcHolds p c then (pl.frozen.ref, pl.frozen.inp) else s.refTermsAt p c t
    s.setPlane p { pl with frozen := { pl.frozen with ref := r.1, inp := r.2, loop := s.loopTerm p } }
  else s

/-- HOLDOVER entered, its growth and its terms formed. -/
def State.startHoldover (s : State) (p : Fin 4) : State := (s.setPlane p { s.planes[p] with carry := 0 }).setPlState p 3

/-- Entry to HOLDOVER with reference instant `ref`; where a commit for the loss had been pending, H and its entry continue
(R409). -/
def State.enterHoldover (s : State) (p : Fin 4) (ref : Nat) : State :=
  let g := s.planes[p].growth
  if g.run && g.loss then (s.freezeEntry p g.entry).startHoldover p
  else ((s.freezeEntry p s.now).enterGrowth p ref).startHoldover p

/-- A commit issued for the loss of the active source is pending (R409). -/
def State.lossPending (s : State) (p : Fin 4) : Bool :=
  match s.planes[p].region with
  | some r => r.forLoss && s.rd .PLn_COMMIT_RESULT p == 2
  | none => false

/-- The seven terms of a plane at this tick (R62, R154, R409). -/
def State.planeTerms (s : State) (p : Fin 4) : Terms :=
  let pl := s.planes[p]
  let cal := s.calTerm
  let outp := s.outPathTerm p
  match s.rd .PLn_STATE_STATE p with
  | 0 => { Terms.none with cal := cal, outp := outp }
  | 3 => { ref := pl.frozen.ref, inp := pl.frozen.inp, loop := pl.frozen.loop, sw := s.switchTerm p pl.lastTime
           grow := s.growTerm p, cal := cal, outp := outp }
  | 4 => { ref := match pl.steerBound with
             | some b => Bound.ofReg b
             | none => .unbounded
           inp := .ps 0, loop := .ps 0, sw := .ps 0
           grow := if pl.growth.run then s.growTerm p else .ps 0
           cal := cal, outp := outp }
  | _ =>
    if s.lossPending p then
      { ref := if s.bit .PLn_STATE_HIST_VALID p then pl.frozen.ref else .unbounded
        inp := pl.frozen.inp, loop := pl.frozen.loop, sw := s.switchTerm p pl.lastTime
        grow := s.growTerm p, cal := cal, outp := outp }
    else
      let c := srcCode (s.rd .PLn_REFSEL_SRC p)
      let r := s.refTerms p c
      { ref := r.1, inp := r.2, loop := s.loopTerm p, sw := s.switchTerm p (s.srcType c).isTime
        grow := .ps 0, cal := cal, outp := outp }

/-- AGE of the provenance record: seconds to 32 767, then whole minutes with bit 15 of the field set (R148). -/
def ageField (sec : Nat) : Nat := if sec < 32768 then sec else min 0xFFFF (0x8000 + sec / 60)

/-- The provenance record of a plane (R148). -/
def State.provenance (s : State) (p : Fin 4) : Nat :=
  let pl := s.planes[p]
  let st := s.rd .PLn_STATE_STATE p
  let c := srcCode (s.rd .PLn_REFSEL_SRC p)
  let follows := st = 1 || st = 2
  let freq := follows && !(s.srcType c).isTime
  let anch := freq && pl.anchor.isSome
  let src := if follows then (if freq then (match pl.anchor with
      | some a => a.src
      | none => 31) else c) else if st = 3 then pl.traced else 31
  let age := if st = 3 || st = 4 then s.rd .PLn_HO_AGE p
    else if anch then (match pl.anchor with
      | some a => (s.now - a.since) / psPerS
      | none => 0) else 0
  src + st * 2 ^ 5 + p.val * 2 ^ 8 + anch.toNat * 2 ^ 10 + s.assist.toNat * 2 ^ 11 + s.modelOld.toNat * 2 ^ 12
    + (if s.rd .CAL_STATE_APPLY = 2 then 2 ^ 13 else 0) + s.rd .XO_MON_LOST * 2 ^ 14 + ageField age * 2 ^ 16

/-- The declarations of d (R61). -/
def State.declaredD (s : State) (p : Nat) : Nat × Nat × Nat := (s.rd .PLn_HOD_ASSIST p, s.rd .PLn_HOD_DEGR p, s.rd .PLn_HOD_XO p)

/-- The terms of this tick. In HOLDOVER and STEERED the switch residual does not fall between two changes of state, and the growth
falls only at a STEER commit or a write of a declaration (R157). -/
def State.tickTerms (s : State) (p : Fin 4) : Terms :=
  let t := s.planeTerms p
  let pl := s.planes[p]
  let st := s.rd .PLn_STATE_STATE p
  match pl.floorD with
  | some d =>
    if st = 3 || st = 4 then
      { t with sw := pl.terms.sw.max t.sw, grow := if d = s.declaredD p then pl.terms.grow.max t.grow else t.grow }
    else t
  | none => t

/-- The bound of a plane shown, with what its passing of TEBp_LIMIT and its becoming unbounded raise (R158, FSRC46 to 49). -/
def State.showTotal (s : State) (p : Fin 4) (total : Nat) : State :=
  let old := s.rd .TEBp_TOTAL p
  let s := s.wr .TEBp_TOTAL p total
  let lim := s.rd .TEBp_LIMIT p
  let s := if lim ≠ 0 && old ≤ lim && lim < total then
      let s := s.flag .TEBp_EV_OVER p
      s.post { cls := .alarm, src := 0x58 + p, data0 := s.regVal .TEBp_EV p }
    else s
  let s := if lim ≠ 0 && 15 * lim < 16 * old && 16 * total ≤ 15 * lim then
      let s := s.flag .TEBp_EV_UNDER p
      s.post { cls := .alarm, src := 0x58 + p, data0 := s.regVal .TEBp_EV p }
    else s
  if old ≠ 0xFFFFFFFF && total = 0xFFFFFFFF && s.bit .PLn_CTRL_EN p then s.raise (46 + p) { inst := p } else s

/-- The error accounting of one plane at the tick (R154, R156, R325). -/
def State.account (s : State) (p : Fin 4) : State :=
  let t := s.tickTerms p
  let s := s.noteOutErrs p
  let st := s.rd .PLn_STATE_STATE p
  let total : Nat := if st = 0 || s.bit .XO_MON_LOST || s.bit .CLK_STAT_TB_ROSC then 0xFFFFFFFF else t.total.word
  let s := s.setPlane p { s.planes[p] with terms := t, prov := s.provenance p, floorD := some (s.declaredD p) }
  s.showTotal p total

/-! ## The shadow loop (R64, R65) -/

/-- The coefficients R50 assigns to the candidate's type. -/
def State.candCoeffs (s : State) (c : Nat) : Rat × Rat × Rat :=
  let d := (s.srcType c).defaults (s.rd .ATOM_CFG_TYPE == 3)
  loopCoeffs (s.clampBw c d.1).1 d.2.2.2.1 0 (s.updPeriod c / psPerS)

/-- The shadow offset carried forward to the tick: the private copy of the plane's time runs at the shadow's word (R65). -/
def State.shadowOffset (s : State) (p : Fin 4) : Rat :=
  let pl := s.planes[p]
  if pl.shadow.seeded then
    pl.shadow.offset + ((s.now - pl.shadow.lastUpd : Nat) : Rat) * (pl.shadow.w - wordFrac pl.sent)
  else pl.shadow.offset

/-- One shadow update on the candidate's fresh samples, with READY (R65). -/
def State.shadowUpdate (s : State) (p : Fin 4) : State :=
  let c := s.rd .PLn_SHADOW_STAT_SRC p
  match s.freshErr p c with
  | none => s
  | some raw =>
    let pl := s.planes[p]
    let sh := pl.shadow
    if !sh.seeded then
      s.setPlane p { pl with shadow := { sh with offset := raw, seeded := true, lastUpd := s.now }
                             updOffset := updUnits raw }
    else
      let o := s.shadowOffset p
      let time := (s.srcType c).isTime && s.srcType c != .pps
      let e := if time then raw - o else wrapTo (s.srcPeriod c) (raw - o)
      let k := s.candCoeffs c
      let es := e / psPerS
      let i := sh.i + k.2.1 * es
      let v := i + k.1 * es
      let d := (s.srcType c).defaults (s.rd .ATOM_CFG_TYPE == 3)
      let good := s.srcGood p c
      let inLock := decide (ratAbs e < 1000) && good
      let from_ := if inLock then some (sh.lockFrom.getD s.now) else none
      let un := if 10000 < ratAbs e then sh.unlockRun + 1 else 0
      let s := s.setPlane p { pl with shadow := { sh with i := i, w := v, offset := o, lastUpd := s.now
                                                          lockFrom := from_, unlockRun := un }
                                      updOffset := updUnits o }
      if s.bit .PLn_SHADOW_STAT_READY p then (if 4 ≤ un then s.unready p else s)
      else
        match from_ with
        | some f =>
          if f + d.2.2.2.2 * 10000000000 ≤ s.now then
            let s := s.wr .PLn_SHADOW_STAT_READY p 1
            if s.rd .PLn_STATE_STATE p = 3 then s.autoCommit p false else s
          else s
        | none => s

/-- The candidate re-evaluated at a tick, except while a commit is pending or in its window (R64). -/
def State.reCandidate (s : State) (p : Fin 4) : State :=
  let c := s.candidateNow p
  if s.committing p || c = s.rd .PLn_SHADOW_STAT_SRC p then s else s.restartShadow p c

/-! ## Swap and recall (R68 to R70) -/

/-- The active state copied into the snapshot (R68, step 1). -/
def State.takeSnapshot (s : State) (p : Fin 4) : Snapshot :=
  let pl := s.planes[p]
  { state := s.rd .PLn_STATE_STATE p, src := s.rd .PLn_REFSEL_SRC p, i := pl.i, w := pl.w, c := pl.c
    pbo := s.rd .PLn_PBO p, rsum := s.rd .PLn_RSUM p, bw := s.rd .PLn_BW p, damp := s.rd .PLn_LOOP_DAMP p
    m := s.rd .PLn_LOOP_M p, lthr := s.rd .PLn_LOCK_LTHR p, ltime := s.rd .PLn_LOCK_LTIME p
    uthr := s.rd .PLn_UNLOCK_UTHR p, ucnt := s.rd .PLn_UNLOCK_UCNT p, cEntry := pl.cEntry, lockFrom := pl.lockFrom
    unlockRun := pl.unlockRun, errs := pl.errs, anchor := pl.anchor, hist := pl.hist, growth := pl.growth
    frozen := pl.frozen, traced := pl.traced, lastTime := pl.lastTime, timeRef := pl.timeRef, carry := pl.carry
    acq := pl.acq, lossAt := pl.lossAt
    histValid := s.rd .PLn_STATE_HIST_VALID p }

/-- The snapshot restored bit-exactly (R70). -/
def State.restoreSnapshot (s : State) (p : Fin 4) (x : Snapshot) : State :=
  let s := ((((((((((s.wr .PLn_REFSEL_SRC p x.src)).setPbo p x.pbo).wr .PLn_RSUM p x.rsum).wr .PLn_BW p x.bw).wr
    .PLn_LOOP_DAMP p x.damp).wr .PLn_LOOP_M p x.m).wr .PLn_LOCK_LTHR p x.lthr).wr .PLn_LOCK_LTIME p x.ltime).wr
    .PLn_UNLOCK_UTHR p x.uthr).wr .PLn_UNLOCK_UCNT p x.ucnt
  let s := s.setPlState p x.state
  let s := s.setPlane p { s.planes[p] with i := x.i, w := x.w, c := x.c, cEntry := x.cEntry, lockFrom := x.lockFrom
                                           unlockRun := x.unlockRun, errs := x.errs, anchor := x.anchor, hist := x.hist
                                           growth := x.growth, frozen := x.frozen, traced := x.traced
                                           lastTime := x.lastTime, timeRef := x.timeRef, carry := x.carry
                                           acq := x.acq, lossAt := x.lossAt }
  (s.wrB .PLn_STATE_ANCHORED p x.anchor.isSome).wr .PLn_STATE_HIST_VALID p x.histValid

/-- The residual of R68, step 4. -/
def State.swapResidual (s : State) (c : Nat) : Nat :=
  match s.srcType c with
  | .pps | .ptpSw => 100
  | .atom => if s.rd .ATOM_CFG_TYPE = 3 then 100 else 20
  | _ => 20

/-- The terms at an update, kept frozen for a loss or a holdover, and the TIME-class reference last followed (R62, R63). -/
def State.freezeTerms (s : State) (p : Fin 4) (c : Nat) : State :=
  let r := s.refTerms p c
  let time := (s.srcType c).isTime
  let loop := s.loopTerm p
  let pl := s.planes[p]
  s.setPlane p { pl with frozen := { pl.frozen with ref := r.1, inp := r.2, loop := loop }
                         timeRef := if time then some (c, r.1, r.2) else pl.timeRef
                         lastTime := time
                         traced := if time then c else (match pl.anchor with
                           | some a => a.src
                           | none => 31) }

/-- An update of the active source with its error, the first of an acquisition included, then lock and unlock where the tick is
`free` of another transition. -/
def State.updateActive (s : State) (p : Fin 4) (c : Nat) (e : Rat) (free : Bool) : State :=
  let a := s.acquireFirst p e
  ((a.1.loopUpdate p c a.2).freezeTerms p c).lockTest p a.2 free

/-- The swap at the candidate's update (R68); a calibration run ends (R352). -/
def State.swapPlane (s : State) (p : Fin 4) (r : Region) : State :=
  let cand := s.rd .PLn_SHADOW_STAT_SRC p
  let ready := s.bit .PLn_SHADOW_STAT_READY p
  let snap := s.takeSnapshot p
  let off := s.shadowOffset p
  let pl := s.planes[p]
  let s := s.setPlane p { pl with snap := some snap, i := pl.shadow.i, w := pl.shadow.w, acq := none
                                  region := some { r with forLoss := false, ticks := 0, cSnap := pl.sent, prefBack := false } }
  let s := s.addPbo p off
  let s := s.wr .PLn_RSUM p (min 0xFFFFFFFF (s.rd .PLn_RSUM p + s.swapResidual cand))
  let s := s.wr .PLn_REFSEL_SRC p cand
  let s := if s.bit .PLn_REFSEL_KEEP p then s else s.loadDefaults p cand
  let s := s.beginFollow p cand
  let s := ((s.setPlState p (if ready then 2 else 1)).wr .PLn_COMMIT_RESULT p resWindow).calAbort
  match s.freshErr p cand with
  | some e => s.updateActive p cand e false
  | none => s

/-- The update that closes the recall window: a recall when the preferred reference is back, otherwise DONE (R70). -/
def State.closeWindow (s : State) (p : Fin 4) (r : Region) : State :=
  match s.planes[p].snap with
  | some x =>
    if r.prefBack then
      let s := (s.restoreSnapshot p x).setPlane p
        { (s.restoreSnapshot p x).planes[p] with recallAdd := r.cSnap - r.cSwap, recallTicks := r.ticks }
      (s.flag .PLn_EV_RECALL p).closeRegion p resRecalled
    else s.closeRegion p resDone
  | none => s.closeRegion p resDone

/-! ## The tick of one plane (R44, R53, R54) -/

/-- HOLDOVER entered from STEERED: the terms of STEERED are the ones frozen (R62, R154). -/
def State.freezeSteered (s : State) (p : Fin 4) : State :=
  let pl := s.planes[p]
  let ref : Bound := match pl.steerBound with
    | some b => Bound.ofReg b
    | none => .unbounded
  s.setPlane p { pl with frozen := { pl.frozen with ref := ref, inp := .ps 0, loop := .ps 0 }, traced := 31 }

/-- STEERED left for HOLDOVER: its terms are frozen, and H restarts (R61, R62). -/
def State.leaveSteered (s : State) (p : Fin 4) : State := (s.freezeSteered p).stopGrowth p

/-- MODE has returned to 0 after an entry to STEERED: the integrator and the third pole take PLn_STEER, so that the word does not
step (R56). -/
def State.reloadSteer (s : State) (p : Fin 4) : State :=
  if s.planes[p].steered && !s.bit .PLn_CTRL_MODE p then
    let w := wordFrac (toSigned 48 (s.rd .PLn_STEER p))
    s.setPlane p { s.planes[p] with i := w, w := w, steered := false }
  else s

/-- The transitions of R53 that stand before the loop update, in the order of R54. FREERUN and STEERED are left for a GOOD source
only (entry 102). A region opened in STEERED while MODE stays 1 stands (entry 132). -/
def State.planeMove (s : State) (p : Fin 4) : State :=
  let s := s.reloadSteer p
  let st := s.rd .PLn_STATE_STATE p
  let c := srcCode (s.rd .PLn_REFSEL_SRC p)
  if !s.bit .PLn_CTRL_EN p then
    ((s.preempt p).stopGrowth p).setPlState p 0
  else if s.forced p ≠ 0 then
    let s := s.preempt p
    if st = 0 || st = 3 then s
    else if st = 4 then (s.leaveSteered p).enterHoldover p s.now
    else s.enterHoldover p s.now
  else if s.bit .PLn_CTRL_MODE p then
    if st = 4 then s
    else
      let s := (s.preempt p).stopGrowth p
      (s.setPlane p { s.planes[p] with steerBound := none, steered := true }).setPlState p 4
  else if st = 4 then
    if s.srcGood p c then
      let s := s.setPlane p { s.planes[p] with acq := some 1 }
      (s.beginFollow p c).setPlState p 1
    else ((s.leaveSteered p).entryGrowth p (toSigned 48 (s.rd .PLn_STEER p) : Rat)).startHoldover p
  else if st = 0 then
    if s.srcGood p c then
      let s := s.setPlane p { s.planes[p] with acq := some (s.rd .PLn_CTRL_ACQ p) }
      (s.beginFollow p c).setPlState p 1
    else s
  else
    let pl := s.planes[p]
    match pl.region, s.rd .PLn_COMMIT_RESULT p with
    | some r, 3 => if (s.freshErr p c).isSome then s.closeWindow p r else s
    | some r, 2 =>
      if (s.freshErr p (s.rd .PLn_SHADOW_STAT_SRC p)).isSome then s.swapPlane p r else s
    | _, _ => s

/-- A write of REFSEL that meets a plane in FREERUN, STEERED or a forced holdover is no switch of its own: the plane takes the
source it now names under the other rows of R53 (R54, R55, R71). -/
def State.dropSwitch (s : State) (p : Fin 4) (before : Nat) : State :=
  if before = 0 || before = 4 || s.forced p ≠ 0 then s.setPlane p { s.planes[p] with refWrite := false } else s

/-- After a write of REFSEL the plane enters ACQUIRE on the named source; then the loss of the active source (R53, R71,
R409). -/
def State.planeLoss (s : State) (p : Fin 4) : State :=
  let st := s.rd .PLn_STATE_STATE p
  let c := srcCode (s.rd .PLn_REFSEL_SRC p)
  if s.planes[p].refWrite then
    let s := s.setPlane p { s.planes[p] with refWrite := false }
    if st = 1 || st = 2 || st = 3 then
      let s := s.setPlane p { s.planes[p] with acq := some 1 }
      (s.beginFollow p c).setPlState p 1
    else s
  else if (st = 1 || st = 2) && !s.srcHolds p c && !s.lossPending p then
    if s.bit .PLn_STATE_HIST_VALID p then s.enterHoldover p (s.planes[p].lossAt.getD s.now)
    else (s.stopGrowth p).setPlState p 0
  else if (st = 1 || st = 2) && s.planes[p].growth.loss && !s.lossPending p then s.stopGrowth p
  else s

/-- The word of the tick and the word sent, with what a recall adds (R45, R56, R59, R70). In FREERUN the word is held and no limit
acts on it (R48, R52). -/
def State.planeWord (s : State) (p : Fin 4) : State :=
  let s : State := match s.rd .PLn_STATE_STATE p with
    | 0 => (s.wr .PLn_STATE_FMAX_HIT p 0).wr .PLn_STATE_SLOPE_HIT p 0
    | 3 => s.holdWord p
    | 4 => (s.putWord p (toSigned 48 (s.rd .PLn_STEER p))).1
    | _ => s
  let pl := s.planes[p]
  let sent := if 0 < pl.recallTicks then pl.c + pl.recallAdd else pl.c
  let fbw := (s.clampBw (srcCode (s.rd .PLn_REFSEL_SRC p)) (s.rd .PLn_BW p)).1
  let lo : Rat := (s.now : Rat) - (if fbw = 0 then 0 else (psPerS : Rat) / fbw)
  let keep := pl.words.takeWhile (fun x => decide (lo ≤ (x.1 : Rat)))
  let old := (pl.words.drop keep.length).take 1
  let words := if sent = pl.sent && !pl.words.isEmpty then keep ++ old else (s.now, sent) :: (keep ++ old)
  let reg := pl.region.map (fun r => if s.rd .PLn_COMMIT_RESULT p = 3 then { r with ticks := r.ticks + 1, cSwap := sent }
    else r)
  s.setPlane p { pl with sent := sent, recallTicks := pl.recallTicks - 1, words := words, region := reg }

/-- A commit that READY issued at this tick, where RESULT was `res` before, swaps at this same tick: a tick in the cycle of the
issue counts as after it (R67, R68); not while a holdover is forced, nor where the tick has taken another transition (R54). -/
def State.swapAtReady (s : State) (p : Fin 4) (res : Nat) (free : Bool) : State :=
  match s.planes[p].region with
  | some r => if free && res ≠ 2 && s.rd .PLn_COMMIT_RESULT p = 2 && s.forced p = 0 then s.swapPlane p r else s
  | none => s

/-- The source whose update the plane runs at this tick: the active one, or at a recall the preferred reference (R70). -/
def State.updateSource (s : State) (p : Fin 4) (recalled : Option Region) : Nat :=
  match recalled with
  | some r => if s.rd .PLn_COMMIT_RESULT p = resRecalled then r.pref else srcCode (s.rd .PLn_REFSEL_SRC p)
  | none => srcCode (s.rd .PLn_REFSEL_SRC p)

/-- The active source gives the plane a sample that it takes: it is qualified, and no commit for its loss is pending (R53, R409). -/
def State.takesSample (s : State) (p : Fin 4) (c : Nat) : Bool := s.srcHolds p c && !s.lossPending p

/-- One plane at a tick: one transition, then the update (R54). -/
def State.planeStep (s : State) (p : Fin 4) : State :=
  let s := (s.holdCmd p).reCandidate p
  let swapped := s.rd .PLn_COMMIT_RESULT p
  let before := s.rd .PLn_STATE_STATE p
  let window := if swapped = resWindow then s.planes[p].region else none
  let s := (s.planeMove p).dropSwitch p before
  let didSwap := swapped == 2 && s.rd .PLn_COMMIT_RESULT p == 3
  let recalled := window.isSome && s.rd .PLn_COMMIT_RESULT p == resRecalled
  let switch := s.planes[p].refWrite
  let c := s.updateSource p window
  let s := if didSwap || recalled then s else s.planeLoss p
  let st := s.rd .PLn_STATE_STATE p
  let free := st == before && !didSwap && !recalled && !switch
  let s := if didSwap then s
    else match s.freshErr p c with
      | some e =>
        if (st = 1 || st = 2) && s.takesSample p c then s.updateActive p c e free
        else if st = 4 then s.noteUpdate p s.planes[p].c e
        else s
      | none => s
  let res := s.rd .PLn_COMMIT_RESULT p
  let s := if didSwap || res == 3 then s else s.shadowUpdate p
  let s := s.swapAtReady p res free
  let s := s.bleed p
  let s := s.planeWord p
  let g := s.planes[p].growth
  let s := if g.run then s.wr .PLn_HO_AGE p (min 0xFFFFFFFF ((s.now - g.since) / psPerS)) else s
  (s.wrB .PLn_STATE_ASSIST p s.assist).wrB .PLn_STATE_MODEL_OLD p s.modelOld

/-! ## The drift model at the tick (R79, R80, R82, R83) -/

/-- Planes in holdover evaluate y_m(t_e) with the model now applied (R59). -/
def State.reEntry (s : State) : State :=
  s.forAll 4 (fun s p =>
    let pl := s.planes[p]
    s.setPlane p { pl with growth := { pl.growth with yEntry := s.modelValue pl.growth.entry }
                           snap := pl.snap.map (fun x =>
                             { x with growth := { x.growth with yEntry := s.modelValue x.growth.entry } }) })

/-- A kept sample's position on the prediction timescale moved by `d` ps. -/
def Sample.shift (x : Sample) (d : Rat) : Sample := { x with pred := x.pred + d }

/-- The positions that an input keeps on the prediction timescale follow its move by `d` ps, so that the move is no step of the input:
of PTP_SW the phases, of another type the edges (R25, R38, entry 99). -/
def InputState.shiftPred (i : InputState) (sw : Bool) (d : Rat) : InputState :=
  let p : Rat := if sw then -d else 0
  { i with prevPred := i.prevPred.map (· + d), last16 := i.last16.map (fun x => (x.1, x.2 + (if sw then -d else d)))
           phase := i.phase + p, gateFirst := i.gateFirst.map (fun x => (x.1.shift d, x.2 + p))
           gateLast := i.gateLast.map (fun x => (x.1.shift d, x.2 + p)), obsSum := i.obsSum + p * (i.obsCount : Rat)
           obs := i.obs.map (fun x => x.map (· + p)) }

/-- No model is applied any more: the prediction timescale equals the device timescale (R38). -/
def State.predToDevice (s : State) : State :=
  let d : Rat := (s.now : Rat) - s.xo.pred
  { s with xo := { s.xo with pred := s.now }
           inputs := Vector.ofFn (fun n : Fin 16 => (s.inputs[n]).shiftPred (s.inType n == .ptpSw) d) }

/-- The model at a tick: the prediction timescale advances, a pending LOAD or CLEAR takes effect, y_m is evaluated. A CLEAR holds
every input's 1000 s window as passing and takes the prediction timescale back to the device timescale (R38). -/
def State.modelTick (s : State) : State :=
  let x := s.xo
  let s := { s with xo := { x with pred := s.predOf s.now, predAt := s.now, pend := none } }
  let s := match x.pend with
    | some .load =>
      let s := { s with xo := { s.xo with y0 := s.rdI .MODEL_Y0, y1 := s.rdI .MODEL_Y1, y2 := s.rdI .MODEL_Y2
                                          loadedAt := s.now } }
      let s := (((s.wr .MODEL_AGE 0 (s.rd .MODEL_FITAGE)).wr .MODEL_CTRL_SEQ 0 (s.rd .MODEL_CTRL_SEQ + 1)).wr
        .MODEL_CTRL_APPLIED 0 1).wr .MODEL_CTRL_PENDING 0 0
      (s.reEntry).pulse 51
    | some .clear =>
      ((((s.wr .MODEL_CTRL_APPLIED 0 0).wr .MODEL_CTRL_PENDING 0 0).reEntry).predToDevice).forAll 16 State.holdS1000
    | none => s
  let s := { s with xo := { s.xo with y := s.modelValue s.now } }
  s.wrB .MODEL_CTRL_OLD 0 s.modelOld

/-! ## Leap seconds at the tick (R145, R146) -/

/-- TODp reaches leap entries between its last whole second and now. -/
def State.leapCheck (s : State) (p : Fin 4) : State :=
  let sec := s.todSec p
  let t := s.tods[p]
  let hit := s.utc.leaps.any (fun e => t.lastSec < e.1 && e.1 ≤ sec)
  let s := s.setTod p { t with lastSec := sec }
  if hit then s.flag .TODp_EV_LEAP p else s

/-- Writes of UTC_BASE and of the leap table take effect at the tick (R145). -/
def State.utcTick (s : State) : State := ({ s with utc := s.utcTable } : State).forAll 4 State.leapCheck

/-! ## The plane tick -/

/-- Fresh samples are consumed at the tick. -/
def State.clearFresh (s : State) : State :=
  { s with inputs := s.inputs.map (fun x => { x with fresh := [] }), xo := { s.xo with fresh := [] }
           links := s.links.map (fun x => { x with fresh := [] }) }

/-- The instant of tick `j`. -/
def State.tickAt (s : State) (j : Nat) : Nat := s.tick0 + j * tickPs

/-- The plane tick (R44): the model, each plane, UTC, then the error accounting (R154). What the planes post at the tick carries the
bounds and provenance that the accounting forms (R12). -/
def State.doTick (s : State) : State :=
  if !s.timebase then s
  else
    let s := { s with tick := s.tick + 1, due := true }
    let s := { s with now := max s.now (s.tickAt s.tick) }
    let s := s.tickPosts
    let s := s.forAll 4 State.linkTick
    let s := s.modelTick
    let s := s.forAll 4 State.planeStep
    let s := s.clearFresh
    let s := s.utcTick
    (s.forAll 4 State.account).releasePosts

/-- The words of the last tick come into force at the TODs and the outputs 160 ns after it (R108, R139). -/
def State.doForce (s : State) : State :=
  if !s.timebase || !s.due then s
  else
    let at_ := s.forceAt
    let s := { s with due := false, now := max s.now at_ }
    let s := s.forAll 4 (fun s p =>
      let d := s.tods[p]
      let f := max at_ d.since
      s.setTod p (d.turn f (d.readAt f) s.planes[p].sent))
    s.forAll 64 (fun s n =>
      let o := s.outs[n]
      let k := if s.outOn n && s.outMode n == 0 then o.cur.upTo at_ o.word else o.cur
      let nx := o.next.map (fun (x : Track × Bool) => (x.1.upTo at_ o.word, x.2))
      let c : Int := s.nextWord n
      let s := s.setOut n { o with cur := k, next := nx, word := c, planeNext := none }
      match o.planeNext with
      | some q =>
        let s := s.wr .OUTn_SRC_PL n q
        -- EARLY is 1 until the plane first reaches LOCKED (R128)
        let s := if (s.outPlane n).any (fun p => s.planes[p].everLocked) then s.wr .OUTn_STAT_EARLY n 0 else s
        (s.setOut n { s.outs[n] with instFrom := s.outTime n }).repredict n
      | none => s.repredict n)

/-! ## Register writes of the PL block and of the drift model -/

/-- A write of PLn_CTRL (R53, R58, R63): EN written 0 empties the history; EN from 0 to 1 begins anew. The state machine
moves at the next tick. -/
def State.writePlCtrl (s : State) (p : Fin 4) (v : Word) : State :=
  let was := s.bit .PLn_CTRL_EN p
  let s := s.writeWord .PLn_CTRL p v
  let pl := s.planes[p]
  if !s.bit .PLn_CTRL_EN p then (s.setPlane p { pl with hist := [] }).wr .PLn_STATE_HIST_VALID p 0
  else if !was then
    (s.setPlane p { pl with everLocked := false, timeRef := none, anchor := none }).wr .PLn_STATE_ANCHORED p 0
  else s

/-- A write of PLn_REFSEL is a switch (R50, R71): an open region closes with PREEMPTED; naming the ready shadow candidate
opens a region and commits, the old source staying active until the swap; otherwise the source is taken at once and the
plane enters ACQUIRE at the next tick. -/
def State.writeRefsel (s : State) (p : Fin 4) (m : Master) (v : Word) : State :=
  let s := s.preempt p
  let new := fieldOf .PLn_REFSEL_SRC v
  let st := s.rd .PLn_STATE_STATE p
  let s := s.wr .PLn_REFSEL_KEEP p (fieldOf .PLn_REFSEL_KEEP v)
  let old := srcCode (s.rd .PLn_REFSEL_SRC p)
  if srcCode new = s.rd .PLn_SHADOW_STAT_SRC p && s.bit .PLn_SHADOW_STAT_READY p && srcCode new != old
      && (st == 1 || st == 2 || st == 3) then
    (s.openRegion p old (some m.id.val)).issueCommit p false false
  else
    let s := s.wr .PLn_REFSEL_SRC p new
    let s := if s.bit .PLn_REFSEL_KEEP p then s else s.loadDefaults p (srcCode new)
    s.setPlane p { s.planes[p] with refWrite := true, lossAt := none }

/-- A write of PLn_SHADOW_CAND (R64, R168): one that changes neither SRC nor AUTO is no change of the candidate. -/
def State.writeCand (s : State) (p : Fin 4) (v : Word) : State :=
  if s.committing p || (fieldOf .PLn_SHADOW_CAND_SRC v == s.rd .PLn_SHADOW_CAND_SRC p &&
      fieldOf .PLn_SHADOW_CAND_AUTO v == s.rd .PLn_SHADOW_CAND_AUTO p) then s
  else
    let s := s.writeWord .PLn_SHADOW_CAND p v
    if s.bit .PLn_SHADOW_CAND_AUTO p then s else s.reCandidate p

/-- A committed write of PLn_PBO (R65, R72). -/
def State.commitPbo (s : State) (p : Fin 4) (v : DWord) : State := (s.setPbo p (v.toNat % 2 ^ 48)).wr .PLn_RSUM p 0

/-- A commit of PLn_STEER (R56, R57, R61): in every state it latches the declared bound and restarts the age and H. The history
value of a holdover stands. -/
def State.commitSteer (s : State) (p : Fin 4) (v : DWord) : State :=
  let s := s.writePair .PLn_STEER p v
  let s := s.setPlane p { s.planes[p] with steerBound := some (s.rd .PLn_STEER_BOUND p) }
  s.restartGrowth p

/-- A write of PLn_COMMIT: PREF, then BEGIN, GO with FORCE, ABANDON (R74). -/
def State.writeCommit (s : State) (p : Fin 4) (m : Master) (v : Word) : State :=
  let s := s.wr .PLn_COMMIT_PREF p (fieldOf .PLn_COMMIT_PREF v)
  let s := if fieldOf .PLn_COMMIT_BEGIN v = 1 then s.beginRegion p (s.rd .PLn_COMMIT_PREF p) m else s
  let s := if fieldOf .PLn_COMMIT_GO v = 1 then s.commitGo p m (fieldOf .PLn_COMMIT_FORCE v == 1) else s
  if fieldOf .PLn_COMMIT_ABANDON v = 1 then s.abandon p m else s

/-- Once per second a LOCKED plane whose word is not limited records it (R58). -/
def State.historyRecord (s : State) (p : Fin 4) : State :=
  if s.rd .PLn_STATE_STATE p = 2 && !s.bit .PLn_STATE_FMAX_HIT p && !s.bit .PLn_STATE_SLOPE_HIT p
      && s.bit .PLn_CTRL_EN p then
    let pl := s.planes[p]
    let guard := s.rd .PLn_HO_CFG_GUARD p
    let hist := ((s.now, pl.c) :: pl.hist).take (s.rd .PLn_HO_CFG_AVG p + guard + 1)
    let s := s.setPlane p { pl with hist := hist }
    if guard + 1 ≤ hist.length then s.wr .PLn_STATE_HIST_VALID p 1 else s
  else s

/-- A write of MODEL_CTRL (R82, R83): LOAD by master 3 alone, CLEAR by any; one pending action, the later in force. -/
def State.writeModelCtrl (s : State) (m : Master) (v : Word) : State :=
  let load := fieldOf .MODEL_CTRL_LOAD v == 1 && m == .keeper
  let clear := fieldOf .MODEL_CTRL_CLEAR v == 1
  let s := s.writeWord .MODEL_CTRL 0 v
  if !load && !clear then s
  else
    let lost := s.xo.pend == some .load || (load && clear)
    let s := { s with xo := { s.xo with pend := some (if clear then .clear else .load) } }
    let s := s.wr .MODEL_CTRL_PENDING 0 1
    if lost then s.hwSet .MODEL_CTRL_LOAD_LOST 0 1 else s

end Sys2Proof.Machine
end

