-- ==== Sys2Proof/Machine/Outputs.lean ====
section
/-!
DEFINITION. The outputs (R105 to R131): the placing of their edges, phase commits, starting, squelch, source swaps, immediate hops, and the writes of the OUT block.
-/
namespace Sys2Proof.Machine

/-! ## Start conditions and configuration (R105, R106, R128) -/

/-- The mode, the ratio and OUTn_TPER are valid (R105, R106). -/
def State.outCfgOk (s : State) (n : Nat) : Bool :=
  match s.outMode n with
  | 0 => (s.ratio n).valid
  | 1 => true
  | 2 => 1000 ≤ s.rd .OUTn_TPER n
  | _ => false

/-- CFG_ERR formed anew: 1 while an enabled output's mode, ratio or OUTn_TPER is not valid (R105, R135). -/
def State.checkOutCfg (s : State) (n : Fin 64) : State :=
  s.wrB .OUTn_STAT_CFG_ERR n (s.bit .OUTn_CFG_EN n && !s.outCfgOk n)

/-- EARLY acts for the output: START is 1, or PL names no plane (R128). -/
def State.outEarly (s : State) (n : Nat) : Bool := s.bit .OUTn_CFG_START n || (s.outPlane n).isNone

/-- The plane of an output has been LOCKED since its EN last rose (R128). -/
def State.outPlaneLocked (s : State) (n : Nat) : Bool :=
  match s.outPlane n with
  | some p => s.planes[p].everLocked
  | none => false

/-- An APLL is LOCKED (R88). -/
def State.apllLocked (s : State) (x : Fin 2) : Bool := s.rd .APLLx_STAT_STATE x == 3

/-- Start conditions of R128. -/
def State.outMayStart (s : State) (n : Fin 64) : Bool :=
  s.outCfgOk n && s.apllLocked (s.outApll n) && (s.outEarly n || s.outPlaneLocked n)

/-! ## The driver and the squelch (R126, R127, R129) -/

/-- The driver fields as OUTn_CFG asks for them. -/
def State.cfgDriver (s : State) (n : Nat) : Driver :=
  let f := s.rd .OUTn_CFG_FMT n
  ⟨if f < 6 then f else 0, s.rd .OUTn_CFG_EDGE n, s.rd .OUTn_CFG_DRIVE n, s.rd .OUTn_CFG_POL n⟩

/-- A change of the driver that waited for a falling edge that has passed. -/
def State.settleDriver (s : State) (n : Fin 64) : State :=
  let o := s.outs[n]
  match o.driverNext with
  | some (d, some t) => if t ≤ (s.now : Rat) then s.setOut n { o with driver := d, driverNext := none } else s
  | _ => s

/-- Whether any squelch condition of R129 holds. -/
def State.squelched (s : State) (n : Nat) : Bool :=
  s.bit .OUTn_STAT_SHED n || s.bit .OUTn_STAT_NOSUPPLY n || s.bit .OUTn_STAT_NOAPLL n

/-- A running output enters SQUELCHED: at once while low, at the end of its high time while high (R129). -/
def State.squelch (s : State) (n : Fin 64) : State :=
  if s.run n = 2 then
    let o := s.outs[n]
    let s := s.setOut n { o with sqAt := s.highEnd n }
    ((s.wr .OUTn_STAT_RUN n 3).flag .OUTn_EV_SQUELCH n).calOutput n
  else s

/-- A squelch condition arises at a running output. -/
def State.squelchFor (s : State) (f : Field) (n : Fin 64) : State :=
  if s.outOn n then (s.wr f n 1).squelch n else s

/-- The bank supply is absent, or back for less than 1 ms (R131). -/
def State.noSupply (s : State) (n : Fin 64) : Bool :=
  let b : Fin 8 := ⟨n / 8, by omega⟩
  !s.bit .OBb_STAT_SUPPLY b || s.banks[b].supplyFrom.isSome

/-! ## Starting and stopping (R112, R128) -/

/-- The PIFD begins anew: a RATIO output anchors at the next whole second, a PPS or TIMED output at its first edge instant
(R112). φ_now, the setpoint and a pending hop stay. -/
def State.anchor (s : State) (n : Fin 64) : State :=
  let o := s.outs[n]
  let w : Int := match s.outPlane n with
    | some p => s.tods[p].word
    | none => 0
  let s := s.setOut n { o with cur := s.anchorTrack n, next := none, anchoring := s.outMode n == 0, word := w, backlog := 0, steps := []
                               instFrom := s.outTime n }
  s.wr .OUTn_STAT_CATCHUP n 0

/-- The start of a WAITING output (R128): RUNNING, or SQUELCHED where its bank has no supply. -/
def State.startOutput (s : State) (n : Fin 64) : State :=
  let o := s.outs[n]
  let s := s.setOut n { o with lastRise := none, pulses := [], startedAt := none, driver := s.cfgDriver n, driverNext := none
                               driveFrom := 0 }
  let s := s.anchor n
  let s := ((s.wr .OUTn_STAT_RUN n 2).wrB .OUTn_STAT_EARLY n (s.outEarly n && !s.outPlaneLocked n)).markSlew n
  if s.noSupply n then s.squelchFor .OUTn_STAT_NOSUPPLY n else s

/-- EN = 0 stops the PIFD and the driver (R129); a plane that waited for its boundary is taken now (R125). -/
def State.stopOutput (s : State) (n : Fin 64) : State :=
  let o := s.outs[n]
  let s := s.setOut n { o with next := none, anchoring := false, lastRise := none, pulses := [], backlog := 0, swap := none, steps := []
                               asStep := false, phaseFrom := none, planeNext := none
                               corr := o.corrNext.getD o.corr, corrNext := none }
  let s := match o.planeNext with
    | some pl => s.wr .OUTn_SRC_PL n pl
    | none => s
  ((((((((((s.wr .OUTn_STAT_RUN n 0).calOutput n).wr .OUTn_STAT_EARLY n 0).wr .OUTn_STAT_SHED n 0).wr .OUTn_STAT_SLEWING n 0).wr
    .OUTn_STAT_CATCHUP n 0).wr .OUTn_STAT_NOAPLL n 0).wr .OUTn_STAT_NOSUPPLY n 0).wr .OUTn_STAT_CFG_ERR n 0))

/-! ## Phase offset (R113 to R115) -/

/-- A commit of OUTn_PHASE starts a step or a slew, as PMODE and SLOPE stand at the commit (R114, R115). -/
def State.startMove (s : State) (n : Fin 64) : State :=
  ((s.setOut n { s.outs[n] with asStep := !s.slews n }).markSlew n).repredict n

/-- PMODE or SLOPE has been written: where that ends slewing, the remainder of a slew is a step at the first edge not yet fixed
(R115). -/
def State.endSlew (s : State) (n : Fin 64) : State :=
  let o := s.outs[n]
  let ends := !s.slews n && o.phi != (s.rdI .OUTn_PHASE n : Rat)
  ((s.setOut n { o with
    asStep := o.asStep || ends
    phaseFrom := o.phaseFrom.map (fun w => { w with oldStep := w.oldStep || !s.slews n }) }).markSlew n).repredict n

/-- A commit of OUTn_PHASE (R113): a step or a slew of a running output; otherwise φ_now := φ. -/
def State.commitPhase (s : State) (n : Fin 64) (v : DWord) : State :=
  let s := s.writePair .OUTn_PHASE n v
  let o := s.outs[n]
  if s.outOn n then (s.setOut n { o with phaseFrom := none }).startMove n
  else (s.setOut n { o with phi := (s.rdI .OUTn_PHASE n : Rat), asStep := false, phaseFrom := none }).showPhase n

/-- STOPSLEW: φ := φ_now (R115). -/
def State.stopSlew (s : State) (n : Fin 64) : State :=
  let v := s.rdI .OUTn_PHASE_NOW n
  let s := s.wrI .OUTn_PHASE n v
  ((s.setOut n { s.outs[n] with phi := (v : Rat), asStep := false, phaseFrom := none }).markSlew n).repredict n

/-! ## Source swaps (R98 to R101) -/

/-- An output may swap to the other APLL (R98): that one is LOCKED, has not departed, and SWAP_OK is 1. -/
def State.maySwap (s : State) (n : Fin 64) : Bool :=
  let y : Fin 2 := 1 - s.outApll n
  s.apllLocked y && !s.aplls[y].departed && s.swapOk n

/-- A swap started; its edge is the first not yet fixed (R98). -/
def State.startSwap (s : State) (n : Fin 64) (depart : Bool) : State :=
  s.setOut n { s.outs[n] with swap := some ⟨(1 - s.outApll n : Fin 2), depart⟩ }

/-- A ratio written into the active ratio registers. -/
def State.setRatio (s : State) (n : Nat) (r : Ratio) : State :=
  ((s.wr .OUTn_INT n r.int).wr .OUTn_NUM n r.num).wr .OUTn_DEN n r.den

/-- The swap takes effect (R98, R99, R124): OUTn_SRC reads the other APLL, the ratio is the alternate one, SWAP_DONE and
SWAPPED are set at the APLL left; the copy of a pending hop becomes its alternate ratio too. A calibration run ends
(R352). -/
def State.completeSwap (s : State) (n : Fin 64) : State :=
  let x := s.outApll n
  let y : Fin 2 := 1 - x
  let q := s.fVco y / s.fVco x
  let s := if s.outMode n = 0 then s.setRatio n ((s.ratio n).alternate q).1 else s
  let o := s.outs[n]
  let alter := fun (h : HopPend) =>
    let a := h.ratio.alternate q
    { h with ratio := a.1, ok := a.2 }
  let s := s.setOut n { o with swap := none, hop := o.hop.map alter, hopNext := o.hopNext.map alter }
  let s := ((s.wr .OUTn_SRC_APLL n y).hwSet .APLLx_SWAP_DONE x (2 ^ n.val)).flag .APLLx_EV_SWAPPED x
  s.calAbort

/-- The APLL of an output has failed it and no swap was possible (R98, R101, R129). -/
def State.loseApll (s : State) (n : Fin 64) : State :=
  let s := s.setOut n { s.outs[n] with swap := none }
  s.squelchFor .OUTn_STAT_NOAPLL n

/-- A swap at its edge: completed while its conditions still hold, else given up (R98). -/
def State.trySwap (s : State) (n : Fin 64) : State :=
  if s.maySwap n then s.completeSwap n else s.setOut n { s.outs[n] with swap := none }

/-! ## Hops (R120, R121, R124) -/

/-- The active and shadow ratio registers exchange; the active one takes the hop's ratio (R120, R124). -/
def State.exchangeRatio (s : State) (n : Nat) (r : Ratio) : State :=
  let old := s.ratio n
  let s := s.setRatio n r
  ((s.wr .OUTn_S_INT n old.int).wr .OUTn_S_NUM n old.num).wr .OUTn_S_DEN n old.den

/-- A pending hop takes effect at `e`: PEND falls, unless a sheaf's hop waits behind it (entry 40); the output keeps its old ratio
where the new one is not exact (R124). Answers whether it hopped. -/
def State.applyHop (s : State) (n : Fin 64) (e : Rat) : State × Bool :=
  match s.outs[n].hop with
  | none => (s, false)
  | some h =>
    let s := if h.ok && s.outOn n && h.moved.isNone then s.hopTrack n h e else s
    let o := s.outs[n]
    let aligns := o.next.any (fun x => !x.2)
    let s := (s.setOut n { o with hop := o.hopNext, hopNext := none
                                  phaseFrom := if h.ok then o.phaseFrom.filter (fun w => !w.hop || aligns) else o.phaseFrom }).repredict n
    let s := s.wrB .OUTn_STAT_PEND n (s.outs[n]).hop.isSome
    if h.ok then (s.exchangeRatio n h.ratio, true) else (s, false)

/-- A hop is issued: a copy of the shadow ratio is taken and PEND is 1 (R120). -/
def State.issueHop (s : State) (n : Fin 64) (sync : Bool) (sheaf : Option Nat) (at_ : Nat) : State :=
  let o := s.outs[n]
  let h : HopPend := ⟨s.shadowRatio n, true, sync, sheaf, at_, none⟩
  let s := (s.setOut n (if o.hop.isSome then { o with hopNext := some h } else { o with hop := some h })).repredict n
  s.wr .OUTn_STAT_PEND n 1

/-- An immediate hop, effective 200 ns later, or refused with WERR (R120). -/
def State.outHop (s : State) (n : Fin 64) (sync : Bool) : State :=
  if !s.outOn n || s.outMode n != 0 || !(s.shadowRatio n).valid || s.outs[n].hop.isSome then s.flag .OUTn_EV_WERR n
  else s.issueHop n sync none (s.now + 200000)

/-- An immediate hop reaches its instant: HOP_DONE, or HOP_FAIL (R124, R135). -/
def State.hopNow (s : State) (n : Fin 64) : State :=
  match s.outs[n].hop with
  | some h =>
    if h.sheaf.isNone && decide (h.at_ ≤ s.now) then
      let r := s.applyHop n h.at_
      if r.2 then r.1.flag .OUTn_EV_HOP_DONE n else r.1.flag .OUTn_EV_HOP_FAIL n
    else s
  | none => s

/-! ## Placement (R107, R110, R111, R117 to R119) -/

/-- A rising edge is emitted at `t` for the placement `tau`, its falling edge after min(H, half the period that follows)
(R111, R117); an edge ends a start and a squelch whose condition has cleared, and the driver resumes with it (R128, R129). -/
def State.emit (s : State) (n : Fin 64) (t tau per : Rat) : State :=
  let s := s.setLastNext n t
  let p : Pulse := ⟨t, s.highTime n per, t + per⟩
  let o := s.outs[n]
  let was := s.bit .OUTn_STAT_CATCHUP n
  let late := decide (tau < t)
  let resumes := s.run n == 3 && !s.squelched n
  let s := s.setOut n { o with lastRise := some t, pulses := p :: o.pulses.filter (fun x => decide ((s.now : Rat) < x.fall))
                               backlog := t - tau, errFell := o.errFell + max 0 (o.backlog - (t - tau)), anchoring := false
                               startedAt := some (o.startedAt.getD t), driveFrom := if resumes then t else o.driveFrom
                               driverNext := o.driverNext.map (fun x => (x.1, some (x.2.getD p.fall))) }
  let s := s.repredict n
  let s := s.wrB .OUTn_STAT_CATCHUP n late
  let s := if was && !late then s.flag .OUTn_EV_PHASE_DONE n else s
  let s := if o.startedAt.isSome then s else s.flag .OUTn_EV_START n
  if resumes then s.wr .OUTn_STAT_RUN n 2 else s

/-- The edge suppressed: nothing emitted, EDGEADJ down by one (R118, R119, R121). -/
def State.suppress (s : State) (n : Fin 64) : State := s.addEdgeAdj n (-1)

/-- One edge of a RATIO output placed by its running phase (R107, R117). -/
def State.placeCur (s : State) (n : Fin 64) : State :=
  let s := s.moved n
  let k := (s.outs[n]).cur
  let tau := s.placeAt n k
  let t := s.emitAt n tau k.period
  (s.setOut n { s.outs[n] with cur := { k with k := k.k + 1 } }).emit n t tau k.period

/-- The next rising edge of a RATIO output, when it is due. An old edge less than the new P_min before the aligned edge is
suppressed, wherever it lies to E (R121). -/
def State.placeRatio (s : State) (n : Fin 64) : State :=
  let o := s.outs[n]
  let t := s.ratioEdge n
  match s.aligned n with
  | some x =>
    let u := s.atNext n x
    let ta := u.ratioEdge n
    if ta ≤ t then (if s.fixes ta then u.placeCur n else s)
    else if s.fixes t then
      if ta < t + s.pMin n x.1.period then
        (s.setOut n { o with cur := { o.cur with k := o.cur.k + 1 } }).suppress n
      else s.placeCur n
    else s
  | none => if s.fixes t then s.placeCur n else s

/-- An edge at `t` would fall less than P_min after the previous one (R118). -/
def State.tooSoon (s : State) (n : Fin 64) (t per : Rat) : Bool :=
  match s.outs[n].lastRise with
  | some r => decide (t < r + s.pMin n per)
  | none => false

/-- The next rising edge of a PPS or TIMED output, when it is due (R110, R118). -/
def State.placeTimed (s : State) (n : Fin 64) : State :=
  let per := s.nomPeriod n
  if per = 0 then s
  else
    let s' := s.timedMoved n
    let x := s'.nextInst n per
    if !s.fixes x.2 then s
    else
      if s.tooSoon n x.2 per then (s.setOut n { s.outs[n] with instFrom := x.1 + 1 }).suppress n
      else
        (s'.setOut n { s'.outs[n] with instFrom := x.1 + 1 }).emit n x.2 x.2 per

/-- The next rising edge, with the phase change that it takes, falls within the 100 ns in which placements are fixed (R108,
R110). -/
def State.edgeDue (s : State) (n : Fin 64) : Bool :=
  let s := s.overHop n false
  if s.outMode n = 0 then
    s.fixes (s.ratioEdge n) || (match s.aligned n with
      | some x => s.fixes ((s.atNext n x).ratioEdge n)
      | none => false)
  else s.nomPeriod n != 0 && s.fixes ((s.timedMoved n).nextInst n (s.nomPeriod n)).2

/-- The next rising edge is placed, 100 ns ahead (R107, R108, R110): a swap that waits for it comes first, then a hop
(R100). -/
def State.placeEdge (s : State) (n : Fin 64) : State :=
  if !s.timebase || !s.outOn n || s.bit .OUTn_STAT_NOAPLL n then s
  else
    let s := s.settleDriver n
    if !s.edgeDue n then s
    else
      let s := (if (s.outs[n]).swap.isSome then s.trySwap n else s).overHop n false
      if s.outMode n = 0 then s.placeRatio n else s.placeTimed n

/-- The first edge not yet fixed after a swap's origin (R98). -/
def State.swapEdge (s : State) (n : Fin 64) : State := if s.outs[n].swap.isSome then s.placeEdge n else s

/-! ## Writes of the OUT block -/

/-- A write of OUTn_CFG (R113, R115, R127, R128). -/
def State.writeOutCfg (s : State) (n : Fin 64) (v : Word) : State :=
  let s := s.settleDriver n
  let wasEn := s.bit .OUTn_CFG_EN n
  let mode := s.outMode n
  let s := s.writeWord .OUTn_CFG n v
  -- MODE is written only while STOPPED or WAITING
  let s := if s.outOn n && s.outMode n != mode then (s.wr .OUTn_CFG_MODE n mode).flag .OUTn_EV_WERR n else s
  let en := s.bit .OUTn_CFG_EN n
  if !en then (if wasEn then s.stopOutput n else s)
  else if !s.outOn n then (s.wr .OUTn_STAT_RUN n 1).checkOutCfg n
  else
    let d := s.cfgDriver n
    let o := s.outs[n]
    let s :=
      if d = o.driver then s.setOut n { o with driverNext := none }
      else if d.fmt = 0 && o.driver.fmt ≠ 0 then
        if s.outHigh n then s.setOut n { o with driverNext := some (d, some (s.highEnd n)) }
        else s.setOut n { o with driver := d, driverNext := none }
      else s.setOut n { o with driverNext := some (d, s.nextFall n) }
    s.endSlew n

/-- A write of a ratio register, active (R106) or shadow (R120): ignored with WERR where it is not allowed. -/
def State.writeRatio (s : State) (n : Fin 64) (r : Reg) (v : DWord) : State :=
  if s.outOn n then s.flag .OUTn_EV_WERR n else (s.writePair r n v).checkOutCfg n

def State.writeShadow (s : State) (n : Fin 64) (r : Reg) (v : DWord) : State :=
  if s.bit .OUTn_STAT_PEND n then s.flag .OUTn_EV_WERR n else s.writePair r n v

/-- A write of OUTn_SRC (R125). -/
def State.writeOutSrc (s : State) (n : Fin 64) (v : Word) : State :=
  let pl := fieldOf .OUTn_SRC_PL v
  let ap := fieldOf .OUTn_SRC_APLL v
  if !s.outOn n then (s.wr .OUTn_SRC_PL n pl).wr .OUTn_SRC_APLL n ap
  else
    let s := if pl = s.rd .OUTn_SRC_PL n then s.setOut n { s.outs[n] with planeNext := none }
      else s.setOut n { s.outs[n] with planeNext := some pl }
    let o := s.outs[n]
    match o.swap with
    | some w => if w.depart && ap != s.rd .OUTn_SRC_APLL n then s.flag .OUTn_EV_SRC_DISC n else s
    | none =>
      if ap = s.rd .OUTn_SRC_APLL n then s
      else if s.maySwap n && o.hop.isNone then s.startSwap n false
      else s.flag .OUTn_EV_SRC_REJ n

/-- RESTART re-anchors a running RATIO output at the next whole second; its old edges give way (R112). -/
def State.restartOut (s : State) (n : Fin 64) : State :=
  if s.outOn n && s.outMode n = 0 then
    let o := s.outs[n]
    (s.setOut n (if o.anchoring then { o with cur := s.anchorTrack n } else { o with next := some (s.anchorTrack n, true) })).repredict n
  else s

/-- A write of OUTn_CMD: HOP with SYNC, RESTART, STOPSLEW (R135). -/
def State.writeOutCmd (s : State) (n : Fin 64) (v : Word) : State :=
  let s := if fieldOf .OUTn_CMD_HOP v = 1 then s.outHop n (fieldOf .OUTn_CMD_SYNC v == 1) else s
  let s := if fieldOf .OUTn_CMD_RESTART v = 1 then s.restartOut n else s
  if fieldOf .OUTn_CMD_STOPSLEW v = 1 then s.stopSlew n else s

/-- A write of OUTn_SLEW (R115). -/
def State.writeOutSlew (s : State) (n : Fin 64) (v : Word) : State := (s.writeWord .OUTn_SLEW n v).endSlew n

/-- A write of OUTn_DELAY or OUTn_MINPER, which may move the next edge (R111, R113, R117). -/
def State.writeOutEdge (s : State) (n : Fin 64) (r : Reg) (v : Word) : State := (s.writeWord r n v).repredict n

/-- A commit of OUTn_TPER. -/
def State.writeTper (s : State) (n : Fin 64) (v : DWord) : State := (s.writePair .OUTn_TPER n v).checkOutCfg n

/-! ## Banks (R131, R132) -/

/-- The outputs of a bank, in turn. -/
def State.forBank (s : State) (b : Fin 8) (f : State → Fin 64 → State) : State :=
  s.forAll 8 (fun s k => f s ⟨8 * b + k, by omega⟩)

/-- VDD_OBb leaves or returns to its range (R129, R131, FSRC14). -/
def State.bankSupply (s : State) (b : Fin 8) (level : Fin 4) : State :=
  let was := s.bit .OBb_STAT_SUPPLY b
  let is := level != 0
  let changed := s.rd .OBb_STAT_VLEVEL b != level.val
  let s := (s.wrB .OBb_STAT_SUPPLY b is).wr .OBb_STAT_VLEVEL b level
  let s := if was != is then s.flag .OBb_EV_SUPPLY_CHG b else s
  if is then
    if was && !(changed && s.banks[b].supplyFrom.isSome) then s else s.setBank b { s.banks[b] with supplyFrom := some s.now }
  else
    let s := s.setBank b { s.banks[b] with supplyFrom := none }
    let s := s.forBank b (fun s n => s.squelchFor .OUTn_STAT_NOSUPPLY n)
    if was && (List.range 8).any (fun k => s.bit .OUTn_CFG_EN (8 * b + k)) then s.raise 14 { inst := b } else s

/-- The level has been stable for 1 ms: the bank's outputs may resume (R131). -/
def State.bankStable (s : State) (b : Fin 8) : State :=
  match s.banks[b].supplyFrom with
  | some f =>
    if f + 1000000000 ≤ s.now then
      let s := s.setBank b { s.banks[b] with supplyFrom := none }
      s.forBank b (fun s n => s.wr .OUTn_STAT_NOSUPPLY n 0)
    else s
  | none => s

/-- The output a bank TDC watches. -/
def State.btOut (s : State) (b : Fin 8) : Nat := 8 * b + s.rd .OBb_BTSEL_SEL b

/-- The result that OBb_BTMEAS returns: the one before where the latest formed in this SYS cycle (R28). -/
def State.btResult (s : State) (b : Fin 8) : Result :=
  let x := s.banks[b]
  let r : Result := ⟨s.rd .OBb_BTMEAS_SEQ b, s.bit .OBb_BTMEAS_VALID b, x.measAt, x.bterr, BitVec.ofNat 64 x.btmiss, 0⟩
  if r.valid && sameCycle x.measAt s.now then x.before else r

/-- A bank TDC gate ends with the mean error in 1/64 ps and the missed edges (R132): a result forms while the selected output
is RUNNING and no calibration run holds the TDC. The next gate starts, and with it a waiting calibration element (R357). -/
def State.btGateEnd (s : State) (b : Fin 8) (err : Int) (miss : Nat) : State :=
  match s.banks[b].gateFrom with
  | none => s
  | some f =>
    if !s.bit .OBb_BTSEL_EN b || s.now < f + (max 1 (s.rd .OBb_BTSEL_GATE b)) * 1000000000 then s
    else
      if s.run (s.btOut b) ≠ 2 || s.bit .CAL_STATE_RUN then (s.startGate b).calCheck
      else
        let err := s.bankMean b err
        let s := s.setBank b { gateFrom := some s.now, bterr := BitVec.ofNat 64 (fitSigned 10 64 err), btmiss := min miss 0xFFFFFFFF
                               measAt := s.now, before := s.btResult b, supplyFrom := s.banks[b].supplyFrom }
        let s := (s.wr .OBb_BTMEAS_SEQ b (s.rd .OBb_BTMEAS_SEQ b + 1)).wr .OBb_BTMEAS_VALID b 1
        let lim := s.rd .OBb_BTLIM b
        let excess := lim ≠ 0 && lim * 64 < err.natAbs
        -- FSRC50+b rises with its flags (R302)
        let rises := (excess && !s.bit .OBb_EV_BT_LIMIT b) || (0 < miss && !s.bit .OBb_EV_BT_MISS b)
        let s := if excess then s.flag .OBb_EV_BT_LIMIT b else s
        let s := if 0 < miss then s.flag .OBb_EV_BT_MISS b else s
        let s := if rises then s.raise (50 + b) { inst := b } else s
        (s.startGate b).calCheck

/-- A write of OBb_BTSEL restarts the gate (R132); after EN rises there is no result until the first gate ends (R28). -/
def State.writeBtsel (s : State) (b : Fin 8) (v : Word) : State :=
  let was := s.bit .OBb_BTSEL_EN b
  let s := s.writeWord .OBb_BTSEL b v
  let s := if !was && s.bit .OBb_BTSEL_EN b then s.wr .OBb_BTMEAS_VALID b 0 else s
  (s.startGate b).calCheck

end Sys2Proof.Machine
end

