-- ==== Sys2Proof/Machine/Sheafs.lean ====
section
/-!
DEFINITION. Sheafs (R120 to R124, R411, R412): membership, arming, the timing table, cancelling.
-/
namespace Sys2Proof.Machine

/-- The members of sheaf `k`, ascending. -/
def State.members (s : State) (k : Fin 16) : List (Fin 64) :=
  (List.finRange 64).filter (fun (n : Fin 64) => s.bitOf .SHk_MEMBERS k n)

/-- A hop concerns RATIO members only (R122). -/
def State.ratioMember (s : State) (n : Fin 64) : Bool := s.outMode n == 0

/-- A committed write of SHk_MEMBERS (R122): while IDLE; bits of outputs in another sheaf are ignored and set CONFLICT. -/
def State.writeMembers (s : State) (k : Fin 16) (v : DWord) : State :=
  if s.rd .SHk_STAT_STATE k ≠ 0 then s.flag .SHk_EV_WERR k
  else
    let others := (List.range 16).foldl (fun (acc j : Nat) => if j = k.val then acc else acc ||| s.rd .SHk_MEMBERS j) 0
    let taken := v.toNat &&& others
    (s.wr .SHk_MEMBERS k (v.toNat - taken)).wrB .SHk_STAT_CONFLICT k (taken != 0)

/-- Results of SHk_STAT (R137). -/
def shNone : Nat := 0
def shDone : Nat := 1
def shPartial : Nat := 2
def shSlipped : Nat := 3
def shCancelled : Nat := 4
def shLate : Nat := 5
def shBusy : Nat := 6
def shEmpty : Nat := 7
def shRatio : Nat := 8
def shRange : Nat := 9
def shTime : Nat := 10

/-- The command hops; it changes a phase. -/
def SheafOp.hops : SheafOp → Bool
  | .phase => false
  | _ => true
def SheafOp.moves : SheafOp → Bool
  | .hop => false
  | _ => true

/-- SHk_AT in ps of TOD. -/
def State.sheafAt (s : State) (k : Fin 16) : Rat := ((s.rd .SHk_AT_S k * 1000000000 + s.rd .SHk_AT_NS k) * 1000 : Nat)

/-- A member's OUTn_PHASE plus SHk_DPHASE lies within 48 bits. -/
def State.phaseFits (s : State) (k : Fin 16) (n : Fin 64) : Bool :=
  let x := s.rdI .OUTn_PHASE n + s.rdI .SHk_DPHASE k
  satSigned 48 x == x

/-- The arming tests of R123 in order, for the plane `p`: the first that fails gives its result; passing all gives E. -/
def State.armTest (s : State) (k : Fin 16) (op : SheafOp) (asap : Bool) (p : Fin 4) : Nat ⊕ Rat :=
  let now := s.tod p s.now
  let at_ := s.sheafAt k
  if s.rd .SHk_STAT_STATE k ≠ 0 then .inl shBusy
  else if (s.members k).isEmpty then .inl shEmpty
  else if 1000000000 ≤ s.rd .SHk_AT_NS k then .inl shTime
  else if op.hops && (s.members k).any (fun n => s.ratioMember n && !(s.shadowRatio n).valid) then .inl shRatio
  else if op.moves && (s.members k).any (fun n => !s.phaseFits k n) then .inl shRange
  else if now + (twoUs : Nat) ≤ at_ then .inr at_
  else if asap then .inr (now + (twoUs : Nat))
  else .inl shLate

/-- An arming command (R123): RESULT takes the failed test's value, or the command is ARMED and its members' shadow ratios
are copied (R120). -/
def State.arm (s : State) (k : Fin 16) (op : SheafOp) (sync asap : Bool) (p : Fin 4) : State :=
  let s := s.wr .SHk_CMD_PL k p
  match s.armTest k op asap p with
  | .inl r => s.wr .SHk_STAT_RESULT k r
  | .inr e =>
    let at_ := if s.tod p s.now + (twoUs : Nat) ≤ s.sheafAt k then s.sheafAt k else e
    let s := s.setSheaf k (some ⟨op, sync, p, e, at_, false, [], false, false, []⟩)
    let s := (s.wr .SHk_STAT_STATE k 1).wr .SHk_STAT_RESULT k shNone
    if op.hops then
      (s.members k).foldl (fun s n => if s.ratioMember n then s.issueHop n sync (some k) 0 else s) s
    else s

/-- CANCEL (R123). -/
def State.cancel (s : State) (k : Fin 16) : State :=
  match s.rd .SHk_STAT_STATE k with
  | 1 =>
    let s := (s.members k).foldl (fun s n =>
      let o := s.outs[n]
      let mine := fun (h : HopPend) => h.sheaf == some k.val
      if o.hop.any mine then (s.setOut n { o with hop := none }).wr .OUTn_STAT_PEND n 0
      else if o.hopNext.any mine then s.setOut n { o with hopNext := none }
      else s) s
    ((s.setSheaf k none).wr .SHk_STAT_STATE k 0).wr .SHk_STAT_RESULT k shCancelled
  | 2 => s.flag .SHk_EV_CANCEL_LATE k
  | _ => s

/-- A write of SHk_CMD (R123). -/
def State.writeSheafCmd (s : State) (k : Fin 16) (v : Word) : State :=
  let p : Fin 4 := Fin.ofNat 4 (fieldOf .SHk_CMD_PL v)
  let sync := fieldOf .SHk_CMD_SYNC v == 1
  let asap := fieldOf .SHk_CMD_ASAP v == 1
  match fieldOf .SHk_CMD_OP v with
  | 1 => s.arm k .hop sync asap p
  | 2 => s.arm k .phase sync asap p
  | 3 => s.arm k .hopPhase sync asap p
  | 4 => (s.wr .SHk_CMD_PL k p).cancel k
  | _ => s.wr .SHk_CMD_PL k p

/-- A sheaf's job and whether its plane's TOD has come within `d` ps of E; the TOD runs (R411). -/
def State.sheafDue (s : State) (j : SheafJob) (d : Rat) : Bool :=
  s.timebase && decide (j.e ≤ s.tod (Fin.ofNat 4 j.plane) s.now + d)

/-- E − 2 µs: FIXED (R123, step 1). -/
def State.fixSheaf (s : State) (k : Fin 16) : State :=
  match s.sheafs[k] with
  | some j =>
    if s.rd .SHk_STAT_STATE k = 1 && s.sheafDue j (twoUs : Nat) then
      (s.members k).foldl State.repredict (s.wr .SHk_STAT_STATE k 2)
    else s
  | none => s

/-- One member's phase commit at E − 100 ns (R412); with a hop a RATIO member waits for its first edge at the new ratio. -/
def State.phaseMember (s : State) (k : Fin 16) (e : Rat) (hops : Bool) (n : Fin 64) : State :=
  let old := s.rdI .OUTn_PHASE n
  let new := satSigned 48 (old + s.rdI .SHk_DPHASE k)
  let w : PhaseWait := ⟨e, old, (s.outs[n]).asStep, hops && s.ratioMember n⟩
  let s := s.wrI .OUTn_PHASE n new
  if s.outOn n then (s.setOut n { s.outs[n] with phaseFrom := some w }).startMove n
  else (s.setOut n { s.outs[n] with phi := (new : Rat), asStep := false, phaseFrom := none }).showPhase n

/-- E − 100 ns: the members' phase commits (R123, step 2; R412), but for a member whose change stands since an earlier E (R124). -/
def State.placeSheaf (s : State) (k : Fin 16) : State :=
  match s.sheafs[k] with
  | some j =>
    if s.rd .SHk_STAT_STATE k = 2 && !j.placed && s.sheafDue j 100000 then
      let e := s.devInstant (Fin.ofNat 4 j.plane) j.e
      let mem := if j.op.moves then s.members k else []
      let s := s.setSheaf k (some { j with placed := true, phased := mem.map (fun n => n.val) })
      (mem.filter (fun n => !j.phased.contains n.val)).foldl (fun s n => s.phaseMember k e j.op.hops n) s
    else s
  | none => s

/-- E: every RATIO member changes ratio (R123, step 3); those that cannot keep theirs (R124). -/
def State.effectSheaf (s : State) (k : Fin 16) : State :=
  match s.sheafs[k] with
  | some j =>
    if s.rd .SHk_STAT_STATE k = 2 && j.placed && !j.effective && s.sheafDue j 0 then
      let e := s.devInstant (Fin.ofNat 4 j.plane) j.e
      let r := if j.op.hops then
          (s.members k).foldl (fun (a : State × List Nat) n =>
            -- an immediate hop issued before the sheaf's is done by now
            let u := a.1.hopNow n
            match u.outs[n].hop with
            | some h => if h.sheaf = some k.val then
                let b := u.applyHop n e
                (b.1, if b.2 then a.2 else a.2 ++ [n.val]) else (u, a.2)
            | none => (u, a.2)) (s, [])
        else (s, [])
      let s := r.1.setSheaf k (some { j with effective := true, failed := r.2 })
      let mem := s.members k
      (s.calTakeElems (fun i => mem.any (fun n => i == 25 + n) && j.op.hops)).calCheck
    else s
  | none => s

/-- E + 200 ns: IDLE, the result, DONE_AT, the flags and the event entry (R123, step 6). -/
def State.doneSheaf (s : State) (k : Fin 16) : State :=
  match s.sheafs[k] with
  | some j =>
    if j.effective && s.sheafDue j (-200000) then
      let res := if !j.failed.isEmpty then shPartial else if j.slipped then shSlipped else shDone
      let ns := (j.e / 1000).floor.toNat
      let s := (s.setSheaf k none).wr .SHk_STAT_STATE k 0
      let s := ((s.wr .SHk_STAT_RESULT k res).wr .SHk_DONE_AT_S k (ns / 1000000000)).wr .SHk_DONE_AT_NS k (ns % 1000000000)
      let s := if j.op.hops then
          (s.members k).foldl (fun s n => if !s.ratioMember n then s
            else if j.failed.contains n.val then s.flag .OUTn_EV_HOP_FAIL n else s.flag .OUTn_EV_HOP_DONE n) s
        else s
      let s := (s.flag .SHk_EV_DONE k).pulse (32 + k)
      s.log (0x60 + k) (s.regVal .SHk_EV k)
    else s
  | none => s

end Sys2Proof.Machine
end

