-- ==== Sys2Proof/Machine/Aplls.lean ====
section
/-!
DEFINITION. The two APLLs (R85 to R103): configuration, band search and lock, departure and loss, the trim table, the
cross-phase monitor.
-/
namespace Sys2Proof.Machine

/-- States of APLLx_STAT (R103). -/
def apOff : Nat := 0
def apBandsel : Nat := 1
def apAcq : Nat := 2
def apLocked : Nat := 3
def apLost : Nat := 4
def apFail : Nat := 5
def apCfgErr : Nat := 6
def apTuneHold : Nat := 7

/-- State of an APLL. -/
def State.ap (s : State) (x : Fin 2) : Nat := s.rd .APLLx_STAT_STATE x

/-- Number of PIFDs that draw on an APLL (R103, R129). -/
def State.apUsers (s : State) (x : Fin 2) : Nat :=
  (List.finRange 64).countP (fun (n : Fin 64) => s.outOn n && s.outApll n == x && !s.bit .OUTn_STAT_NOAPLL n)

/-- The SWAP_OK mask of an APLL (R99, R103), squelched outputs included (entry 104). -/
def State.swapOkMask (s : State) (x : Fin 2) : Nat :=
  (List.finRange 64).foldl (fun acc (n : Fin 64) =>
    if s.outOn n && s.outApll n == x && s.swapOk n then acc + 2 ^ n.val else acc) 0

/-- The ranges of R85 hold. -/
def State.apllCfgOk (s : State) (x : Fin 2) : Bool :=
  let f := s.fPfd x
  let n := s.rd .APLLx_N x
  s.rd .APLLx_CTRL_REFMUL x != 3 && 1 ≤ s.rd .APLLx_DEN x && s.rd .APLLx_NUM x < s.rd .APLLx_DEN x
    && 8 ≤ n && n ≤ 127 && decide (40000000 ≤ f) && decide (f ≤ 250000000)
    && decide (11000000000 ≤ s.fVco x) && decide (s.fVco x ≤ 13200000000)

/-- XO has passed the coarse qualification and is not lost (R77, R88). -/
def State.xoOk (s : State) : Bool := s.rd .XO_STAT_COARSE == 1 && !s.bit .XO_MON_LOST

/-- Step 1 of R88: BANDSEL, tuning at mid-rail. -/
def State.startLock (s : State) (x : Fin 2) (retry : Bool) : State :=
  let a := s.aplls[x]
  let s := s.setApll x { a with lockFrom := s.now, retried := retry, departed := false }
  (s.wr .APLLx_STAT_STATE x apBandsel).wr .APLLx_STAT_VT_MARGIN x 0

/-- EN from 0 to 1 (R86, R88): the ranges are checked; the lock starts once XO is qualified. -/
def State.enableApll (s : State) (x : Fin 2) : State :=
  if !s.apllCfgOk x then (s.wr .APLLx_STAT_STATE x apCfgErr).flag .APLLx_EV_CFG_ERR x
  else if s.xoOk then s.startLock x false
  else s.setApll x { s.aplls[x] with lockFrom := s.now, retried := false, departed := false }

/-- The outputs that draw on an APLL, ascending. -/
def State.usersOf (s : State) (x : Fin 2) : List (Fin 64) :=
  (List.finRange 64).filter (fun (n : Fin 64) => s.outOn n && s.outApll n == x && !s.bit .OUTn_STAT_NOAPLL n)

/-- Every output that R98 allows swaps away; a software swap that was waiting is discarded in favour of the departure's, and
reported (R91, R100). -/
def State.departUsers (s : State) (x : Fin 2) : State :=
  (s.usersOf x).foldl (fun s n =>
    if s.maySwap n then
      let s := if (s.outs[n]).swap.any (fun w => !w.depart) then s.flag .OUTn_EV_SRC_DISC n else s
      s.startSwap n true
    else s) s

/-- The taps are withdrawn: an output in the course of a swap that it still may make completes it, another goes to its squelch state (R91, R101,
R129). -/
def State.withdrawTaps (s : State) (x : Fin 2) : State :=
  (s.usersOf x).foldl (fun s n => if s.outs[n].swap.isSome && s.maySwap n then s.completeSwap n else s.loseApll n) s

/-- EN written 0 (R86, R101): every output that may swaps, the APLL stops, the others squelch. -/
def State.disableApll (s : State) (x : Fin 2) : State :=
  let s := (s.usersOf x).foldl (fun s n =>
    if s.outs[n].swap.isNone && s.maySwap n then s.startSwap n false else s) s
  let s := s.withdrawTaps x
  let s := s.setApll x { ApllState.init with gain := s.aplls[x].gain, taps := s.aplls[x].taps }
  (s.wr .APLLx_STAT_STATE x apOff).wr .APLLx_STAT_VT_MARGIN x 0

/-- A relock started by RELOCK or by AUTO_RELOCK: of an idle APLL, while XO is there (R77, R88, R93). -/
def State.relock (s : State) (x : Fin 2) : State :=
  if s.apUsers x = 0 && s.xoOk then s.startLock x false else s

/-- A write of APLLx_CTRL (R86, R88, R101). REFMUL is written only while EN is 0; a word that repeats the value it holds is no write of
it (entry 137). -/
def State.writeApllCtrl (s : State) (x : Fin 2) (v : Word) : State :=
  let was := s.bit .APLLx_CTRL_EN x
  let mul := s.rd .APLLx_CTRL_REFMUL x
  let s := s.writeWord .APLLx_CTRL x v
  let s := if was && s.rd .APLLx_CTRL_REFMUL x != mul then
      (s.wr .APLLx_CTRL_REFMUL x mul).flag .APLLx_EV_CFG_ERR x else s
  let is := s.bit .APLLx_CTRL_EN x
  if is && !was then s.enableApll x
  else if was && !is then s.disableApll x
  else if is && fieldOf .APLLx_CTRL_RELOCK v = 1 && (s.ap x = apLost || s.ap x = apFail) then s.relock x
  else s

/-- A write of N, NUM or DEN: ignored with CFG_ERR while EN is 1 (R86). -/
def State.writeApllCfg (s : State) (x : Fin 2) (r : Reg) (v : Word) : State :=
  if s.bit .APLLx_CTRL_EN x then s.flag .APLLx_EV_CFG_ERR x else s.writeWord r x v

/-- The band search ends: ACQ, with the band found, which is open, or the one asked for (R88, R410). -/
def State.bandselDone (s : State) (x : Fin 2) : State :=
  if s.ap x = apBandsel && s.xoOk then
    let man := s.bit .APLLx_CTRL_BANDSEL_MAN x
    let band := if man then s.rd .APLLx_CTRL_BAND x else Config.bandFound s.draw
    let s := if man then s else s.fresh.2
    (s.wr .APLLx_STAT_BAND x band).wr .APLLx_STAT_STATE x apAcq
  else s

/-- The start-up step that waits for the APLLs has ended: every enabled one is past its lock (R362, step 5). -/
def State.timingUp (s : State) : State :=
  let done (x : Fin 2) : Bool := !s.bit .APLLx_CTRL_EN x || s.ap x == apLocked || s.ap x == apFail || s.ap x == apCfgErr
  if s.rd .DEV_STATE_TIMING = 3 && done 0 && done 1 then s.setDev .DEV_STATE_TIMING 4 else s

/-- LOCKED: the taps are released, and outputs that had lost this APLL anchor anew (R88, R129). -/
def State.lockAchieved (s : State) (x : Fin 2) : State :=
  if s.ap x = apAcq && s.xoOk then
    let s := s.setApll x { s.aplls[x] with departed := false, retried := false }
    let s := ((s.wr .APLLx_STAT_STATE x apLocked).flag .APLLx_EV_LOCK x).pulse (48 + x)
    let s := s.forAll 64 (fun s n =>
      if s.bit .OUTn_STAT_NOAPLL n && s.outApll n == x then (s.anchor n).wr .OUTn_STAT_NOAPLL n 0 else s)
    s.timingUp
  else s

/-- The APLL loss source and line of an entry to LOST or FAIL (R88, R91, R171, R299); a calibration run ends (R352). -/
def State.apllLoss (s : State) (x : Fin 2) (st : Nat) : State :=
  let s := ((s.wr .APLLx_STAT_STATE x st).flag .APLLx_EV_LOST x).pulse (48 + x)
  let s := s.withdrawTaps x
  (s.calAbort).raise (4 + x) { inst := x }

/-- 2 ms after step 1 without lock: FAIL (R88); a second failure leaves it there, with DEV_STATE.ERR (R367). -/
def State.lockTimeout (s : State) (x : Fin 2) : State :=
  let a := s.aplls[x]
  if (s.ap x = apBandsel || s.ap x = apAcq) && a.lockFrom + 2000000000 ≤ s.now then
    let second := a.retried
    let s := s.setApll x { a with failAt := s.now }
    let s := s.apllLoss x apFail
    let s := if second && s.rd .DEV_STATE_ERR != 4 then s.setDev .DEV_STATE_ERR 3 else s
    s.timingUp
  else s

/-- 1 ms after a first failure the search restarts once (R88); not while XO is lost (R77). -/
def State.apllRetry (s : State) (x : Fin 2) : State :=
  let a := s.aplls[x]
  if s.ap x = apFail && !a.retried && a.failAt + 1000000000 ≤ s.now && s.xoOk then s.startLock x true else s

/-- The departure criterion on the latest detector errors, in 1/64 ps: |error| > DEP_THR, in units of 0.25 ps, at DEP_CNT consecutive
cycles; 0 acts as 1 in each (R91, R103). -/
def State.departs (s : State) (x : Fin 2) (errs : List Int) : Bool :=
  let k := max 1 (s.rd .APLLx_DEP_DEP_CNT x)
  let thr := max 1 (s.rd .APLLx_DEP_DEP_THR x) * 16
  k ≤ errs.length && (errs.drop (errs.length - k)).all (fun e => thr < e.natAbs)

/-- The lock-lost criterion: |error| > 200 ps at four cycles within the latest 64 (R91). -/
def losesLock (errs : List Int) : Bool :=
  4 ≤ (errs.drop (errs.length - 64)).countP (fun e => 12800 < e.natAbs)

/-- A departure (R91, R98, R100); where the other APLL departs in the same detector cycle, no swap takes place. -/
def State.apllDepart (s : State) (x : Fin 2) (errs : Vector (List Int) 2) : State :=
  let one (s : State) (y : Fin 2) : State :=
    let s := s.setApll y { s.aplls[y] with departed := true }
    (s.flag .APLLx_EV_DEPART y).pulse (48 + y)
  if s.ap x ≠ apLocked || !s.departs x errs[x] then s
  else
    let both := s.ap (1 - x) = apLocked && s.departs (1 - x) errs[1 - x]
    let s := one s x
    let s := if both then one s (1 - x) else s
    let s := if both then s else s.departUsers x
    let s := (s.calAbort).raise (2 + x) { inst := x }
    if both then s.raise (2 + (1 - x : Fin 2)) { inst := (1 - x : Fin 2) } else s

/-- A locked APLL loses lock (R91). -/
def State.lockLost (s : State) (x : Fin 2) (errs : List Int) : State :=
  if s.ap x = apLocked && losesLock errs then s.apllLoss x apLost else s

/-- AUTO_RELOCK: a LOST APLL relocks once no PIFD draws on it (R93). -/
def State.autoRelock (s : State) (x : Fin 2) : State :=
  if s.ap x = apLost && s.bit .APLLx_CTRL_AUTO_RELOCK x then s.relock x else s

/-- The tuning of an APLL lies within 10 % of a rail, or no longer does (R90); in BANDSEL it is held at mid-rail, and an APLL that
is off has none. -/
def State.vtNow (s : State) (x : Fin 2) (near : Bool) : State :=
  let st := s.ap x
  let near := near && st ≠ apOff && st ≠ apCfgErr && st ≠ apBandsel
  if near && !s.bit .APLLx_STAT_VT_MARGIN x then (s.wr .APLLx_STAT_VT_MARGIN x 1).flag .APLLx_EV_VT_MARGIN x
  else s.wrB .APLLx_STAT_VT_MARGIN x near

/-- The tuning of a locked APLL comes within 10 % of a rail (R90). -/
def State.vtMargin (s : State) (x : Fin 2) : State := if s.ap x = apLocked then s.vtNow x true else s

/-- XO is lost (R76, R77): LOST, TUNE_HOLD in BANDSEL, ACQ and LOCKED, FSRC0, line 50; a calibration run ends (R352). -/
def State.xoLoss (s : State) : State :=
  if s.bit .XO_MON_LOST || !s.timebase then s
  else
    let s := ((s.wr .XO_MON_LOST 0 1).flag .XO_MON_LOST_EV 0).pulse 50
    let s := s.forAll 2 (fun s x =>
      if s.ap x = apBandsel || s.ap x = apAcq || s.ap x = apLocked then s.wr .APLLx_STAT_STATE x apTuneHold else s)
    (s.calAbort).raise 0

/-- XO is back (R77): each APLL in TUNE_HOLD locks afresh; one that waited for XO starts (R88). -/
def State.xoBack (s : State) : State :=
  let s := if s.bit .XO_MON_LOST then (s.wr .XO_MON_LOST 0 0).pulse 50 else s
  s.forAll 2 (fun s x =>
    if s.ap x = apTuneHold then s.startLock x false
    else if s.ap x = apOff && s.bit .APLLx_CTRL_EN x then s.startLock x false
    else s)

/-- A junction sensor reads above 110 °C (FSRC15). -/
def State.hot (s : State) : Bool := decide (440 < s.rdI .APLLx_TEMP 0) || decide (440 < s.rdI .APLLx_TEMP 1)

/-- The 1 ms step (R90, R91, R96, R103): Tj, the largest error and the tuning are read, the corrections slew; FSRC15 as the first
sensor passes 110 °C; a waiting calibration may end (R357). -/
def State.trimUpdate (s : State) (x : Fin 2) (tj : Int) (pherr tune : Nat) : State :=
  let was := s.hot
  let s := s.wrI .APLLx_TEMP x (satSigned 12 tj)
  let s := s.wr .APLLx_PHERR x (min pherr 0xFFFFFF)
  let s := s.vtNow x (tune ≤ 100 || 900 ≤ tune)
  let s := (s.slewTrims x).calCheck
  if !was && s.hot then s.raise 15 { inst := x } else s

/-- A write of the trim table: while FREEZE is 1, otherwise ignored with WERR (R97). `n` is the entry's number. -/
def State.writeTrim (s : State) (x : Fin 2) (r : Reg) (n : Nat) (v : Word) : State :=
  if s.bit .APLLx_TRIM_CTRL_FREEZE x then s.writeWord r n v else s.flag .APLLx_TRIM_CTRL_WERR x

/-- The cross-phase monitor's 1 ms result; APLL_B's is the negation of APLL_A's (R98, R103). -/
def State.xphMeasure (s : State) (xph : Int) : State :=
  (s.wr .APLLx_XPH 0 (fitSigned 8 64 xph)).wr .APLLx_XPH 1 (fitSigned 9 64 (-xph))

end Sys2Proof.Machine
end

