-- ==== Sys2Proof/Machine/P256.lean ====
section
/-!
DEFINITION. The curve P-256: points, ECDH, ECDSA (PRESUMED SP 800-186 and FIPS 186: the spec names them and does not define
them).
-/
namespace Sys2Proof.Machine

/-- Field prime, order, coefficient b and base point. -/
def ecP : Nat := 2 ^ 256 - 2 ^ 224 + 2 ^ 192 + 2 ^ 96 - 1
def ecN : Nat := 0xffffffff00000000ffffffffffffffffbce6faada7179e84f3b9cac2fc632551
def ecB : Nat := 0x5ac635d8aa3a93e7b3ebbd55769886bc651d06b0cc53b0f63bce3c3e27d2604b
def ecGx : Nat := 0x6b17d1f2e12c4247f8bce6e563a440f277037d812deb33a0f4a13945d898c296
def ecGy : Nat := 0x4fe342e2fe1a7f9b8ee7eb4a7c0f9e162bce33576b315ececbb6406837bf51f5

/-- A power modulo `m`, over `n` bits of the exponent from the highest. -/
def powMod (m : Nat) : Nat → Nat → Nat → Nat → Nat
  | 0, _, _, acc => acc
  | n + 1, b, e, acc =>
    let sq := acc * acc % m
    powMod m n b e (if e.testBit n then sq * b % m else sq)

/-- Inverse modulo a 256-bit prime. -/
def invMod (m a : Nat) : Nat := powMod m 256 (a % m) (m - 2) 1

/-- A point: none is the point at infinity. -/
abbrev Point := Option (Nat × Nat)

def ecG : Point := some (ecGx, ecGy)

/-- The point satisfies the curve's equation, its coordinates below the prime. -/
def onCurve (x y : Nat) : Bool :=
  decide (x < ecP) && decide (y < ecP) && (y * y % ecP == (x * x * x + (ecP - 3) * x + ecB) % ecP)

/-- The third point of a line through (x1, y1) of slope `l`, with second abscissa x2, mirrored. -/
def ecThird (l x1 y1 x2 : Nat) : Point :=
  let x := (l * l + 2 * ecP - x1 - x2) % ecP
  some (x, (l * (x1 + ecP - x) + ecP - y1) % ecP)

/-- Addition. -/
def ecAdd (a b : Point) : Point :=
  match a, b with
  | none, q => q
  | p, none => p
  | some (x1, y1), some (x2, y2) =>
    if x1 = x2 then
      if (y1 + y2) % ecP = 0 then none
      else ecThird ((3 * x1 * x1 + ecP - 3) % ecP * invMod ecP (2 * y1) % ecP) x1 y1 x2
    else ecThird ((y2 + ecP - y1) % ecP * invMod ecP (x2 + ecP - x1) % ecP) x1 y1 x2

/-- Multiplication over `n` bits of the scalar from the highest. -/
def ecMulBits : Nat → Nat → Point → Point → Point
  | 0, _, _, acc => acc
  | n + 1, k, p, acc =>
    let d := ecAdd acc acc
    ecMulBits n k p (if k.testBit n then ecAdd d p else d)

def ecMul (k : Nat) (p : Point) : Point := ecMulBits 256 k p none

/-- The y coordinate of abscissa `x` with the given parity, where `x` is on the curve. -/
def liftX (x : Nat) (odd : Bool) : Option Nat :=
  let y := powMod ecP 256 ((x * x * x + (ecP - 3) * x + ecB) % ecP) ((ecP + 1) / 4) 1
  let y := if (y % 2 == 1) == odd then y else (ecP - y) % ecP
  if onCurve x y && ((y % 2 == 1) == odd) then some y else none

/-- ECDSA verification of (r, s) over a digest under the key (x, y). -/
def ecdsaVerify (x y : Nat) (digest : List Byte) (r s : Nat) : Bool :=
  if !onCurve x y || r = 0 || ecN ≤ r || s = 0 || ecN ≤ s then false
  else
    let z := beNat digest
    let w := invMod ecN s
    match ecAdd (ecMul (z % ecN * w % ecN) ecG) (ecMul (r * w % ecN) (some (x, y))) with
    | some (px, _) => px % ecN == r
    | none => false

/-- ECDSA signature over a digest under the scalar `d` with the per-message scalar `k`. -/
def ecdsaSign (d : Nat) (digest : List Byte) (k : Nat) : Nat × Nat :=
  match ecMul k ecG with
  | some (px, _) =>
    let r := px % ecN
    (r, invMod ecN k * ((beNat digest + r * d) % ecN) % ecN)
  | none => (0, 0)

end Sys2Proof.Machine
end

