-- ==== Sys2Proof/Machine/Aes.lean ====
section
/-!
DEFINITION. AES (128 and 256), AES-GCM and AES-SIV (PRESUMED FIPS 197, NIST SP 800-38B and 800-38D, and RFC 5297: the spec
names them and does not define them).
-/
namespace Sys2Proof.Machine

/-! ## AES -/

def aesS0 : List Byte := [0x63, 0x7c, 0x77, 0x7b, 0xf2, 0x6b, 0x6f, 0xc5, 0x30, 0x01, 0x67, 0x2b, 0xfe, 0xd7, 0xab, 0x76]
def aesS1 : List Byte := [0xca, 0x82, 0xc9, 0x7d, 0xfa, 0x59, 0x47, 0xf0, 0xad, 0xd4, 0xa2, 0xaf, 0x9c, 0xa4, 0x72, 0xc0]
def aesS2 : List Byte := [0xb7, 0xfd, 0x93, 0x26, 0x36, 0x3f, 0xf7, 0xcc, 0x34, 0xa5, 0xe5, 0xf1, 0x71, 0xd8, 0x31, 0x15]
def aesS3 : List Byte := [0x04, 0xc7, 0x23, 0xc3, 0x18, 0x96, 0x05, 0x9a, 0x07, 0x12, 0x80, 0xe2, 0xeb, 0x27, 0xb2, 0x75]
def aesS4 : List Byte := [0x09, 0x83, 0x2c, 0x1a, 0x1b, 0x6e, 0x5a, 0xa0, 0x52, 0x3b, 0xd6, 0xb3, 0x29, 0xe3, 0x2f, 0x84]
def aesS5 : List Byte := [0x53, 0xd1, 0x00, 0xed, 0x20, 0xfc, 0xb1, 0x5b, 0x6a, 0xcb, 0xbe, 0x39, 0x4a, 0x4c, 0x58, 0xcf]
def aesS6 : List Byte := [0xd0, 0xef, 0xaa, 0xfb, 0x43, 0x4d, 0x33, 0x85, 0x45, 0xf9, 0x02, 0x7f, 0x50, 0x3c, 0x9f, 0xa8]
def aesS7 : List Byte := [0x51, 0xa3, 0x40, 0x8f, 0x92, 0x9d, 0x38, 0xf5, 0xbc, 0xb6, 0xda, 0x21, 0x10, 0xff, 0xf3, 0xd2]
def aesS8 : List Byte := [0xcd, 0x0c, 0x13, 0xec, 0x5f, 0x97, 0x44, 0x17, 0xc4, 0xa7, 0x7e, 0x3d, 0x64, 0x5d, 0x19, 0x73]
def aesS9 : List Byte := [0x60, 0x81, 0x4f, 0xdc, 0x22, 0x2a, 0x90, 0x88, 0x46, 0xee, 0xb8, 0x14, 0xde, 0x5e, 0x0b, 0xdb]
def aesS10 : List Byte := [0xe0, 0x32, 0x3a, 0x0a, 0x49, 0x06, 0x24, 0x5c, 0xc2, 0xd3, 0xac, 0x62, 0x91, 0x95, 0xe4, 0x79]
def aesS11 : List Byte := [0xe7, 0xc8, 0x37, 0x6d, 0x8d, 0xd5, 0x4e, 0xa9, 0x6c, 0x56, 0xf4, 0xea, 0x65, 0x7a, 0xae, 0x08]
def aesS12 : List Byte := [0xba, 0x78, 0x25, 0x2e, 0x1c, 0xa6, 0xb4, 0xc6, 0xe8, 0xdd, 0x74, 0x1f, 0x4b, 0xbd, 0x8b, 0x8a]
def aesS13 : List Byte := [0x70, 0x3e, 0xb5, 0x66, 0x48, 0x03, 0xf6, 0x0e, 0x61, 0x35, 0x57, 0xb9, 0x86, 0xc1, 0x1d, 0x9e]
def aesS14 : List Byte := [0xe1, 0xf8, 0x98, 0x11, 0x69, 0xd9, 0x8e, 0x94, 0x9b, 0x1e, 0x87, 0xe9, 0xce, 0x55, 0x28, 0xdf]
def aesS15 : List Byte := [0x8c, 0xa1, 0x89, 0x0d, 0xbf, 0xe6, 0x42, 0x68, 0x41, 0x99, 0x2d, 0x0f, 0xb0, 0x54, 0xbb, 0x16]

/-- The S-box, by rows. -/
def aesRows : List (List Byte) :=
  [aesS0, aesS1, aesS2, aesS3, aesS4, aesS5, aesS6, aesS7] ++ [aesS8, aesS9, aesS10, aesS11, aesS12, aesS13, aesS14, aesS15]

def aesSub (b : Byte) : Byte := byteAt (aesRows.getD (b.toNat / 16) []) (b.toNat % 16)

/-- Multiplication by x in GF(2⁸). -/
def xtime (b : Byte) : Byte := if b.msb then (b <<< 1) ^^^ 0x1B else b <<< 1

/-- Strings added bit by bit, to the shorter one's length. -/
def xorBytes (a b : List Byte) : List Byte := a.zipWith (· ^^^ ·) b

/-- The key schedule: words of 4 bytes, newest first; `nk` words of key, `n` words to come, `i` the next index. -/
def aesExpand (nk : Nat) : Nat → Nat → Byte → List (List Byte) → List (List Byte)
  | 0, _, _, l => l
  | n + 1, i, rcon, l =>
    let t := l.headD []
    let back := l.getD (nk - 1) []
    if i % nk = 0 then
      let r := (t.drop 1 ++ t.take 1).map aesSub
      let r := xorBytes r [rcon, 0, 0, 0]
      aesExpand nk n (i + 1) (xtime rcon) (xorBytes back r :: l)
    else if 6 < nk && i % nk = 4 then aesExpand nk n (i + 1) rcon (xorBytes back (t.map aesSub) :: l)
    else aesExpand nk n (i + 1) rcon (xorBytes back t :: l)

/-- Words of 4 bytes of a string. -/
def chunks (k : Nat) : Nat → List Byte → List (List Byte)
  | 0, _ => []
  | n + 1, l => l.take k :: chunks k n (l.drop k)

/-- The round keys of a 16- or 32-byte key, 16 bytes each, first to last. -/
def aesKeys (key : List Byte) : List (List Byte) :=
  let nk := key.length / 4
  let rounds := nk + 6
  let w := (aesExpand nk (4 * (rounds + 1) - nk) nk 1 (chunks 4 nk key).reverse).reverse
  chunks 16 (rounds + 1) w.flatten

/-- ShiftRows on the 16 bytes of a state, in columns. -/
def shiftRows (s : List Byte) : List Byte :=
  (List.range 16).map (fun i => byteAt s ((i % 4 + 4 * ((i / 4 + i % 4) % 4))))

/-- MixColumns of one column. -/
def mixColumn (c : List Byte) : List Byte :=
  let b := fun (i : Nat) => byteAt c (i % 4)
  (List.range 4).map (fun i => xtime (b i) ^^^ (xtime (b (i + 1)) ^^^ b (i + 1)) ^^^ b (i + 2) ^^^ b (i + 3))

/-- The rounds after the first key addition. -/
def aesRounds : List (List Byte) → List Byte → List Byte
  | [], s => s
  | [k], s => xorBytes (shiftRows (s.map aesSub)) k
  | k :: rest, s => aesRounds rest (xorBytes ((chunks 4 4 (shiftRows (s.map aesSub))).flatMap mixColumn) k)

/-- One block encrypted under a key of 16 or 32 bytes. -/
def aesEnc (key block : List Byte) : List Byte :=
  match aesKeys key with
  | [] => block
  | k :: rest => aesRounds rest (xorBytes block k)

/-! ## GCM -/

/-- A 16-byte block as a 128-bit number, first byte highest. -/
def blockBits (b : List Byte) : BitVec 128 := BitVec.ofNat 128 (beNat b)

/-- Multiplication in the field of GHASH: `n` bits of `x` still to take, from its highest. -/
def ghashMul : Nat → BitVec 128 → BitVec 128 → BitVec 128 → BitVec 128
  | 0, _, _, z => z
  | n + 1, x, v, z =>
    let z := if x.getLsbD n then z ^^^ v else z
    let v := if v.getLsbD 0 then (v >>> 1) ^^^ (0xE1#128 <<< 120) else v >>> 1
    ghashMul n x v z

/-- A string padded with zeros to whole blocks. -/
def padBlocks (l : List Byte) : List Byte := l ++ List.replicate ((16 - l.length % 16) % 16) 0

/-- GHASH over whole blocks. -/
def ghash (h : BitVec 128) (l : List Byte) : BitVec 128 :=
  (chunks 16 (l.length / 16) l).foldl (fun y b => ghashMul 128 (y ^^^ blockBits b) h 0) 0

/-- Counter mode: blocks from counter block `c`, its low `w` bits counting. -/
def ctrStream (key : List Byte) (w : Nat) : Nat → Nat → List Byte
  | 0, _ => []
  | n + 1, c => aesEnc key (beBytes 16 c) ++ ctrStream key w n (c / 2 ^ w * 2 ^ w + (c + 1) % 2 ^ w)

/-- A text under counter mode. -/
def ctrCrypt (key : List Byte) (w c : Nat) (text : List Byte) : List Byte :=
  xorBytes text (ctrStream key w ((text.length + 15) / 16) c)

/-- The GCM tag over AAD and ciphertext. -/
def gcmTag (key iv aad ct : List Byte) : List Byte :=
  let h := blockBits (aesEnc key (List.replicate 16 0))
  let s := ghash h (padBlocks aad ++ padBlocks ct ++ beBytes 8 (8 * aad.length) ++ beBytes 8 (8 * ct.length))
  xorBytes (beBytes 16 s.toNat) (aesEnc key (iv ++ [0, 0, 0, 1]))

/-- GCM with a 12-byte IV: ciphertext and tag. -/
def gcmSeal (key iv aad text : List Byte) : List Byte × List Byte :=
  let ct := ctrCrypt key 32 (beNat (iv ++ [0, 0, 0, 2])) text
  (ct, gcmTag key iv aad ct)

/-- GCM opened: the plaintext, and whether the tag verifies. -/
def gcmOpen (key iv aad ct tag : List Byte) : List Byte × Bool :=
  (ctrCrypt key 32 (beNat (iv ++ [0, 0, 0, 2])) ct, gcmTag key iv aad ct == tag)

/-! ## CMAC and SIV -/

/-- Doubling in the field of CMAC. -/
def dbl (b : List Byte) : List Byte :=
  let x := blockBits b
  beBytes 16 (if x.msb then (x <<< 1) ^^^ 0x87#128 else x <<< 1).toNat

/-- CBC over whole blocks from a chaining value. -/
def cbcMac (key iv l : List Byte) : List Byte :=
  (chunks 16 (l.length / 16) l).foldl (fun y b => aesEnc key (xorBytes y b)) iv

/-- AES-CMAC. -/
def cmac (key m : List Byte) : List Byte :=
  let k1 := dbl (aesEnc key (List.replicate 16 0))
  let zero := List.replicate 16 0
  if m.length ≠ 0 && m.length % 16 = 0 then
    let n := m.length - 16
    cbcMac key zero (m.take n ++ xorBytes (m.drop n) k1)
  else
    let n := m.length / 16 * 16
    let last := m.drop n ++ [0x80] ++ List.replicate (15 - m.length % 16) 0
    cbcMac key zero (m.take n ++ xorBytes last (dbl k1))

/-- S2V over associated data components and a text. -/
def s2v (key : List Byte) (ad : List (List Byte)) (text : List Byte) : List Byte :=
  let d := ad.foldl (fun d a => xorBytes (dbl d) (cmac key a)) (cmac key (List.replicate 16 0))
  if 16 ≤ text.length then
    let n := text.length - 16
    cmac key (text.take n ++ xorBytes (text.drop n) d)
  else cmac key (xorBytes (dbl d) (text ++ [0x80] ++ List.replicate (15 - text.length) 0))

/-- The first counter block of SIV: bits 31 and 63 of V cleared. -/
def sivCounter (v : List Byte) : Nat := (blockBits v &&& ~~~(0x8000000080000000#128)).toNat

/-- AEAD_AES_SIV_CMAC_256: V and ciphertext. The nonce is the last associated data component. -/
def sivSeal (key : List Byte) (ad : List (List Byte)) (text : List Byte) : List Byte × List Byte :=
  let v := s2v (key.take 16) ad text
  (v, ctrCrypt (key.drop 16) 128 (sivCounter v) text)

/-- AEAD_AES_SIV_CMAC_256 opened: the plaintext, and whether it verifies. -/
def sivOpen (key : List Byte) (ad : List (List Byte)) (v ct : List Byte) : List Byte × Bool :=
  let p := ctrCrypt (key.drop 16) 128 (sivCounter v) ct
  (p, s2v (key.take 16) ad p == v)

end Sys2Proof.Machine
end

