-- ==== Sys2Proof/Machine/Mailbox.lean ====
section
/-!
DEFINITION. The mailboxes (R280 to R290): ends and views, the lock, messages, the timeout, end resets.
-/
namespace Sys2Proof.Machine

/-! ## Ends (R280, R282) -/

/-- An end code as R280 gives it; 8 to 14 act as 0. -/
def endCode (c : Nat) : Nat := if 8 ≤ c ∧ c ≤ 14 then 0 else c

/-- END0 or END1 of a channel. -/
def State.mbEndCode (s : State) (n : Fin 16) (i : Fin 2) : Nat :=
  endCode (s.rd (if i = 0 then .MBn_BIND_END0 else .MBn_BIND_END1) n)

/-- The master with identity `m` belongs to the end coded `c`. -/
def endHas (c m : Nat) : Bool := c ≠ 0 && (c == m || (c == 15 && (m == 1 || m == 2)))

/-- The end of channel `n` that a master is (R282). -/
def State.mbEndOf (s : State) (n : Fin 16) (m : Nat) : Option (Fin 2) :=
  if endHas (s.mbEndCode n 0) m then some 0
  else if endHas (s.mbEndCode n 1) m then some 1
  else none

/-- The other end. -/
def peerEnd (i : Fin 2) : Fin 2 := if i = 0 then 1 else 0

def State.setMbox (s : State) (n : Fin 16) (x : Mailbox) : State := { s with mbox := s.mbox.set n x }

/-- What end `i` of channel `n` keeps, changed. -/
def State.mbEnd (s : State) (n : Fin 16) (i : Fin 2) (f : MbEnd → MbEnd) : State :=
  let b := s.mbox[n]
  s.setMbox n { b with ends := b.ends.set i (f b.ends[i]) }

/-- The queue that end `i` of channel `n` sends into, changed. -/
def State.mbQueue (s : State) (n : Fin 16) (i : Fin 2) (f : MbQueue → MbQueue) : State :=
  let b := s.mbox[n]
  s.setMbox n { b with out := b.out.set i (f b.out[i]) }

/-- MBn_EV.WERR for the writing master. -/
def State.mbWerr (s : State) (n : Fin 16) (m : Nat) : State :=
  let b := s.mbox[n]
  (s.setMbox n { b with werr := b.werr ||| 2 ^ m }).noteSet .MBn_EV n (2 ^ (16 + m))

/-- Bit `bit` of MBn_EV of end `i`, among what is noted of the channel in a cycle (R7). -/
def evMark (i : Fin 2) (bit : Nat) : Nat := 2 ^ (8 * i.val + bit)

/-! ## Events and interrupts (R287) -/

/-- Bits of MBn_EV. -/
def evRxMsg : Nat := 0
def evTxEmpty : Nat := 1
def evTxTmo : Nat := 2
def evTxOvf : Nat := 3
def evRxUnder : Nat := 4
def evPeerReset : Nat := 5

/-- A host end: master 1, master 2 or HOST. -/
def hostEnd (c : Nat) : Bool := c == 1 || c == 2 || c == 15

/-- A bit of MBn_EV set at end `i`; its rise, where that end's enable for it is set, interrupts a host end on vector
6 + n (R287, R381). -/
def State.mbFlag (s : State) (n : Fin 16) (i : Fin 2) (bit : Nat) : State :=
  let e := s.mbox[n].ends[i]
  let rises := !e.ev.testBit bit
  let en := (bit == evRxMsg && e.ieRx) || (bit == evTxEmpty && e.ieEmpty) || (bit == evTxTmo && e.ieTmo)
  let s := (s.mbEnd n i (fun e => { e with ev := e.ev ||| 2 ^ bit })).noteSet .MBn_EV n (evMark i bit)
  if rises && en && hostEnd (s.mbEndCode n i) then s.raiseInt (6 + n) else s

/-! ## Posting and taking (R284 to R286) -/

/-- LEN of a header. -/
def headerLen (h : Word) : Nat := h.toNat % 16

/-- A header with SENDER_EPOCH written by the hardware (R284). -/
def stampEpoch (h : Word) (epoch : Byte) : Word := (h &&& 0xFFFFF00F#32) ||| (epoch.setWidth 32 <<< 4)

/-- Free entries of a queue of 16. -/
def MbQueue.free (q : MbQueue) : Nat := 16 - q.words.length - q.build.length

/-- The timer of a queue of channel `n` starts: none runs while MBn_TMO.MS is 0 (R288). -/
def State.mbTimer (s : State) (n : Fin 16) : Option Nat := if s.rd .MBn_TMO n = 0 then none else some s.now

/-- The message being built by end `i` is complete: it commits (R285); an engine that receives it sees its line 56 + e
(R171, R287). -/
def State.mbCommit (s : State) (n : Fin 16) (i : Fin 2) : State :=
  let fresh := !(s.mbox[n].ends[peerEnd i]).ev.testBit evRxMsg
  let s := s.mbQueue n i (fun q =>
    { q with words := q.words ++ q.build, build := [], left := 0
             timer := if q.words.isEmpty then s.mbTimer n else q.timer
             lastMsg := some (s.now, q.build.length, fresh) })
  let s := s.mbFlag n (peerEnd i) evRxMsg
  let c := s.mbEndCode n (peerEnd i)
  if 4 ≤ c ∧ c ≤ 7 then s.pulse (52 + c) else if c = 3 then s.noteWake islMgt else s

/-- End `i` was reset in this cycle. -/
def State.mbJustReset (s : State) (n : Fin 16) (i : Fin 2) : Bool :=
  match s.mbox[n].ends[i].resetAt with
  | some t => sameCycle t s.now
  | none => false

/-- A word written into end `i`'s outbound queue (R284, R285); one written in the very cycle of the end's reset is discarded
(R290). -/
def State.mbPut (s : State) (n : Fin 16) (i : Fin 2) (v : Word) : State :=
  let q := s.mbox[n].out[i]
  if s.mbJustReset n i then s
  else if 0 < q.drop then s.mbQueue n i (fun q => { q with drop := q.drop - 1 })
  else if 0 < q.left then
    let s := s.mbQueue n i (fun q => { q with build := q.build ++ [v], left := q.left - 1 })
    if q.left = 1 then s.mbCommit n i else s
  else if q.free < headerLen v + 1 then
    (s.mbQueue n i (fun q => { q with drop := headerLen v })).mbFlag n i evTxOvf
  else
    let s := s.mbQueue n i (fun q => { q with build := [stampEpoch v s.mbox[n].ends[i].epoch], left := headerLen v })
    if headerLen v = 0 then s.mbCommit n i else s

/-- MBn_TX written by a master; a master that is neither end is ignored (R282). -/
def State.mbTx (s : State) (n : Fin 16) (m : Nat) (v : Word) : State :=
  match s.mbEndOf n m with
  | some i => s.mbPut n i v
  | none => s

/-- A queue that held committed words has become empty (R286): its sender's TX_EMPTY, the cause, and TX_TMO clear. -/
def State.mbEmptied (s : State) (n : Fin 16) (i : Fin 2) (cause : Nat) : State :=
  let s := s.mbQueue n i (fun q => { q with timer := none })
  (s.mbEnd n i (fun e => { e with cause := cause, txTmo := false })).mbFlag n i evTxEmpty

/-- The next committed word toward end `i`, popped; with none waiting RX_UNDER (R286). -/
def State.mbGet (s : State) (n : Fin 16) (i : Fin 2) : Word × State :=
  let j := peerEnd i
  match s.mbox[n].out[j].words with
  | [] => (0, s.mbFlag n i evRxUnder)
  | w :: rest =>
    let s := s.mbQueue n j (fun q => { q with words := rest, timer := s.mbTimer n })
    (w, if rest.isEmpty then s.mbEmptied n j 1 else s)

/-- MBn_RX read by a master (R282, R286). -/
def State.mbRx (s : State) (n : Fin 16) (m : Nat) : Word × State :=
  match s.mbEndOf n m with
  | some i => s.mbGet n i
  | none => (0, s)

/-! ## The views of status and events (R282, R298) -/

/-- MBn_STAT as a master reads it. -/
def State.mbStat (s : State) (n : Fin 16) (m : Nat) : Word :=
  match s.mbEndOf n m with
  | none => 0x80000000
  | some i =>
    let b := s.mbox[n]
    let e := b.ends[i]
    let p := b.ends[peerEnd i]
    BitVec.ofNat 32 (b.out[i].free + b.out[peerEnd i].words.length * 2 ^ 5 + e.txTmo.toNat * 2 ^ 10 + e.cause * 2 ^ 11
      + e.epoch.toNat * 2 ^ 13 + p.epoch.toNat * 2 ^ 21)

/-- MBn_EV as a master reads it: its end's bits, and WERR of that master. -/
def State.mbEv (s : State) (n : Fin 16) (m : Nat) : Word :=
  match s.mbEndOf n m with
  | none => 0
  | some i => BitVec.ofNat 32 (s.mbox[n].ends[i].ev % 64 + (s.mbox[n].werr.testBit m).toNat * 64)

/-- MBn_EV written: W1C of the master's own bits (R6, R282); a bit set in the same cycle stays (R7). -/
def State.mbEvWrite (s : State) (n : Fin 16) (m : Nat) (v : Word) : State :=
  match s.mbEndOf n m with
  | none => s
  | some i =>
    let set := s.setNow .MBn_EV n
    let ones := v.toNat % 64
    let gone := ones ^^^ (ones &&& (set / 2 ^ (8 * i.val)))
    let s := s.mbEnd n i (fun e => { e with ev := e.ev ^^^ (e.ev &&& gone) })
    if v.toNat.testBit 6 && !set.testBit (16 + m) then
      let b := s.mbox[n]
      s.setMbox n { b with werr := b.werr ^^^ (b.werr &&& 2 ^ m) }
    else s

/-- MBn_CTRL as a master reads it. -/
def State.mbCtrl (s : State) (n : Fin 16) (m : Nat) : Word :=
  match s.mbEndOf n m with
  | none => 0
  | some i =>
    let e := s.mbox[n].ends[i]
    BitVec.ofNat 32 (e.ieRx.toNat * 2 + e.ieEmpty.toNat * 4 + e.ieTmo.toNat * 8)

/-! ## The lock (R283) -/

/-- MBn_LOCK read by a master. -/
def State.mbLockRead (s : State) (n : Fin 16) (m : Nat) : Word × State :=
  match s.mbEndOf n m with
  | none => (0xF, s)
  | some _ =>
    let h := s.rd .MBn_LOCK n
    if h = 0 then (0, s.wr .MBn_LOCK n m) else (BitVec.ofNat 32 h, s)

/-- MBn_LOCK written by a master: the holder releases it. -/
def State.mbLockWrite (s : State) (n : Fin 16) (m : Nat) : State :=
  if m ≠ 0 && s.rd .MBn_LOCK n = m then s.wr .MBn_LOCK n 0 else s

/-! ## Binding (R281) -/

/-- MBn_BIND written by masters 1 to 3; a write of theirs that is ignored sets WERR. -/
def State.mbBind (s : State) (n : Fin 16) (m : Nat) (v : Word) : State :=
  if !(m == 1 || m == 2 || m == 3) then s
  else if s.bitOf .MB_LOCKTAB 0 n then s.mbWerr n m
  else
    let b := s.mbox[n]
    let idle := fun (q : MbQueue) => q.words.isEmpty && q.build.isEmpty
    let c0 := endCode (v.toNat % 16)
    let c1 := endCode (v.toNat / 16 % 16)
    let twice := c0 ≠ 0 && c0 == c1
    let mixed := (c0 == 15 && (c1 == 1 || c1 == 2)) || (c1 == 15 && (c0 == 1 || c0 == 2))
    if !(idle b.out[(0 : Fin 2)] && idle b.out[(1 : Fin 2)]) || twice || mixed then s.mbWerr n m
    else s.writeWord .MBn_BIND n v

/-! ## End resets (R289, R290) -/

/-- The queue from end `i` flushed: the receiver `j` has been reset. Words of a message still being built are discarded as
they come. -/
def State.mbFlushToward (s : State) (n : Fin 16) (j : Fin 2) : State :=
  let i := peerEnd j
  let held := !s.mbox[n].out[i].words.isEmpty
  let s := s.mbQueue n i (fun q => { q with words := [], build := [], left := 0, drop := q.drop + q.left, timer := none })
  if held then s.mbEmptied n i 2 else s

/-- A message that end `i` committed in this very cycle does not stand: its last word is discarded with the rest of it, and
RX_MSG falls where it rose with it (R290). -/
def State.mbTakeBack (s : State) (n : Fin 16) (i : Fin 2) : State :=
  let q := s.mbox[n].out[i]
  match q.lastMsg with
  | some (at_, k, rose) =>
    if !sameCycle at_ s.now || q.words.length < k then s
    else
      let rest := q.words.take (q.words.length - k)
      let s := s.mbQueue n i (fun q => { q with words := rest, lastMsg := none, timer := if rest.isEmpty then none else q.timer })
      if rose then s.mbEnd n (peerEnd i) (fun e => { e with ev := e.ev ^^^ (e.ev &&& 2 ^ evRxMsg) }) else s
  | none => s

/-- The message that end `i` committed last stays: a reset that follows it comes after its cycle. -/
def State.mbKeep (s : State) (n : Fin 16) (i : Fin 2) : State := s.mbQueue n i (fun q => { q with lastMsg := none })

/-- The message that end `i` was building is discarded, and what it wrote in this cycle: its next word is a header. -/
def State.mbDropBuild (s : State) (n : Fin 16) (i : Fin 2) : State :=
  let s := (s.mbTakeBack n i).mbEnd n i (fun e => { e with resetAt := some s.now })
  s.mbQueue n i (fun q => { q with build := [], left := 0, drop := 0 })

/-- The epoch and lock of a resetting end, and PEER_RESET at the other (R289). What the keeper still owes the channel is
discarded (R292). -/
def State.mbEpoch (s : State) (n : Fin 16) (i : Fin 2) : State :=
  let s : State := { s with keeper := { s.keeper with owed := s.keeper.owed.set n [] } }
  let s := s.mbEnd n i (fun e => { e with epoch := e.epoch + 1 })
  let s := if endHas (s.mbEndCode n i) (s.rd .MBn_LOCK n) then s.wr .MBn_LOCK n 0 else s
  s.mbFlag n (peerEnd i) evPeerReset

/-- An end reset of end `i` (R289, R290). -/
def State.mbEndReset (s : State) (n : Fin 16) (i : Fin 2) : State :=
  ((s.mbEpoch n i).mbFlushToward n i).mbDropBuild n i

/-- Both ends reset in one cycle: both queues are flushed (R290). -/
def State.mbBothReset (s : State) (n : Fin 16) : State :=
  let s := (s.mbEpoch n 0).mbEpoch n 1
  let s := (s.mbTakeBack n 0).mbTakeBack n 1
  let s := (s.mbFlushToward n 0).mbFlushToward n 1
  (s.mbDropBuild n 0).mbDropBuild n 1

/-- Every end that a test on its code names is reset, over all channels; where both ends of a channel are, both queues
are flushed. -/
def State.mbResetEnds (s : State) (p : Nat → Bool) : State :=
  s.forAll 16 (fun s n =>
    let r0 := p (s.mbEndCode n 0)
    let r1 := p (s.mbEndCode n 1)
    if r0 && r1 then s.mbBothReset n else if r0 then s.mbEndReset n 0 else if r1 then s.mbEndReset n 1 else s)

/-- MBn_CTRL written: the enables, and ENDRST (R289, R298). -/
def State.mbCtrlWrite (s : State) (n : Fin 16) (m : Nat) (v : Word) : State :=
  match s.mbEndOf n m with
  | none => s
  | some i =>
    let b := fun (k : Nat) => v.toNat.testBit k
    let s := s.mbEnd n i (fun e => { e with ieRx := b 1, ieEmpty := b 2, ieTmo := b 3 })
    if b 0 then s.mbEndReset n i else s

/-! ## The timeout (R288) -/

/-- MBn_TMO in ps, at most 65 000 ms. -/
def State.mbTmoPs (s : State) (n : Fin 16) : Nat := min 65000 (s.rd .MBn_TMO n) * 1000000000

/-- The outbound queue of end `i` times out: TX_TMO in MBn_STAT and MBn_EV of the sender, whose rise is FSRC39. The timer
is accurate to 1 ms. -/
def State.mbTimeout (s : State) (n : Fin 16) (i : Fin 2) : State :=
  let q := s.mbox[n].out[i]
  match q.timer with
  | none => s
  | some t0 =>
    if s.rd .MBn_TMO n = 0 || q.words.isEmpty || s.now + 1000000000 < t0 + s.mbTmoPs n then s
    else
      let rises := !s.mbox[n].ends[i].txTmo
      let s := s.mbEnd n i (fun e => { e with txTmo := true })
      let s := (s.mbQueue n i (fun q => { q with timer := none })).mbFlag n i evTxTmo
      if rises then s.raise 39 { inst := n } else s

/-- MBn_TMO written: a timer runs only while MS is non-zero, so a queue that holds committed words starts its own when MS comes
up from 0, and all stop when it becomes 0 (R288). -/
def State.writeTmo (s : State) (n : Fin 16) (v : Word) : State :=
  let was := s.rd .MBn_TMO n ≠ 0
  let s := s.writeWord .MBn_TMO n v
  if was && s.rd .MBn_TMO n ≠ 0 then s
  else
    let start := fun (q : MbQueue) => { q with timer := if q.words.isEmpty then none else s.mbTimer n }
    (s.mbQueue n 0 start).mbQueue n 1 start

/-- The registers of every channel that a warm reset does not keep: MBn_LOCK, MBn_EV with WERR, and EMPTY_CAUSE (R298). -/
def State.mbWarm (s : State) : State :=
  s.forAll 16 (fun s n =>
    let b := s.mbox[n]
    (s.wr .MBn_LOCK n 0).setMbox n { b with werr := 0, ends := b.ends.map (fun e => { e with ev := 0, cause := 0 }) })

/-- MB_KEEPER written: by master 3 only (R298). -/
def State.mbKeeperWrite (s : State) (m : Nat) (v : Word) : State := if m = 3 then s.writeWord .MB_KEEPER 0 v else s

end Sys2Proof.Machine
end

