-- ==== Sys2Proof/Machine/EventPath.lean ====
section
/-!
DEFINITION. The event path beyond the ring: coalescing holds, the Gleaner's moves to the host ring, its interrupt, and the
register-mode entry (R316 to R318, R320).
-/
namespace Sys2Proof.Machine

/-- Bytes of a word, little-endian. -/
def wordBytes (w : Word) : List Byte :=
  [w.setWidth 8, (w >>> 8).setWidth 8, (w >>> 16).setWidth 8, (w >>> 24).setWidth 8]

/-- Something sent outside. -/
def State.send (s : State) (x : Sent) : State := { s with sent := s.sent ++ [x] }

/-- A log may enter the ring: more than 128 entries are free, and no stage from SHED2 on is in force (R315, R340). -/
def State.logFits (s : State) : Bool := 128 < s.ringFree && s.rd .SHED_STATE_STAGE < 2

/-- The pending record of a log source with no hold running is written as a coalesced entry where R315 allows, and starts a
new hold; otherwise it stays pending (R316). -/
def State.flushLog (s : State) (src : Nat) : State :=
  match s.events.logs.find? (fun m => m.src == src) with
  | some m =>
    if !s.holdRuns src && s.logFits then
      let s := s.push (m.entry .log)
      let s : State := { s with events := { s.events with logs := s.events.logs.filter (fun x => x.src != src) } }
      s.startHold src
    else s
  | none => s

/-- Room has come free in the ring: pending alarms take it first, then the records of logs that have no hold. -/
def State.flushPending (s : State) : State :=
  let s := s.flushAlarms
  s.events.logs.foldl (fun s m => s.flushLog m.src) s

/-- EVR_COAL written: with MS = 0 no hold runs, so those that ran end, and their pending records may be written (R316). -/
def State.writeCoal (s : State) (v : Word) : State :=
  let s := s.writeWord .EVR_COAL 0 v
  if s.rd .EVR_COAL = 0 then ({ s with events := { s.events with holds := [] } } : State).flushPending else s

/-- The hold of a log source ends (R316). -/
def State.holdEnd (s : State) (src : Nat) : State :=
  match s.events.holds.find? (fun h => h.1 == src) with
  | some h =>
    if s.now < h.2 + s.rd .EVR_COAL * 1000000000 then s
    else
      let s : State := { s with events := { s.events with holds := s.events.holds.filter (fun h => h.1 != src) } }
      s.flushLog src
  | none => s

/-! ## The host ring (R317) -/

/-- Entries of the host ring: 2^SIZE, SIZE from 8 to 16; another value acts as 8 (R320). -/
def State.evrSize (s : State) : Nat :=
  let z := s.rd .EVR_HCFG_SIZE
  2 ^ (if 8 ≤ z ∧ z ≤ 16 then z else 8)

/-- Free entries of the host ring, of at most S − 1 (R235). -/
def State.evrFree (s : State) : Nat :=
  let n := s.evrSize
  n - 1 - (s.rd .EVR_HTAIL_TAIL + n - s.rd .EVR_HHEAD % n) % n

/-- Masters 8 and 9 may issue requests (R379, R380). -/
def State.dmaOpen (s : State) : Bool := s.hif.up && s.hif.busMaster && !s.hif.d3

/-- The entry that moves next: the oldest alarm while one host entry is free, else the oldest other entry while more than
128 are. -/
def State.evrNext (s : State) : Option Entry :=
  match s.events.ring.find? (fun e => e.cls == .alarm) with
  | some e => if 0 < s.evrFree then some e else none
  | none => if 128 < s.evrFree then s.events.ring.head? else none

/-- The oldest entry of a list that equals `e`, dropped. -/
def dropEntry (e : Entry) : List Entry → List Entry
  | [] => []
  | x :: r => if x = e then r else x :: dropEntry e r

/-- The host ring signals vector 1 (R238, R381). -/
def State.evrSignal (s : State) : State :=
  ({ s with events := { s.events with unsignalled := 0 } } : State).raiseInt 1

/-- The interrupt moderation after an entry has been written (R238); each alarm signals at once. -/
def State.evrCount (s : State) (alarm : Bool) : State :=
  let ev := s.events
  let n := ev.unsignalled + 1
  let s : State := { s with events := { ev with unsignalled := n, firstAt := if ev.unsignalled = 0 then s.now else ev.firstAt } }
  if s.bit .EVR_HCFG_IRQ_EN && (alarm || max 1 (s.rd .EVR_HIRQ_COUNT) ≤ n) then s.evrSignal else s

/-- The Gleaner moves one entry (R317); `ok` tells whether its host write succeeds. -/
def State.evrMove (s : State) (ok : Bool) : State :=
  if !s.bit .EVR_HCFG_EN || !s.dmaOpen then s
  else
    match s.evrNext with
    | none => s
    | some e =>
      if !ok then (s.wr .EVR_HCFG_EN 0 0).raise 34
      else
        let tail := s.rd .EVR_HTAIL_TAIL
        let phase := s.rd .EVR_HTAIL_PHASE
        let w0 := e.words[0] ||| BitVec.ofNat 32 (phase * 2 ^ 15)
        let data := wordBytes w0 ++ (e.words.toList.drop 1).flatMap wordBytes
        let s := s.send (.hostWrite 9 (s.rd .EVR_HBASE * 4096 + tail * 32) data)
        let s : State := { s with events := { s.events with ring := dropEntry e s.events.ring } }
        let s :=
          if tail + 1 < s.evrSize then s.wr .EVR_HTAIL_TAIL 0 (tail + 1)
          else (s.wr .EVR_HTAIL_TAIL 0 0).wr .EVR_HTAIL_PHASE 0 (1 - phase)
        (s.evrCount (e.cls == .alarm)).flushPending

/-- The time trigger of the host ring's interrupt (R238): TIME µs since the first unsignalled entry. -/
def State.evrTimer (s : State) : State :=
  let tm := s.rd .EVR_HIRQ_TIME
  if s.bit .EVR_HCFG_IRQ_EN && tm ≠ 0 && 0 < s.events.unsignalled && s.events.firstAt + tm * 1000000 ≤ s.now then
    s.evrSignal
  else s

/-- EVR_HCFG written: SIZE only while EN is 0 (R235, R317). -/
def State.evrCfg (s : State) (v : Word) : State :=
  if s.bit .EVR_HCFG_EN then s.writeReg .EVR_HCFG 0 0x41 v.toNat else s.writeWord .EVR_HCFG 0 v

/-- EVR_HHEAD written: ignored where it would pass the tail (R237). -/
def State.evrHead (s : State) (v : Word) : State :=
  let n := s.evrSize
  let h := v.toNat % 65536
  let old := s.rd .EVR_HHEAD
  if h < n && (h + n - old % n) % n ≤ (s.rd .EVR_HTAIL_TAIL + n - old % n) % n then s.wr .EVR_HHEAD 0 h else s

/-! ## The register-mode entry (R318) -/

/-- A read of EVR_ENTRY0: while EN is 0 the oldest entry, alarms first, is popped into the reader's latch. -/
def State.evrPop (s : State) (m : Master) : Word × State :=
  if s.bit .EVR_HCFG_EN then (0x80000000, s)
  else
    let e := match s.events.ring.find? (fun e => e.cls == .alarm) with
      | some e => some e
      | none => s.events.ring.head?
    match e with
    | none => (0x80000000, s)
    | some e =>
      let s : State := { s with events := { s.events with ring := dropEntry e s.events.ring } }
      let base := Reg.EVR_ENTRY.addr 0
      let s := ((List.range 8).zip e.words.toList).foldl (fun (s : State) (p : Nat × Word) => s.latchPut m (base + 4 * p.1) p.2) s
      (e.words[0], s.flushPending)

/-- EVR_STAT as it reads. -/
def State.evrStat (s : State) : Word :=
  let alm := (s.events.ring.filter (fun e => e.cls == .alarm)).length
  BitVec.ofNat 32 (s.events.ring.length + min 255 alm * 2 ^ 11)

end Sys2Proof.Machine
end

