-- ==== Sys2Proof/Machine/Token.lean ====
section
/-!
DEFINITION. The token engine's rings, admission, key cache, stamp stage, completions, operating points and resets (R235 to R244,
R252 to R259). The jobs themselves are in TokJobs.
-/
namespace Sys2Proof.Machine

/-! ## Status codes (R256) -/

def tkOk : Nat := 0
def tkBadDesc : Nat := 1
def tkDmaErr : Nat := 2
def tkDstSmall : Nat := 3
def tkKeyUsage : Nat := 4
def tkKeyEmpty : Nat := 5
def tkTampered : Nat := 6
def tkNtsKeyid : Nat := 7
def tkNtsCookieAuth : Nat := 8
def tkNtsCookieFmt : Nat := 9
def tkNtsCookieOld : Nat := 10
def tkNtsReqAuth : Nat := 11
def tkNtsParse : Nat := 12
def tkIcvMismatch : Nat := 13
def tkGcmTag : Nat := 14
def tkEcc : Nat := 15
def tkAborted : Nat := 16
def tkTooBig : Nat := 17
def tkNoEntropy : Nat := 18

/-! ## Rings (R235 to R238) -/

/-- Entries of a ring from SIZE: 4 to 16, another value acting as 4 (R260). -/
def ringSize (z : Nat) : Nat := 2 ^ (if 4 ≤ z ∧ z ≤ 16 then z else 4)

def State.sqSize (s : State) (q : Fin 4) : Nat := ringSize (s.rd .TOK_SQq_CFG_SIZE q)
def State.cqSize (s : State) (q : Fin 4) : Nat := ringSize (s.rd .TOK_CQq_CFG_SIZE q)

def State.setTok (s : State) (x : TokState) : State := { s with tok := x }

/-- TOK_EV.WERR. -/
def State.tokWerr (s : State) : State := s.flag .TOK_EV_WERR 0

/-- Descriptors announced and not yet fetched. -/
def State.sqCount (s : State) (q : Fin 4) : Nat :=
  let n := s.sqSize q
  (s.rd .TOK_SQq_TAIL q + n - s.rd .TOK_SQq_HEAD q % n) % n

/-- Entries of a completion ring that are free and not reserved. -/
def State.cqFree (s : State) (q : Fin 4) : Nat :=
  let n := s.cqSize q
  let used := (s.rd .TOK_CQq_TAIL_TAIL q + n - s.rd .TOK_CQq_HEAD q % n) % n
  n - 1 - used - (s.tok.jobs.filter (fun j => j.cq == q)).length

/-! ## Load and operating points (R258) -/

/-- The load asks for a step up: more than 384 jobs, or an enabled ring above three quarters. -/
def State.tokBusy (s : State) : Bool :=
  384 < s.tok.jobs.length || (List.finRange 4).any (fun q => s.bit .TOK_SQq_CFG_EN q && 3 * s.sqSize q < 4 * s.sqCount q)

/-- TOK is idle (R334): no job admitted, every enabled submission ring empty. -/
def State.tokIsIdle (s : State) : Bool :=
  s.tok.jobs.isEmpty && (List.finRange 4).all (fun q => !s.bit .TOK_SQq_CFG_EN q || s.sqCount q == 0)

/-- The conditions of R258 and R336 followed after a change of load. -/
def State.tokLoad (s : State) : State :=
  let k := s.tok
  let keep := fun (c : Bool) (o : Option Nat) => if c then (if o.isSome then o else some s.now) else none
  let s := s.setTok { k with upFrom := keep s.tokBusy k.upFrom, downFrom := keep (decide (k.jobs.length < 64)) k.downFrom }
  { s with clk := { s.clk with tokIdle := keep s.tokIsIdle s.clk.tokIdle } }

/-- A DVFS step of TOK begins toward a point; during a step the request is held (R258, R332, R333). -/
def State.tokStep (s : State) (target : Nat) : State :=
  if s.tok.step.isSome then s.setTok { s.tok with stepHeld := some target }
  else if s.rd .TOK_DVFS_CUR = target then s
  else s.setTok { s.tok with step := some target, stepAt := s.now }

/-- The step that the load asks for in AUTO mode, up or down (R258). -/
def State.tokDvfs (s : State) (up : Bool) : State :=
  let cur := s.rd .TOK_DVFS_CUR
  let k := s.tok
  if s.rd .TOK_DVFS_MODE = 0 || k.step.isSome then s
  else if up then
    match k.upFrom with
    | some t => if t + 100000000 ≤ s.now && cur < 3 then (s.setTok { k with upFrom := some s.now }).tokStep (cur + 1) else s
    | none => s
  else
    match k.downFrom with
    | some t => if t + 10000000000 ≤ s.now && 0 < cur then (s.setTok { k with downFrom := some s.now }).tokStep (cur - 1) else s
    | none => s

/-- TOK_DVFS written: FIXED runs at POINT. -/
def State.tokDvfsWrite (s : State) (v : Word) : State :=
  let s := s.writeWord .TOK_DVFS 0 v
  if s.rd .TOK_DVFS_MODE = 0 then s.tokStep (s.rd .TOK_DVFS_POINT) else s

/-! ## Key cache (R253, R255) -/

/-- An entry is pinned by some job. -/
def State.pinned (s : State) (e : CacheEntry) : Bool := s.tok.jobs.any (fun j => j.pins.contains (e.slot, e.epoch))

/-- Entries of an old epoch are dropped once no job pins them. -/
def State.dropOld (s : State) : State :=
  s.setTok { s.tok with cache := s.tok.cache.filter (fun e => s.pinned e || e.epoch == s.rd .GRN_SLOTn_EPOCH e.slot) }

/-- The cookie key of a master key (R246): KEYID is the slot and 24 bits of its epoch. -/
def keyId (slot epoch : Nat) : List Byte := beBytes 4 (slot % 256 * 2 ^ 24 + epoch % 2 ^ 24)
def cookieKey (master : List Byte) (slot epoch : Nat) : List Byte :=
  hkdf (List.replicate 32 0) master (ascii "COLBILITH NTS COOKIE" ++ keyId slot epoch) 32

/-- The cache holds the current key of a slot, loading it from the Granary where it has an entry free or unpinned; none
where all sixteen are pinned (R253). -/
def State.loadKey (s : State) (slot : Nat) : Option State :=
  let ep := s.rd .GRN_SLOTn_EPOCH slot
  if s.tok.cache.any (fun e => e.slot == slot && e.epoch == ep) then some s
  else
    let key := beBytes 32 (s.grn.keys[Fin.ofNat 64 slot]).toNat
    let e : CacheEntry := ⟨slot, ep, key, if s.rd .GRN_SLOTn_META_USAGE slot = 1 then cookieKey key slot ep else []⟩
    if s.tok.cache.length < 16 then some (s.setTok { s.tok with cache := s.tok.cache ++ [e] })
    else
      match s.tok.cache.find? (fun x => !s.pinned x) with
      | some old => some (s.setTok { s.tok with cache := s.tok.cache.filter (fun x => x != old) ++ [e] })
      | none => none

/-- A key of a job's snapshot, by slot. -/
def State.jobKey (s : State) (j : Job) (slot : Nat) : Option CacheEntry :=
  match j.pins.find? (fun p => p.1 == slot) with
  | some p => s.tok.cache.find? (fun e => e.slot == p.1 && e.epoch == p.2)
  | none => none

/-- A zeroisation reaches the engine (R255). -/
def State.tokScrub (s : State) : State :=
  let jobs := s.tok.jobs.map (fun j =>
    if j.pins.isEmpty then j else { j with pins := [], result := some ⟨tkTampered, [], 0, 0, 0xFF⟩ })
  (s.setTok { s.tok with jobs := jobs, cache := [], nonceKey := none }).flag .TOK_EV_SCRUB 0

/-! ## Descriptors (R239) -/

def Fetched.type (d : Fetched) : Nat := leAt d.desc 0 1
def Fetched.flags (d : Fetched) : Nat := leAt d.desc 1 1
def Fetched.pl (d : Fetched) : Nat := leAt d.desc 2 1
def Fetched.kslot (d : Fetched) : Nat := leAt d.desc 3 1
def Fetched.srcLen (d : Fetched) : Nat := leAt d.desc 16 4
def Fetched.dstCap (d : Fetched) : Nat := leAt d.desc 20 4
def Fetched.dstAddr (d : Fetched) : Nat := leAt d.desc 24 8

/-- Bytes `off` to `off + n - 1` of the descriptor are 0. -/
def Fetched.zero (d : Fetched) (off n : Nat) : Bool := (slice d.desc off n).all (· == 0)

/-- The plane of a job. -/
def Fetched.plane (d : Fetched) : Fin 4 := Fin.ofNat 4 d.pl

/-- The common part of the descriptor is in order (R239). -/
def Fetched.commonOk (d : Fetched) : Bool :=
  d.type ≤ 5 && d.flags < 4 && d.pl < 4 && d.kslot < 64 && ((2 ≤ d.type && d.type ≤ 4) || d.kslot == 0)

/-- The type's own part is in order (R245, R249 to R251). -/
def Fetched.paramOk (d : Fetched) : Bool :=
  let n := d.srcLen
  if d.type = 1 then
    let mode := leAt d.desc 32 1
    let nc := leAt d.desc 33 1
    let pre := leAt d.desc 38 2
    mode ≤ 1 && 1 ≤ nc && nc ≤ 8 && leAt d.desc 40 1 < 4 && d.zero 41 23 && (mode == 1 || (48 ≤ pre && pre % 4 == 0))
  else if d.type = 2 then
    let icv := leAt d.desc 32 2
    let opts := leAt d.desc 34 1
    opts < 8 && d.zero 42 22 && icv + 16 ≤ n && (!opts.testBit 0 || 10 ≤ icv)
      && (!opts.testBit 1 || leAt d.desc 40 2 + 10 ≤ n)
  else if d.type = 3 then
    let opts := leAt d.desc 48 1
    leAt d.desc 44 4 ≤ n && opts < 2 && d.zero 49 3 && d.zero 56 8 && (opts == 0 || leAt d.desc 52 4 + 24 ≤ n)
  else if d.type = 4 then leAt d.desc 44 4 + 16 ≤ n && d.zero 48 4 && d.zero 56 8
  else if d.type = 5 then n == 0 && d.zero 32 32
  else true

/-- Length of a job's output when it succeeds. -/
def Fetched.outLen (d : Fetched) : Nat :=
  if d.type = 1 then
    let nc := leAt d.desc 33 1
    if leAt d.desc 32 1 = 0 then leAt d.desc 38 2 + 40 + 112 * nc else 108 * nc
  else if d.type = 2 then (if (leAt d.desc 34 1).testBit 2 then 0 else d.srcLen)
  else if d.type = 3 then d.srcLen + 16
  else if d.type = 4 then d.srcLen - 16
  else if d.type = 5 then 48
  else 0

/-- Bytes of text of a GCM job. -/
def Fetched.textLen (d : Fetched) : Nat := d.srcLen - leAt d.desc 44 4 - (if d.type = 4 then 16 else 0)

/-- KEYID of a RESPOND job's cookie, where its source holds one (R246, R247 step 1). -/
def Fetched.cookieOk (d : Fetched) : Bool :=
  let co := leAt d.desc 34 2
  let au := leAt d.desc 36 2
  let len := beAt d.src (au + 2) 2
  let nl := beAt d.src (au + 4) 2
  let cl := beAt d.src (au + 6) 2
  co + 108 ≤ au && au + 8 ≤ d.src.length && au + len ≤ d.src.length && 8 + (nl + 3) / 4 * 4 + (cl + 3) / 4 * 4 ≤ len

/-- The slot whose key opens a RESPOND job's cookie: KEYID names CUR, or PREV while PREV_EN is 1, at the slot's current
epoch (R246). -/
def State.cookieSlot (s : State) (d : Fetched) : Option Nat :=
  let id := beAt d.src (leAt d.desc 34 2) 4
  let slot := id / 2 ^ 24
  let named := slot == s.rd .TOK_NTS_KEYS_CUR || (s.bit .TOK_NTS_KEYS_PREV_EN && slot == s.rd .TOK_NTS_KEYS_PREV)
  if d.cookieOk && named && slot < 64 && id % 2 ^ 24 == s.rd .GRN_SLOTn_EPOCH slot % 2 ^ 24 then some slot else none

/-- The slots that a job needs (R253). -/
def State.jobSlots (s : State) (d : Fetched) : List Nat :=
  if d.type = 1 then
    let cur := s.rd .TOK_NTS_KEYS_CUR
    if leAt d.desc 32 1 = 0 then
      match s.cookieSlot d with
      | some k => if k = cur then [cur] else [k, cur]
      | none => [cur]
    else [cur]
  else if 2 ≤ d.type ∧ d.type ≤ 4 then [d.kslot]
  else []

/-- The USAGE that a job type needs. -/
def jobUsage (type : Nat) : Nat := if type = 1 then 1 else if type = 2 then 2 else 3

/-- The status decided at admission, if the job fails there. -/
def State.earlyStatus (s : State) (d : Fetched) : Option Nat :=
  let slots := s.jobSlots d
  if !d.ok then some tkDmaErr
  else if !d.commonOk || !d.paramOk then some tkBadDesc
  else if (d.type = 3 ∨ d.type = 4) ∧ 65536 < d.textLen then some tkTooBig
  else if d.dstCap < d.outLen then some tkDstSmall
  else if d.type = 1 && !s.bit .TOK_STAT_ENTROPY_OK then some tkNoEntropy
  else if slots.any (fun k => s.rd .GRN_SLOTn_META_USAGE k == 0) then some tkKeyEmpty
  else if slots.any (fun k => s.rd .GRN_SLOTn_META_USAGE k != jobUsage d.type) then some tkKeyUsage
  else none

/-! ## Fetch and admission (R236, R244, R253) -/

/-- TOK_SQq_TAIL written: descriptors are announced. -/
def State.tokDoorbell (s : State) (q : Fin 4) (v : Word) : State := (s.wr .TOK_SQq_TAIL q v.toNat).tokLoad

/-- The next descriptor of a ring is fetched; its head advances. What the reads returned must have the lengths asked for. -/
def State.tokFetch (s : State) (q : Fin 4) (d : Fetched) : State :=
  let shape := !d.ok || (d.desc.length == 64 && d.src.length == d.srcLen
    && (!(d.type == 1 && leAt d.desc 32 1 == 0) || d.pre.length == leAt d.desc 38 2))
  if s.bit .TOK_SQq_CFG_EN q && s.dmaOpen && 0 < s.sqCount q && shape then
    let s := s.wr .TOK_SQq_HEAD q ((s.rd .TOK_SQq_HEAD q + 1) % s.sqSize q)
    (s.setTok { s.tok with fetched := s.tok.fetched.set q (s.tok.fetched[q] ++ [d]) }).tokLoad
  else s

/-- Why admission is closed: bit 0 EN = 0, bit 1 SHED1, bit 2 L4 (R258). -/
def State.tokStop (s : State) : Nat :=
  (if s.bit .TOK_CTRL then 0 else 1) + (if 1 ≤ s.rd .SHED_STATE_STAGE then 2 else 0)
    + (if s.rd .FLT_LEVEL_LEVEL = 4 then 4 else 0)

/-- The keys loaded one after another; none where one finds all entries pinned. -/
def State.loadKeys (s : State) : List Nat → Option State
  | [] => some s
  | k :: rest => match s.loadKey k with
    | some s => s.loadKeys rest
    | none => none

/-- The first fetched descriptor of ring `q` taken into job slot `tag`: none where a condition of R236 fails, `some none` where
only its keys have to wait (R253), else the state after. -/
def State.tokTry (s : State) (q : Fin 4) (tag : Nat) : Option (Option State) :=
  match s.tok.fetched[q] with
  | [] => none
  | d :: rest =>
    let cq : Fin 4 := Fin.ofNat 4 (s.rd .TOK_SQq_CFG_CQ q)
    let fence := !(d.flags.testBit 0) || !s.tok.jobs.any (fun j => j.sq == q)
    if s.tokStop ≠ 0 || !s.dmaOpen || s.tok.jobs.any (fun j => j.tag == tag) || s.cqFree cq = 0 || !fence then none
    else
      let early := s.earlyStatus d
      let slots := if early.isSome then [] else s.jobSlots d
      -- an entry that the job will pin may not be evicted for its other key
      let pins := slots.map (fun k => (k, s.rd .GRN_SLOTn_EPOCH k))
      let job : Job := { tag := tag, sq := q, cq := cq, inp := d, pins := pins, admitSec := (s.record d.plane).sec
                         stamp := none, work := none, result := early.map (fun st => ⟨st, [], 0, 0, 0xFF⟩) }
      some (((s.setTok { s.tok with jobs := s.tok.jobs ++ [job] }).loadKeys slots).map (fun s =>
        s.setTok { s.tok with fetched := s.tok.fetched.set q rest, waiting := s.tok.waiting.set q false }))

/-- WEIGHT of a ring; 0 acts as 1. -/
def State.tokWeight (s : State) (q : Fin 4) : Nat := max 1 (s.rd .TOK_SQq_CFG_WEIGHT q)

/-- The first fetched descriptor of ring `q` is admitted, when every condition of R236 holds. The rings that are ready share
admission by their weights: each has as many admissions as its weight, and all count anew once none that is ready has any
left. -/
def State.tokAdmit (s : State) (q : Fin 4) (tag : Fin 512) : State :=
  match s.tokTry q tag with
  | none => s
  | some none =>
    if s.tok.waiting[q] then s
    else (s.setTok { s.tok with waiting := s.tok.waiting.set q true }).tally .TOK_KC_WAIT 0
  | some (some u) =>
    let ready := (List.finRange 4).filter (fun p => (s.tokTry p tag).any Option.isSome)
    let credit := if ready.all (fun p => s.tok.credit[p] == 0) then Vector.ofFn s.tokWeight else s.tok.credit
    if credit[q] = 0 then s else (u.setTok { u.tok with credit := credit.set q (credit[q] - 1) }).tokLoad

/-! ## The stamp stage (R242, R243) -/

/-- A job changed, by its tag. -/
def State.setJob (s : State) (tag : Nat) (f : Job → Job) : State :=
  s.setTok { s.tok with jobs := s.tok.jobs.map (fun j => if j.tag = tag then f j else j) }

/-- The job in a slot. -/
def State.job (s : State) (tag : Nat) : Option Job := s.tok.jobs.find? (fun j => j.tag == tag)

/-- The time record of a plane, with the offset that its NTP form uses (R146, R153). -/
def State.stampOfPlane (s : State) (p : Fin 4) : TimeRec × Int := (s.record p, s.ntpOffset (s.record p).sec)

/-- A job has reached its stamp stage (R242): after the key work of NTS_RESP and GCM_OPEN, at once for the others. -/
def Job.mayStamp (j : Job) : Bool := j.stamp.isNone &&
  (j.result.isSome || j.work.isSome || !(j.inp.type == 1 || j.inp.type == 4))

/-- A job takes one time record of its plane. -/
def State.tokStamp (s : State) (tag : Nat) : State :=
  s.setJob tag (fun j => if j.mayStamp then { j with stamp := some (s.stampOfPlane j.inp.plane) } else j)

/-! ## Nonces (R252) -/

/-- The nonce key is drawn from the entropy source, where none is held. -/
def State.drawNonceKey (s : State) : State :=
  match s.tok.nonceKey with
  | some _ => s
  | none =>
    let k := beBytes 16 (Config.entropy128 s.draw).toNat
    s.fresh.2.setTok { s.tok with nonceKey := some k }

/-- TOK leaves reset, or the entropy source passes its health test while TOK is out of reset: with a healthy source the nonce
key is drawn and ENTROPY_OK reads 1. -/
def State.tokLeaves (s : State) : State :=
  if s.bit .GRN_STAT_ENTROPY_OK && !s.grn.entropyBad then s.drawNonceKey.wr .TOK_STAT_ENTROPY_OK 0 1 else s

/-- The next nonce: the counter encrypted under the nonce key, drawn now where none is held (R255). -/
def State.nonce (s : State) : List Byte × State :=
  let s := s.drawNonceKey
  let key := s.tok.nonceKey.getD []
  (aesEnc key (beBytes 16 s.tok.nonceCtr), s.setTok { s.tok with nonceCtr := (s.tok.nonceCtr + 1) % 2 ^ 128 })

/-! ## Completion (R237, R238, R240, R241) -/

/-- A completion ring signals its vector (R238, R381). -/
def State.cqSignal (s : State) (q : Fin 4) : State :=
  (s.setTok { s.tok with cqs := s.tok.cqs.set q { s.tok.cqs[q] with unsignalled := 0 } }).raiseInt (2 + q)

/-- The moderation after a completion is written. -/
def State.cqCount (s : State) (q : Fin 4) (now : Bool) : State :=
  let c := s.tok.cqs[q]
  let n := c.unsignalled + 1
  let s := s.setTok { s.tok with cqs := s.tok.cqs.set q ⟨n, if c.unsignalled = 0 then s.now else c.firstAt⟩ }
  if s.bit .TOK_CQq_CFG_IRQ_EN q && (now || max 1 (s.rd .TOK_CQq_IRQ_COUNT q) ≤ n) then s.cqSignal q else s

/-- The time trigger of a completion ring. -/
def State.cqTimer (s : State) (q : Fin 4) : State :=
  let c := s.tok.cqs[q]
  let tm := s.rd .TOK_CQq_IRQ_TIME q
  if s.bit .TOK_CQq_CFG_IRQ_EN q && tm ≠ 0 && 0 < c.unsignalled && c.firstAt + tm * 1000000 ≤ s.now then s.cqSignal q else s

/-- The 32 bytes of a completion (R240). -/
def completion (j : Job) (r : JobResult) (status len : Nat) (stamp : TimeRec) (phase : Nat) : List Byte :=
  leBytes 2 (j.tag + j.sq.val * 2 ^ 9 + phase * 2 ^ 15) ++ leBytes 1 status ++ leBytes 1 j.inp.type ++ slice j.inp.desc 4 4
    ++ leBytes 4 len ++ leBytes 2 r.epoch ++ leBytes 1 r.keyslot ++ [0]
    ++ wordBytes stamp.w0 ++ wordBytes stamp.w1 ++ wordBytes stamp.w3 ++ wordBytes stamp.w4

/-- A job leaves its slot; its pins are released. -/
def State.freeJob (s : State) (tag : Nat) : State :=
  ((s.setTok { s.tok with jobs := s.tok.jobs.filter (fun j => j.tag != tag) }).dropOld).tokLoad

/-- The jobs admitted toward a completion ring complete internally with ABORTED and are not written (R259). -/
def State.cqAbort (s : State) (q : Fin 4) : State :=
  (s.tok.jobs.filter (fun j => j.cq == q)).foldl (fun s j => (s.tally .TOK_ERRS 0).freeJob j.tag) s

/-- A flag of TOK_EV set, whose rise is the fault source `src` (R299, R302). -/
def State.tokFault (s : State) (f : Field) (src : Nat) : State :=
  let was := s.bit f
  let s := s.flag f 0
  if was then s else s.raise src

/-- A finished job's output and then its completion entry are written (R241); `okOut` and `okCpl` tell whether the host
writes succeed. A completion write that fails sets DMA_ERR, disables the ring, whose other jobs end as in R259, and raises
FSRC32 (R256). Toward a ring that is not enabled nothing is written (R259). -/
def State.tokComplete (s : State) (tag : Nat) (okOut okCpl : Bool) : State :=
  match s.job tag with
  | none => s
  | some j =>
    match j.result with
    | none => s
    | some r =>
      if r.status = tkOk && j.stamp.isNone then s
      else if !s.bit .TOK_CQq_CFG_EN j.cq then (s.tally .TOK_ERRS 0).freeJob tag
      else if !s.dmaOpen then s
      else
        let stamp := (j.stamp.getD (s.stampOfPlane j.inp.plane)).1
        let s := if r.out.isEmpty then s else s.send (.hostWrite 8 j.inp.dstAddr r.out)
        let bad := !r.out.isEmpty && !okOut
        let status := if bad then tkDmaErr else r.status
        let len := if bad then 0 else r.len
        let tail := s.rd .TOK_CQq_TAIL_TAIL j.cq
        let phase := s.rd .TOK_CQq_TAIL_PHASE j.cq
        if !okCpl then
          let s := (s.tokFault .TOK_EV_DMA_ERR 32).wr .TOK_CQq_CFG_EN j.cq 0
          (s.freeJob tag).cqAbort j.cq
        else
          let s := s.send (.hostWrite 8 (s.rd .TOK_CQq_BASE j.cq * 4096 + tail * 32) (completion j r status len stamp phase))
          let s :=
            if tail + 1 < s.cqSize j.cq then s.wr .TOK_CQq_TAIL_TAIL j.cq (tail + 1)
            else (s.wr .TOK_CQq_TAIL_TAIL j.cq 0).wr .TOK_CQq_TAIL_PHASE j.cq (1 - phase)
          let s := s.wr .TOK_JOBS 0 (s.rd .TOK_JOBS + 1)
          let s := if status = tkOk then s else s.tally .TOK_ERRS 0
          (s.cqCount j.cq (j.inp.flags.testBit 1)).freeJob tag

/-! ## Register writes (R235, R237, R254, R259) -/

/-- TOK_SQq_BASE or TOK_CQq_BASE committed: only while the ring's EN is 0. -/
def State.tokBase (s : State) (r : Reg) (en : Field) (q : Fin 4) (v : DWord) : State :=
  if s.bit en q then s.tokWerr else s.writePair r q v

/-- TOK_SQq_CFG written: SIZE only while EN is 0; a write of another SIZE is ignored and sets WERR. -/
def State.tokSqCfg (s : State) (q : Fin 4) (v : Word) : State :=
  let was := s.bit .TOK_SQq_CFG_EN q
  let size := s.rd .TOK_SQq_CFG_SIZE q
  let s := s.writeWord .TOK_SQq_CFG q v
  let s := if was && s.rd .TOK_SQq_CFG_SIZE q ≠ size then (s.wr .TOK_SQq_CFG_SIZE q size).tokWerr else s
  s.tokLoad

/-- TOK_CQq_CFG written. -/
def State.tokCqCfg (s : State) (q : Fin 4) (v : Word) : State :=
  let was := s.bit .TOK_CQq_CFG_EN q
  let size := s.rd .TOK_CQq_CFG_SIZE q
  let s := s.writeWord .TOK_CQq_CFG q v
  let s := if was && s.rd .TOK_CQq_CFG_SIZE q ≠ size then (s.wr .TOK_CQq_CFG_SIZE q size).tokWerr else s
  if was && !s.bit .TOK_CQq_CFG_EN q then s.cqAbort q else s

/-- TOK_CQq_HEAD written: ignored, with WERR, where it would pass the tail (R237). -/
def State.tokCqHead (s : State) (q : Fin 4) (v : Word) : State :=
  let n := s.cqSize q
  let h := v.toNat % 65536
  let old := s.rd .TOK_CQq_HEAD q
  if h < n && (h + n - old % n) % n ≤ (s.rd .TOK_CQq_TAIL_TAIL q + n - old % n) % n then s.wr .TOK_CQq_HEAD q h else s.tokWerr

/-- The entropy health test fails (R252). -/
def State.tokEntropyFail (s : State) : State :=
  let s : State := { s with grn := { s.grn with entropyBad := true } }
  (s.wr .TOK_STAT_ENTROPY_OK 0 0).tokFault .TOK_EV_ENTROPY_FAIL 33

/-- PERST_N or an HIF reset (R259): every ring is disabled and every admitted job discarded. -/
def State.tokHostLost (s : State) : State :=
  let s := s.setTok { s.tok with
    jobs := []
    fetched := Vector.replicate 4 []
    cqs := Vector.replicate 4 ⟨0, 0⟩
    waiting := Vector.replicate 4 false
    credit := Vector.replicate 4 0 }
  let s := s.forAll 4 (fun s q => (s.wr .TOK_SQq_CFG_EN q 0).wr .TOK_CQq_CFG_EN q 0)
  s.dropOld.tokLoad

/-- TOK_STAT as it reads. -/
def State.tokStat (s : State) : Word :=
  let pins := (s.tok.cache.filter s.pinned).length
  BitVec.ofNat 32 (s.tok.jobs.length + s.rd .TOK_STAT_ENTROPY_OK * 2 ^ 10 + s.tokStop * 2 ^ 11 + s.tok.cache.length * 2 ^ 14
    + pins * 2 ^ 19)

end Sys2Proof.Machine
end

