-- ==== Sys2Proof/Machine/YeCore.lean ====
section
/-!
DEFINITION. The engines' control (R161 to R190): state codes, reset, halting and starting, traps and restarts, timers, the
watchdog, shedding, regions left behind.
-/
namespace Sys2Proof.Machine

/-- The part presents the CL-6416-BL column of R2: by OTP, or because the trim check failed (R364). -/
def State.isBL (s : State) : Bool := Config.partBL || s.boot.otpBad

/-! ## State codes (R191) -/

def stReset : Nat := 0
def stHalted : Nat := 1
def stRunning : Nat := 2
def stWaiting : Nat := 3
def stTrapped : Nat := 4
def stShed : Nat := 5

/-- Halt reasons (R191). -/
def haltCmd : Nat := 1
def haltStep : Nat := 2
def haltBkpt : Nat := 3
def haltShed : Nat := 4

def State.yeState (s : State) (e : Fin 4) : Nat := s.rd .YEe_STAT_STATE e
def State.setYe (s : State) (e : Fin 4) (x : Engine) : State := { s with engines := s.engines.set e x }
def State.yeGo (s : State) (e : Fin 4) (st : Nat) : State := s.wr .YEe_STAT_STATE e st

/-- Master identity of engine `e` (R375). -/
def yeMaster (e : Fin 4) : Nat := 4 + e

/-! ## Registers and predicates (R161) -/

/-- A general register; G0 reads 0. -/
def Engine.reg (x : Engine) (i : Fin 16) : DWord := if i = 0 then 0 else x.g[i]

/-- A general register written; a write of G0 is discarded. -/
def Engine.setReg (x : Engine) (i : Fin 16) (v : DWord) : Engine := if i = 0 then x else { x with g := x.g.set i v }

/-- A predicate written. -/
def Engine.setPred (x : Engine) (i : Fin 4) (b : Bool) : Engine := { x with p := x.p.set i b }

/-- Words of the memories. -/
def Engine.imemAt (x : Engine) (a : Nat) : Word := Store.get x.imem a 0
def Engine.dmemAt (x : Engine) (a : Nat) : DWord := Store.get x.dmem a 0
def Engine.dmemPut (x : Engine) (a : Nat) (v : DWord) : Engine := { x with dmem := Store.set x.dmem a v 0 }

/-- The words of DMEM that masters have written in this YAC cycle. -/
def Engine.putsNow (x : Engine) (now : Nat) : List DmemPut := x.puts.filter (fun p => p.cycle == yacCycle now)

/-- A master writes a word of DMEM; what the word held before the cycle's first write is kept (R164). -/
def Engine.masterPut (x : Engine) (now a : Nat) (v : DWord) : Engine :=
  let l := x.putsNow now
  { x.dmemPut a v with puts := if l.any (fun p => p.word == a) then l else ⟨yacCycle now, a, x.dmemAt a⟩ :: l }

/-! ## Regions left behind (R177) -/

/-- The regions that master `m` owns and that are still OPEN close with ABANDONED; those pending or in their window run on. -/
def State.leaveRegions (s : State) (m : Nat) : State :=
  s.forAll 4 (fun s p => match s.planes[p].region with
    | some r => if r.owner = some m && s.rd .PLn_COMMIT_RESULT p = resOpen then s.closeRegion p resAbandoned else s
    | none => s)

/-! ## Halting, resetting, starting (R162, R181, R184) -/

/-- The engine stops at an instruction boundary and reads HALTED. A WAITEV that waits has consumed nothing. -/
def State.yeHalt (s : State) (e : Fin 4) (reason : Nat) : State :=
  let x := s.engines[e]
  let s := s.setYe e { x with wait := none, stepping := false }
  let s := ((s.yeGo e stHalted).wr .YEe_STAT_HREASON e reason).flag .YEe_EV_HALTED e
  s.leaveRegions (yeMaster e)

/-- A RESET (R162): the architectural state but for the memories and SIG; the mailbox end reset and the regions that it
brings (R177, R289). -/
def State.yeClear (s : State) (e : Fin 4) : State :=
  let x := s.engines[e]
  let s := s.setYe e { Engine.init with
    pc := s.rd .YEe_ENTRY e, imem := x.imem, dmem := x.dmem, sig := x.sig, trapAt := x.trapAt
    firstRestart := x.firstRestart, watch := x.watch, verKey := x.verKey }
  let s : State := { s with evpend := s.evpend.set e 0, evovf := s.evovf.set e 0 }
  ((s.yeGo e stReset).wr .YEe_TRAP_CAUSE e 0).leaveRegions (yeMaster e)

/-- RESET of one engine, with its mailbox end reset (R162, R289). -/
def State.yeReset (s : State) (e : Fin 4) : State := (s.yeClear e).mbResetEnds (fun c => c == yeMaster e)

/-- The PC matches an enabled breakpoint (R181). -/
def State.yeBreak (s : State) (e : Fin 4) : Bool := s.bit .YEe_BKPT_EN e && s.rd .YEe_BKPT_PC e == s.engines[e].pc

/-- The engine runs at PC: its watchdog counts from here, and a breakpoint at PC halts it before the instruction issues. -/
def State.yeRun (s : State) (e : Fin 4) : State :=
  let x := s.engines[e]
  let s := (s.setYe e { x with wait := none, stepping := false, wdFrom := s.now, restartAt := none, watch := false }).yeGo e stRunning
  if s.yeBreak e then s.yeHalt e haltBkpt else s

/-- The engine starts at YEe_ENTRY, out of RESET. -/
def State.yeStartEntry (s : State) (e : Fin 4) : State :=
  let x := s.engines[e]
  (s.setYe e { x with pc := s.rd .YEe_ENTRY e }).yeRun e

/-- SIGN_REQ as it reads (R187, R364). -/
def State.signReq (s : State) : Bool := s.isBL || s.bit .YE_POLICY_SIGN_REQ

/-- R187 lets an engine leave RESET. -/
def State.yeMayStart (s : State) (e : Fin 4) : Bool := !s.signReq || s.rd .YEe_STAT_SIG e == 2

/-- START (R181, R187): from RESET at YEe_ENTRY, unless refused; from HALTED or TRAPPED at PC, after `idle` YAC cycles. -/
def State.yeStart (s : State) (e : Fin 4) (idle : Nat) : State :=
  let st := s.yeState e
  if st = stReset then
    if s.yeMayStart e then s.yeStartEntry e else s.flag .YEe_EV_START_REJ e
  else if st = stHalted ∨ st = stTrapped then
    let x := s.engines[e]
    (s.setYe e { x with cyc := x.cyc + BitVec.ofNat 64 idle }).yeRun e
  else s

/-- HALT (R181): a running or waiting engine stops, and a shed one does not resume. -/
def State.yeHaltCmd (s : State) (e : Fin 4) : State :=
  let st := s.yeState e
  if st = stRunning ∨ st = stWaiting ∨ st = stShed then s.yeHalt e haltCmd else s

/-- Entry to SHED4 (R184): a running or waiting engine stops as under R181, its STATE reading SHED. -/
def State.yeShedStop (s : State) (e : Fin 4) : State :=
  let st := s.yeState e
  if st = stRunning ∨ st = stWaiting then
    let x := s.engines[e]
    let s := s.setYe e { x with shedWait := decide (st = stWaiting) }
    let s := ((s.yeGo e stShed).wr .YEe_STAT_HREASON e haltShed).flag .YEe_EV_HALTED e
    s.leaveRegions (yeMaster e)
  else s

/-- SHED4 clears (R184): a shed engine resumes, or waits in its WAITEV again; the YAC cycles that passed are open. -/
def State.yeShedResume (s : State) (e : Fin 4) : State :=
  if s.yeState e = stShed then
    let d := s.fresh
    let x := s.engines[e]
    (d.2.setYe e { x with cyc := x.cyc + BitVec.ofNat 64 (Config.idleCycles d.1) }).yeGo e
      (if x.shedWait then stWaiting else stRunning)
  else s

/-! ## Traps (R178 to R180) -/

def trapIllegal : Nat := 1
def trapDmemRange : Nat := 2
def trapDevPerm : Nat := 3
def trapDevAlign : Nat := 4
def trapEccImem : Nat := 5
def trapEccDmem : Nat := 6
def trapWdog : Nat := 7
def trapPcEnd : Nat := 8
def trapMbBind : Nat := 9

/-- A trap (R178, R180): TRAPPED with the cause and the PC recorded, FSRC23, and under the RESTART policy a restart due
1 ms later unless RSTCNT would exceed MAXRST within 60 s of the first counted restart. -/
def State.yeTrap (s : State) (e : Fin 4) (cause : Nat) : State :=
  let x := s.engines[e]
  let cnt := s.rd .YEe_STAT_RSTCNT e
  let maxr := s.rd .YEe_TRAPCFG_MAXRST e
  let excess := maxr < cnt + 1 && cnt ≠ 0 && s.now < x.firstRestart + 60 * psPerS
  let restart := s.bit .YEe_TRAPCFG_POLICY e && maxr ≠ 0 && !excess
  let s := s.setYe e { x with wait := none, stepping := false, trapAt := s.now
                              restartAt := if restart then some (s.now + 1000000000) else none }
  let s := ((s.yeGo e stTrapped).wr .YEe_TRAP_CAUSE e cause).wr .YEe_TRAP_PC e x.pc
  let s := (s.flag .YEe_EV_TRAP e).raise 23 { inst := e }
  s.leaveRegions (yeMaster e)

/-- The restart of R180: a RESET, and a start at YEe_ENTRY. -/
def State.yeRestart (s : State) (e : Fin 4) : State :=
  match s.engines[e].restartAt with
  | none => s
  | some due =>
    if s.yeState e ≠ stTrapped || s.now < due then s
    else
      let first := s.rd .YEe_STAT_RSTCNT e = 0
      let s := s.yeReset e
      let x := s.engines[e]
      let s := if first then s.setYe e { x with firstRestart := s.now } else s
      let s := (s.incSat .YEe_STAT_RSTCNT e).flag .YEe_EV_RESTART e
      s.yeStartEntry e

/-- RSTCNT returns to 0 after 60 s without a trap. -/
def State.yeRstClear (s : State) (e : Fin 4) : State :=
  if s.engines[e].trapAt + 60 * psPerS ≤ s.now then s.wr .YEe_STAT_RSTCNT e 0 else s

/-! ## Timers (R174, R203) -/

/-- The first microsecond boundary of the device timescale at or after `x`. -/
def State.usCeil (s : State) (x : Nat) : Nat := s.tick0 + (x - s.tick0 + 999999) / 1000000 * 1000000

/-- A timer stopped at `now`; where it expires in the same YAC cycle its PEND stays set (R174). -/
def YeTimer.stop (tm : YeTimer) (now : Nat) : YeTimer :=
  let x := tm.run && yacCycle tm.expiry ≤ yacCycle now
  { tm with run := false, periodic := false, pend := tm.pend || x, pendAt := if x then now else tm.pendAt }

/-- TSTOP. -/
def Engine.tstop (x : Engine) (i : Fin 4) (now : Nat) : Engine := { x with timers := x.timers.set i ((x.timers[i]).stop now) }

/-- TSET and TSETP: V from a register; 0 acts as TSTOP. -/
def State.yeTset (s : State) (x : Engine) (i : Fin 4) (v : DWord) (periodic : Bool) : Engine :=
  if v = 0 then x.tstop i s.now
  else
    let n := min v.toNat (2 ^ 32 - 1)
    { x with timers := x.timers.set i ⟨true, periodic, false, n, s.usCeil (s.now + n * 1000000), 0⟩ }

/-- A timer expires (R174): PEND; a periodic one reloads V. -/
def State.yeTimer (s : State) (e i : Fin 4) : State :=
  let x := s.engines[e]
  let tm := x.timers[i]
  if tm.run && tm.expiry ≤ s.now then
    s.setYe e { x with timers := x.timers.set i { tm with
      pend := true, pendAt := s.now, run := tm.periodic, expiry := if tm.periodic then tm.expiry + tm.v * 1000000 else tm.expiry } }
  else s

/-- Microseconds remaining on a timer (R191). -/
def State.yeRem (s : State) (e i : Fin 4) : Nat :=
  let tm := s.engines[e].timers[i]
  if tm.run then (tm.expiry - s.now + 999999) / 1000000 else 0

/-! ## Registers of the masters (R164, R183, R189) -/

/-- A write of something the signature covers, after VERIFY and before START: SIG becomes NONE (R189). -/
def State.yeUnsign (s : State) (e : Fin 4) : State := if s.engines[e].watch then s.wr .YEe_STAT_SIG e 0 else s

/-- A write of IMEM word `a`: only in RESET, HALTED or TRAPPED, else WERR (R164). -/
def State.yeImemWrite (s : State) (e : Fin 4) (a : Nat) (v : Word) : State :=
  let st := s.yeState e
  if st = stReset ∨ st = stHalted ∨ st = stTrapped then
    let x := s.engines[e]
    (s.setYe e { x with imem := Store.set x.imem a v 0 }).yeUnsign e
  else s.flag .YEe_EV_WERR e

/-- DMEM words from `a` on have been written: SIG, where the signature covers the first of them (R189). -/
def State.yeTouched (s : State) (e : Fin 4) (a : Nat) : State :=
  if a < s.rd .YEe_SIGLEN_DMEM_WORDS e then s.yeUnsign e else s

/-- A DMEM word written by the engine itself (R189, R198). -/
def State.yeDmemWrite (s : State) (e : Fin 4) (a : Nat) (v : DWord) : State :=
  (s.setYe e (s.engines[e].dmemPut a v)).yeTouched e a

/-- A DMEM word written by a master (R164, R189). -/
def State.yeMasterPut (s : State) (e : Fin 4) (a : Nat) (v : DWord) : State :=
  (s.setYe e (s.engines[e].masterPut s.now a v)).yeTouched e a

/-- The words of an engine as they stood before the masters' writes of this YAC cycle; and an engine `y` with those writes (R164). -/
def Engine.unput (x : Engine) (now : Nat) : Engine := (x.putsNow now).foldl (fun y p => y.dmemPut p.word p.old) x
def Engine.reput (x : Engine) (now : Nat) (y : Engine) : Engine :=
  (x.putsNow now).foldl (fun y p => y.dmemPut p.word (x.dmemAt p.word)) y

/-- The engine's accesses to DMEM are performed before those of the masters in the same YAC cycle (R164): what `f` does, it does
on the words as the masters found them, and the masters' writes are the ones that remain. -/
def State.engineFirst (s : State) (e : Fin 4) (f : State → State) : State :=
  let x := s.engines[e]
  if (x.putsNow s.now).isEmpty then f s
  else
    let t := f (s.setYe e (x.unput s.now))
    t.setYe e (x.reput s.now t.engines[e])

/-- The pending lines that a clearing of the lines `got` leaves set: those that pulsed in the same YAC cycle (R172). -/
def State.pulsedNow (s : State) : DWord := if s.pulsed.1 = yacCycle s.now then s.pulsed.2 else 0

/-- The lines `got` of an engine's EVPEND cleared, but for a pulse in the same cycle (R172, R202). -/
def State.clearLines (s : State) (e : Fin 4) (got : DWord) : State :=
  { s with evpend := s.evpend.set e (s.evpend[e] ^^^ (s.evpend[e] &&& got &&& ~~~s.pulsedNow)) }

/-- PEND taken by a WAITEV: an expiry in the same YAC cycle leaves it set (R174). -/
def YeTimer.take (tm : YeTimer) (now : Nat) : YeTimer :=
  { tm with pend := tm.pend && yacCycle tm.pendAt == yacCycle now }

/-- YEe_PC, YEe_Gi and YEe_PRED may be written: on the CL-6416-BE, HALTED or TRAPPED (R183). -/
def State.yeWritable (s : State) (e : Fin 4) : Bool :=
  !s.isBL && (s.yeState e == stHalted || s.yeState e == stTrapped)

/-- An engine register written under R183. -/
def State.yePoke (s : State) (e : Fin 4) (f : Engine → Engine) : State :=
  if s.yeWritable e then s.setYe e (f s.engines[e]) else s.flag .YEe_EV_WERR e

end Sys2Proof.Machine
end

