-- ==== Sys2Proof/Machine/Granary.lean ====
section
/-!
DEFINITION. The Granary (R261 to R278): zeroisation and tamper, the identity and reseed, capsules, the commit word.
-/
namespace Sys2Proof.Machine

def State.setGrn (s : State) (x : GranaryState) : State := { s with grn := x }

/-! ## Results (R279) -/

def capNone : Nat := 0
def capBusy : Nat := 1
def capStaged : Nat := 2
def capDone : Nat := 3
def capBadFormat : Nat := 4
def capKeyless : Nat := 5
def capWrongDevice : Nat := 6
def capWrongVgen : Nat := 7
def capStaleCtr : Nat := 8
def capBadSigner : Nat := 9
def capDecryptFail : Nat := 10
def capBadOp : Nat := 11
def capLocked : Nat := 12
def capOrphan : Nat := 13
def capBadSig : Nat := 14
def capTampered : Nat := 15
def capAborted : Nat := 16

def State.capResult (s : State) : Nat := s.rd .GRN_CAP_STAT_RESULT

/-- A capsule is under way: RESULT reads BUSY or STAGED. -/
def State.capOpen (s : State) : Bool := s.capResult == capBusy || s.capResult == capStaged

/-- RESULT set; leaving BUSY or STAGED raises vector 25 (R381). -/
def State.capGo (s : State) (r : Nat) : State :=
  let old := s.capResult
  let s' := s.wr .GRN_CAP_STAT_RESULT 0 r
  if (old = capBusy ∨ old = capStaged) ∧ r ≠ old then s'.raiseInt 25 else s'

/-- The staging area cleared, and the commit word with it. -/
def State.clearStaging (s : State) : State := s.setGrn { s.grn with staged := [], kind := 0, ctr := 0, word := 0 }

/-- A capsule ends with a result and its staging area is cleared (R270). -/
def State.capEnd (s : State) (r : Nat) : State := (s.clearStaging).capGo r

/-! ## Slots (R261 to R264) -/

def State.slotUsage (s : State) (n : Nat) : Nat := s.rd .GRN_SLOTn_META_USAGE n
def State.slotLocked (s : State) (n : Nat) : Bool := s.bit .GRN_SLOTn_META_LOCK n

/-- GRN_STAT.CLAIMED: a slot holds USAGE OWNER. -/
def State.claimed (s : State) : Bool := (List.range 64).any (fun n => s.slotUsage n == 5)

/-- The public key of a slot of USAGE CODESIGN or OWNER. -/
def State.slotPoint (s : State) (n : Fin 64) : Point :=
  let x := s.grn.keys[n].toNat
  (liftX x (s.bit .GRN_SLOTn_META_YPAR n)).map (fun y => (x, y))

/-- An entry applied to its slot, absolute values, EPOCH included (R271, R273); the token engine drops what it holds of the
old epoch (R253). -/
def State.applyOp (s : State) (o : StagedOp) : State :=
  let n := o.slot.val
  let s := (((s.wr .GRN_SLOTn_META_USAGE n o.usage).wrB .GRN_SLOTn_META_LOCK n o.lock).wrB .GRN_SLOTn_META_YPAR n o.ypar).wr
    .GRN_SLOTn_EPOCH n o.epoch
  (s.setGrn { s.grn with keys := s.grn.keys.set o.slot o.key }).dropOld

/-! ## Zeroisation (R276, R277) -/

/-- Causes of GRN_TAMP_STAT. -/
def causeSensor : Nat := 1
def causeCmd : Nat := 2
def causeRelease : Nat := 3
def causeVbat : Nat := 4

/-- Every slot emptied, metadata and EPOCH. -/
def State.emptySlots (s : State) : State :=
  s.forAll 64 (fun s n => (((s.wr .GRN_SLOTn_META_USAGE n 0).wr .GRN_SLOTn_META_LOCK n 0).wr .GRN_SLOTn_META_YPAR n 0).wr
    .GRN_SLOTn_EPOCH n 0)

/-- The vault overwritten: RS, the slots, the staging area, the commit word, the identity key. VGEN, UPD_CTR and the tamper
records stay. -/
def State.wipeVault (s : State) : State :=
  let g := s.grn
  let s := s.setGrn { g with rs := 0, keys := Vector.replicate 64 0, d := 0, qx := 0, qy := 0, kind := 0, ctr := 0, staged := [],
                             word := 0 }
  s.emptySlots.wr .GRN_STAT_KEYLESS 0 1

/-- A zeroisation (R276): the wipe, the record of its cause and time, the token engine's scrub, FSRC40. The report of a tamper
in KEEP waits for the next start-up; from supplies good until the keeper runs it is TAMPER_AT_BOOT (R277). A capsule under way ends
with TAMPERED. -/
def State.zeroise (s : State) (cause : Nat) : State :=
  let s := s.wipeVault
  let s := (s.wr .GRN_TAMP_STAT_CAUSE 0 cause).wr .GRN_TAMP_TIME 0 (Config.realTime s.now)
  let s := s.incSat .GRN_ZCOUNT 0
  let s := if s.capOpen && cause ≠ causeRelease then s.capGo capTampered else s
  if s.boot.supplies then
    let s := s.tokScrub
    let s := if s.boot.keeperRan || cause ≠ causeSensor then s else s.flag .GRN_STAT_TAMPER_AT_BOOT 0
    s.raise 40
  else if cause = causeSensor then s.setGrn { s.grn with keepTamper := true }
  else s

/-- Sensor `n` is enabled: 0 to 6 by GRN_TAMP_CFG, 7 and 8 always (R275). -/
def State.sensorOn (s : State) (n : Fin 9) : Bool := if n.val < 7 then s.bitOf .GRN_TAMP_CFG_EN 0 n else true

/-- An enabled sensor fires: it is recorded, and the vault zeroises (R275, R276). -/
def State.tamper (s : State) (n : Fin 9) : State :=
  if s.sensorOn n then (s.hwSet .GRN_TAMP_STAT_SENSOR 0 (2 ^ n.val)).zeroise causeSensor else s

/-- The level that tamper loop `n` is to show on TAMPn_IN: in ACTIVE mode what TAMPn_OUT drives, else LEVEL (R275). -/
def State.loopLevel (s : State) (n : Fin 4) : Bool :=
  if s.bitOf .GRN_TAMP_CFG_ACTIVE 0 n then s.grn.tampOut[n] else s.bitOf .GRN_TAMP_CFG_LEVEL 0 n

/-- A sensor's condition on its reading (R275): a loop's level on TAMPn_IN, 0 low; VBAT in mV; the AON temperature in 0.001 °C;
the crystal's frequency in 0.001 Hz; the AON supply's step within 1 µs in mV; the mesh, not 0 while broken or shorted. -/
def State.fires (s : State) (n : Fin 9) (x : Int) : Bool :=
  if h : n.val < 4 then s.loopLevel ⟨n.val, h⟩ != (x != 0)
  else if n.val = 4 then x < 1800 || 3900 < x
  else if n.val = 5 then x < -55000 || 125000 < x
  else if n.val = 6 then x < 31129600 || 34406400 < x
  else if n.val = 7 then 300 < x || x < -300
  else x != 0

/-- A loop in ACTIVE mode drives its next bit. -/
def State.nextPattern (s : State) (n : Fin 4) : State :=
  if s.bitOf .GRN_TAMP_CFG_ACTIVE 0 n then
    s.fresh.2.setGrn { s.grn with tampOut := s.grn.tampOut.set n (Config.tamperBit s.draw) }
  else s

/-- A continuous sensor's evaluation: with main supplies all of them but the VBAT range, which watches only their absence;
in KEEP the glitch and shield sensors (R275). -/
def State.tamperNow (s : State) (n : Fin 9) (x : Int) : State :=
  let watched := if s.boot.supplies then n.val != 4 else s.boot.keep && 7 ≤ n.val
  if watched then
    let fire := s.fires n x
    let s := if h : n.val < 4 then s.nextPattern ⟨n.val, h⟩ else s
    if fire then s.tamper n else s
  else s

/-- The 8 Hz sampling of sensors 0 to 6 in KEEP, with a reading of each (R275). -/
def State.tamperSample (s : State) (x : Vector Int 7) : State :=
  if !s.boot.keep then s
  else
    let on := (List.finRange 7).foldl (fun acc (n : Fin 7) =>
      if s.bitOf .GRN_TAMP_CFG_EN 0 n && s.fires ⟨n.val, by omega⟩ x[n] then acc + 2 ^ n.val else acc) 0
    let s := s.forAll 4 State.nextPattern
    if on = 0 then s
    else
      let s := s.hwSet .GRN_TAMP_STAT_SENSOR 0 on
      s.zeroise causeSensor

/-! ## Identity and reseed (R265, R274) -/

/-- The unique ID, byte 0 first (R279). -/
def uidBytes : List Byte := leBytes 16 Config.uid.toNat

/-- The identity key derived from RS, UID and VGEN (R265); none is derived where the trim check failed (R364). -/
def State.deriveIdentity (s : State) : State :=
  if s.boot.otpBad then s
  else
    let g := s.grn
    let v := beNat (hkdf uidBytes (beBytes 32 g.rs.toNat) (ascii "COLBILITH IDENTITY" ++ [BitVec.ofNat 8 (s.rd .GRN_VGEN)]) 40)
    let d := v % (ecN - 1) + 1
    match ecMul d ecG with
    | some (x, y) => s.setGrn { g with d := d, qx := x, qy := y }
    | none => s

/-- A reseed (R274): a fuse, RS, the counters, the identity, the end of keylessness; or its refusal. Power fails after `steps`
of its five steps; a vault that stays keyless holds no RS. -/
def State.reseed (s : State) (steps : Fin 6) : State :=
  if s.bit .GRN_STAT_KEYLESS && s.rd .GRN_VGEN < 255 && s.bit .GRN_STAT_ENTROPY_OK && !s.grn.entropyBad && !s.boot.otpBad then
    let s := if 1 ≤ steps.val then s.wr .GRN_VGEN 0 (s.rd .GRN_VGEN + 1) else s
    let s := if 3 ≤ steps.val then s.emptySlots.wr .GRN_UPD_CTR 0 0 else s
    if steps.val < 5 then s
    else
      let rs := Config.entropy256 s.draw
      (s.fresh.2.setGrn { s.grn with rs := rs }).deriveIdentity.wr .GRN_STAT_KEYLESS 0 0
  else s.flag .GRN_CTRL_RFAIL 0

/-- GRN_CTRL written: RFAIL is W1C; with CONFIRM 0x5A masters 1 to 3 zeroise, or ask for a reseed, which goes through or ends
after `steps` (R274, R276). -/
def State.grnCtrl (s : State) (m : Master) (v : Word) (steps : Fin 6) : State :=
  let s := s.writeWord .GRN_CTRL 0 v
  let may := match m with
    | .pcie | .spi | .keeper => true
    | _ => false
  let ok := may && fieldOf .GRN_CTRL_CONFIRM v == 0x5A
  let s := if ok && v.toNat.testBit 0 then s.zeroise causeCmd else s
  if ok && v.toNat.testBit 1 then s.reseed steps else s

/-! ## The capsule (R267 to R270) -/

/-- The capsule in the window, its first `len` bytes. -/
def State.capBytes (s : State) (len : Nat) : List Byte :=
  ((List.range ((len + 3) / 4)).flatMap (fun i => wordBytes (Store.get s.grn.win i 0))).take len

/-- An operation of a capsule, from its 40 bytes. -/
def capOp (b : List Byte) : Nat × Nat × Nat × Nat × Nat := (leAt b 0 1, leAt b 1 1, leAt b 2 1, leAt b 3 5, beAt b 8 32)

/-- The format of step 2. -/
def capFormatOk (c : List Byte) (len : Nat) : Bool :=
  let kind := leAt c 5 1
  let nops := leAt c 7 1
  len == 192 + 40 * nops && slice c 0 4 == [0x52, 0x4C, 0x44, 0x4E] && leAt c 4 1 == 1 && kind ≤ 2
    && (if kind = 2 then nops == 0 else 1 ≤ nops && nops ≤ 16) && leAt c 25 3 == 0 && leAt c 97 3 == 0
    && (kind != 1 || leAt c 6 1 == 0xFF)

/-- The rules of R268 on the decrypted operations: BAD_OP, LOCKED or ORPHAN, or the entries staged with their new EPOCHs.
A CLAIM without an OWNER operation would leave no OWNER, since no slot holds one before it: ORPHAN. -/
def State.stageOps (s : State) (ops : List (Nat × Nat × Nat × Nat × Nat)) : Nat ⊕ List StagedOp :=
  let bad := fun (o : Nat × Nat × Nat × Nat × Nat) =>
    let (slot, usage, flags, rsv, key) := o
    decide (63 < slot) || decide (5 < usage) || decide (3 < flags) || rsv != 0 || (usage == 0 && key != 0)
      || ((usage == 4 || usage == 5) && (liftX key (flags.testBit 1)).isNone)
  let slots := ops.map (·.1)
  if ops.any bad || slots.eraseDups.length != slots.length then .inl capBadOp
  else if slots.any (fun n => s.slotLocked n) then .inl capLocked
  else
    let staged := ops.map (fun o => (⟨Fin.ofNat 64 o.1, o.2.1, o.2.2.1.testBit 0, o.2.2.1.testBit 1,
      BitVec.ofNat 256 o.2.2.2.2, (s.rd .GRN_SLOTn_EPOCH o.1 + 1) % 2 ^ 32⟩ : StagedOp))
    let owner := (List.range 64).any (fun n => match ops.find? (fun o => o.1 == n) with
      | some o => o.2.1 == 5
      | none => s.slotUsage n == 5)
    if owner then .inr staged else .inl capOrphan

/-- Steps 2 to 9 of R270: the failure, or KIND, CTR and the entries to stage. -/
def State.checkCapsule (s : State) : Nat ⊕ (Nat × Nat × List StagedOp) :=
  let len := s.rd .GRN_CAP_LEN
  let c := s.capBytes len
  let kind := leAt c 5 1
  let nops := leAt c 7 1
  let signer := leAt c 6 1
  let ctr := leAt c 28 4
  if !capFormatOk c len then .inl capBadFormat
  else if s.bit .GRN_STAT_KEYLESS then .inl capKeyless
  else if slice c 8 16 != uidBytes || s.boot.otpBad then .inl capWrongDevice
  else if leAt c 24 1 != s.rd .GRN_VGEN then .inl capWrongVgen
  else if ctr ≤ s.rd .GRN_UPD_CTR then .inl capStaleCtr
  else if (if kind = 1 then s.claimed else decide (63 < signer) || s.slotUsage signer != 5) then .inl capBadSigner
  else
    let ex := beAt c 33 32
    let ey := beAt c 65 32
    let z := if leAt c 32 1 = 4 ∧ onCurve ex ey = true then ecMul s.grn.d (some (ex, ey)) else none
    match z with
    | none => .inl capDecryptFail
    | some (zx, _) =>
      let key := hkdf (c.take 32) (beBytes 32 zx) (ascii "COLBILITH RELDON") 32
      let p := gcmOpen key (slice c 100 12) (c.take 112) (slice c 112 (40 * nops)) (slice c (112 + 40 * nops) 16)
      if !p.2 then .inl capDecryptFail
      else
        let ops := (chunks 40 nops p.1).map capOp
        match s.stageOps ops with
        | .inl e => .inl e
        | .inr staged =>
          let pt : Point :=
            if kind = 1 then
              match ops.find? (fun o => o.2.1 == 5) with
              | some o => (liftX o.2.2.2.2 (o.2.2.1.testBit 1)).map (fun y => (o.2.2.2.2, y))
              | none => none
            else s.slotPoint (Fin.ofNat 64 signer)
          let off := 128 + 40 * nops
          match pt with
          | some (x, y) =>
            if ecdsaVerify x y (sha256 (c.take off)) (beAt c off 32) (beAt c (off + 32) 32) then .inr (kind, ctr, staged)
            else .inl capBadSig
          | none => .inl capBadSig

/-- SUBMIT by master 1, 2 or 3 (R270, step 1). -/
def State.capSubmit (s : State) : State :=
  if s.capResult = capBusy then s.flag .GRN_CAP_STAT_WERR 0
  else (s.clearStaging).capGo capBusy

/-- The verification of a BUSY capsule completes (R270, steps 2 to 9). -/
def State.capVerified (s : State) : State :=
  if s.capResult ≠ capBusy then s
  else
    match s.checkCapsule with
    | .inl e => s.capEnd e
    | .inr (kind, ctr, staged) => (s.setGrn { s.grn with kind := kind, ctr := ctr, staged := staged }).capGo capStaged

/-! ## Commit (R271 to R273, R278) -/

/-- Steps 2 to 4 of R271: the entries applied, or for a RELEASE the zeroisation that keeps UPD_CTR; then UPD_CTR, and the
commit word and the staging area cleared. -/
def State.finishCommit (s : State) (ctr : Nat) : State :=
  let kind := s.grn.kind
  let staged := s.grn.staged
  let s := if kind = 2 then s.zeroise causeRelease else staged.foldl State.applyOp s
  ((s.wr .GRN_UPD_CTR 0 ctr).clearStaging).capGo capDone

/-- A staged entry as the bytes that the commit word's CRC covers. -/
def StagedOp.bytes (o : StagedOp) : List Byte :=
  leBytes 1 o.slot ++ leBytes 1 o.usage ++ leBytes 1 (o.lock.toNat + o.ypar.toNat * 2) ++ leBytes 4 o.epoch
    ++ beBytes 32 o.key.toNat

/-- The commit word for a counter value: CTR, and above it the CRC-32C over CTR, VGEN and the staged entries (R271). -/
def State.commitWord (s : State) (ctr : Nat) : DWord :=
  joinPair (BitVec.ofNat 32 ctr)
    (crc32c (leBytes 4 ctr ++ leBytes 1 (s.rd .GRN_VGEN) ++ s.grn.staged.flatMap StagedOp.bytes))

/-- COMMIT by master 3 while STAGED (R271). `cut` tells where the main supplies fail, if they do: after the commit word, or
in the midst of writing it, which leaves the word given. -/
def State.capCommit (s : State) (cut : CommitCut) : State :=
  if s.capResult ≠ capStaged then s
  else
    let ctr := s.grn.ctr
    let w := s.commitWord ctr
    match cut with
    | .none => (s.setGrn { s.grn with word := w }).finishCommit ctr
    | .afterWord => s.setGrn { s.grn with word := w }
    | .torn left => s.setGrn { s.grn with word := left }

/-- The commit word examined (R273): where its CRC holds the commit is finished and AON_FINISHED set; a torn one is cleared with
the staging area, and the capsule ends with ABORTED. -/
def State.examineWord (s : State) : State :=
  let w := s.grn.word
  let ctr := (w.setWidth 32).toNat
  if w = 0 then s
  else if w = s.commitWord ctr then (s.finishCommit ctr).flag .GRN_STAT_AON_FINISHED 0
  else s.capEnd capAborted

/-- A warm reset or a restart of the keeper (R278): a capsule under way ends with ABORTED, and a commit whose word is written
is finished. -/
def State.capAbort (s : State) : State :=
  if s.grn.word = 0 then (if s.capOpen then s.capEnd capAborted else s) else s.examineWord

/-- GRN_CAP_CTRL written: SUBMIT by masters 1 to 3, COMMIT by master 3. -/
def State.capCtrl (s : State) (m : Master) (v : Word) : State :=
  let may := match m with
    | .pcie | .spi | .keeper => true
    | _ => false
  let s := if may && v.toNat.testBit 0 then s.capSubmit else s
  if m == .keeper && v.toNat.testBit 1 then s.capCommit .none else s

/-- A word of GRN_CAPWIN written: by masters 1 to 3, ignored while RESULT reads BUSY or STAGED. -/
def State.capWindow (s : State) (m : Master) (i : Nat) (v : Word) : State :=
  let may := match m with
    | .pcie | .spi | .keeper => true
    | _ => false
  if may && !s.capOpen then s.setGrn { s.grn with win := Store.set s.grn.win i v 0 } else s

/-! ## Loss of power (R277) -/

/-- VBAT falls below retention with the main supplies absent: the vault contents are lost, and with them every field that
only VBAT kept; the next start-up finds the vault keyless with cause VBAT_LOSS. -/
def State.vaultLost (s : State) : State :=
  let vgen := s.rd .GRN_VGEN
  let g := fun (k : Nat) => (Field.GRN_STAT_KEYLESS).ctorIdx ≤ k % 1024 && k % 1024 < (Field.MBn_BIND_END0).ctorIdx
  let s : State := { s with regs := s.regs.filter (fun c => !g c.1), grn := GranaryState.init }
  (s.wr .GRN_VGEN 0 vgen).wr .GRN_TAMP_STAT_CAUSE 0 causeVbat

/-! ## What masters read (R262, R279) -/

/-- GRN_PUB_DATAi: the x coordinate of a slot of USAGE 4 or 5. -/
def State.pubData (s : State) (m : Master) (i : Nat) : Word :=
  let n := s.grn.pubSel[m.id]
  if s.slotUsage n = 4 ∨ s.slotUsage n = 5 then
    BitVec.ofNat 32 (leAt (beBytes 32 (s.grn.keys[Fin.ofNat 64 n]).toNat) (4 * i) 4)
  else 0

/-- GRN_IDPUBi: X ‖ Y; zero while keyless, and after a failed OTP check (R364). -/
def State.idPub (s : State) (i : Nat) : Word :=
  if s.boot.otpBad then 0
  else BitVec.ofNat 32 (leAt (beBytes 32 s.grn.qx ++ beBytes 32 s.grn.qy) (4 * i) 4)

/-- GRN_STAT as it reads. -/
def State.grnStat (s : State) : Word :=
  BitVec.ofNat 32 (s.regVal .GRN_STAT 0 + s.claimed.toNat * 2 + (decide (s.rd .GRN_VGEN = 255)).toNat * 2 ^ 5)

/-- The CODESIGN key of slot YE_POLICY.SIGSLOT (R188). -/
def State.signKey (s : State) : Point :=
  let n := s.rd .YE_POLICY_SIGSLOT
  if s.slotUsage n = 4 then s.slotPoint (Fin.ofNat 64 n) else none

/-- The program signature of engine `e` verifies (R188): ECDSA P-256 over SHA-256 of the signed words, under the key that
its VERIFY found (R264). -/
def State.sigVerifies (s : State) (e : Fin 4) : Bool :=
  let x := s.engines[e]
  let iw := s.rd .YEe_SIGLEN_IMEM_WORDS e
  let dw := s.rd .YEe_SIGLEN_DMEM_WORDS e
  let msg := (List.range iw).flatMap (fun a => wordBytes (x.imemAt a))
    ++ (List.range dw).flatMap (fun a => leBytes 8 (x.dmemAt a).toNat)
    ++ leBytes 2 (s.rd .YEe_ENTRY e) ++ leBytes 2 iw ++ leBytes 2 dw
  let sig := x.sig.toList.flatMap wordBytes
  match x.verKey with
  | some (px, py) => ecdsaVerify px py (sha256 msg) (beAt sig 0 32) (beAt sig 32 32)
  | none => false

end Sys2Proof.Machine
end

