-- ==== Sys2Proof/Machine/Xo.lean ====
section
/-!
DEFINITION. The XO and ATOM measurement block (R39, R40, R78): both qualifications, the atomic input, its presence and its
least-squares result; and the start of the timebase (R366).
-/
namespace Sys2Proof.Machine

/-! ## Coarse and fine qualification (R39, R76, R366) -/

/-- The first pass of the coarse qualification (R366): the timebase, the plane ticks and the TODs start from zero, and each
APLL with EN = 1 begins R88. -/
def State.firstQualified (s : State) : State :=
  let s : State := { s with timebase := true, tick0 := s.now, tick := 0, due := false }
  let s := s.forAll 4 (fun s p => s.setTod p { s.tods[p] with base := 0, since := s.now, past := [] })
  let s := if s.rd .DEV_STATE_ERR = 2 then s.setDev .DEV_STATE_ERR 0 else s
  let s := s.setDev .DEV_STATE_TIMING 3
  let s := s.forAll 2 (fun s x => if s.bit .APLLx_CTRL_EN x && s.ap x = apOff then s.enableApll x else s)
  s.timingUp

/-- A 1 ms gate of XO against ROSC_A ends with the fractional error `err` (R39). The gates run in step 4 of start-up until
they pass, and while XO is lost. An error beyond its field leaves the field free (entry 94). -/
def State.coarseGate (s : State) (err : Rat) : State :=
  let starting := s.rd .DEV_STATE_TIMING == 2 && !s.timebase && s.bit .BOOT_STAT_CFG_VALID
  if !starting && !s.bit .XO_MON_LOST then s
  else
    let pass := decide (ratAbs err ≤ 2 / 100)
    let s := (s.wr .XO_STAT_COARSE 0 (if pass then 1 else 2)).wr .XO_STAT_COARSE_ERR 0
      (fitSigned 4 12 (roundFree 21 (err * 10000)))
    if pass then (if s.timebase then s.xoBack else s.firstQualified)
    else if starting && s.boot.stepAt + psPerS ≤ s.now && s.rd .DEV_STATE_ERR != 4 then s.setDev .DEV_STATE_ERR 2
    else s

/-- Edges of ATOM_IN, as timestamped, in a fine gate: 1000 of the internally divided clock, or one interval of 1PPS (R39). -/
def State.fineEdges (s : State) : Nat := if s.rd .ATOM_CFG_TYPE = 3 then 1 else 1000

/-- The fine gate that runs has all its edges (R39). -/
def State.fineDone (s : State) : Bool :=
  match s.xo.fineFrom with
  | some k => decide (k + s.fineEdges ≤ s.xo.atomCount)
  | none => false

/-- A 1 s gate of XO against ATOM_IN ends with the fractional error `err`, and the next begins at the same edge (R39). -/
def State.fineGate (s : State) (err : Rat) : State :=
  if s.rd .ATOM_CFG_TYPE = 0 || !s.bit .ATOM_MEAS_PRESENT || !s.fineDone then s
  else
    let s : State := { s with xo := { s.xo with fineFrom := some s.xo.atomCount } }
    (s.wr .XO_STAT_FINE 0 (if ratAbs err ≤ 1 / 100000 then 1 else 2)).wrI .XO_STAT_FINE_ERR 0
      (satSigned 16 (roundFree 22 (err * 100000000)))

/-! ## ATOM_IN (R40, R78) -/

/-- Period of a timestamped ATOM_IN edge in ps (R40). -/
def State.atomPeriod (s : State) : Rat := if s.rd .ATOM_CFG_TYPE = 3 then (psPerS : Rat) else 1000000000

/-- ATOM_GATE in s (R43). -/
def State.atomGate (s : State) : Nat := max 1 (min 10000 (s.rd .ATOM_GATE))

/-- An ATOM_IN edge timestamped (R40). -/
def State.atomEdge (s : State) : State :=
  if s.rd .ATOM_CFG_TYPE = 0 then s
  else
    let x := s.xo
    let n := x.atomCount + 1
    let t := s.tdcTime 16 s.now
    let smp : Sample := ⟨t, n, s.predOf t, none⟩
    { s with xo := { x with atomCount := n, atomFirst := some (x.atomFirst.getD t), atomLast := some t
                            atomTimes := (t :: x.atomTimes).take 11
                            fineFrom := if x.fineFrom.isNone && s.bit .ATOM_MEAS_PRESENT then some n else x.fineFrom
                            fresh := smp :: x.fresh
                            gateEdges := if x.gateFrom.isSome && !x.gateBroken then (n, t) :: x.gateEdges
                              else x.gateEdges } }

/-- Slope of the least-squares line through points. -/
def lsSlope (pts : List (Rat × Rat)) : Rat :=
  let n : Rat := (pts.length : Rat)
  let mx := (pts.map (·.1)).foldl (· + ·) 0 / n
  let my := (pts.map (·.2)).foldl (· + ·) 0 / n
  let sxy := (pts.map (fun p => (p.1 - mx) * (p.2 - my))).foldl (· + ·) 0
  let sxx := (pts.map (fun p => (p.1 - mx) * (p.1 - mx))).foldl (· + ·) 0
  sxy / sxx

/-- The next gate starts now. -/
def State.startAtomGate (s : State) : State :=
  { s with xo := { s.xo with gateFrom := some s.now, gateLen := s.atomGate, gateEdges := [], gateBroken := false } }

/-- The result of ATOM_MEAS that a read in this SYS cycle returns (R28, R40). -/
def State.atomResult (s : State) : Result :=
  let x := s.xo
  if s.bit .ATOM_MEAS_VALID && sameCycle x.measAt s.now then x.before
  else ⟨s.rd .ATOM_MEAS_SEQ, s.bit .ATOM_MEAS_VALID, x.measAt, x.foff, x.phase, 0⟩

/-- ATOM_PHASE: device-timescale time against ATOM_IN since TYPE last changed, in ps (R43). Edges that were lost
leave their time in it (entry 97). -/
def State.atomPhase (s : State) : Int :=
  match s.xo.atomFirst, s.xo.atomLast with
  | some a, some b => b - a - roundFree 23 ((s.xo.atomCount - 1 : Nat) * s.atomPeriod)
  | _, _ => 0

/-- An ATOM_GATE ends (R40): a result unless PRESENT was 0 at some moment. A gate with fewer than two edges forms none. A
running keeper takes the result while FINE reads pass and no calibration run makes it STALE (R29, R84). -/
def State.atomGateEnd (s : State) : State :=
  let x := s.xo
  match x.gateFrom with
  | some g =>
    if s.now < g + x.gateLen * psPerS || s.rd .ATOM_CFG_TYPE = 0 then s
    else if x.gateBroken || !s.bit .ATOM_MEAS_PRESENT then { s with xo := { x with gateBroken := true } }
    else
      let s := if 2 ≤ x.gateEdges.length then
          let per := s.atomPeriod
          let pts := x.gateEdges.map (fun e => ((e.1 : Rat) * per, (e.2 : Rat) - (e.1 : Rat) * per))
          let w := fitSigned 5 64 (roundFree 24 (lsSlope pts * (2 ^ 60 : Nat)))
          let y := toSigned 64 w
          let s := { s with xo := { x with foff := BitVec.ofNat 64 w, phase := BitVec.ofInt 64 s.atomPhase, measAt := s.now
                                           before := s.atomResult
                                           measMid := g + x.gateLen * psPerS / 2 } }
          let s := (s.wr .ATOM_MEAS_SEQ 0 (s.rd .ATOM_MEAS_SEQ + 1)).wr .ATOM_MEAS_VALID 0 1
          if s.rd .DEV_STATE_KEEPER = 1 && s.rd .XO_STAT_FINE = 1 && !s.bit .CAL_STATE_RUN then
            { s with keeper := { s.keeper with series := (s.xo.measMid, y, x.gateLen) :: s.keeper.series } }
          else s
        else s
      s.startAtomGate
  | none => s

/-- A write of ATOM_CFG (R39, R40, R78): a change of TYPE restarts the gates, ATOM_PHASE and presence detection, with no valid
result until the first of the new gates (R28), and TYPE to OFF sets FINE to 0. -/
def State.writeAtomCfg (s : State) (v : Word) : State :=
  let was := s.rd .ATOM_CFG_TYPE
  let s := s.writeWord .ATOM_CFG 0 v
  let is := s.rd .ATOM_CFG_TYPE
  if was = is then s
  else
    let present := s.bit .ATOM_MEAS_PRESENT
    let s := s.wr .ATOM_MEAS_VALID 0 0
    let s := { s with xo := { s.xo with atomCount := 0, atomFirst := none, atomLast := none, atomTimes := []
                                        fineFrom := none, fresh := [], gateEdges := []
                                        gateBroken := true, gateLen := s.atomGate
                                        gateFrom := if is = 0 then none else some s.now } }
    let s := if is = 0 then s.wr .XO_STAT_FINE 0 0 else s
    if present then ((s.wr .ATOM_MEAS_PRESENT 0 0).pulse 51).sourceChange 20 3 1 else s

/-- ATOM_IN meets the presence criterion of its type at this instant (R78): 1PPS, the last interval within 1 s ± 10 µs and no
more than 1.5 s since its end; 5 and 10 MHz, the last ten edges of the divided clock within 10 ms ± 100 ppm and the next not
missed. -/
def State.atomMeets (s : State) : Bool :=
  let within := fun (a b len tol : Int) => decide (len - tol ≤ a - b) && decide (a - b ≤ len + tol)
  let e := s.xo.atomTimes
  match s.rd .ATOM_CFG_TYPE with
  | 0 => false
  | 3 =>
    match e with
    | a :: b :: _ => within a b 1000000000000 10000000 && decide ((s.now : Int) - a ≤ 1500000000000)
    | _ => false
  | _ =>
    match e[0]?, e[9]?, e[10]? with
    | some a, some c, some b => within a b 10000000000 1000000 && decide ((s.now : Int) - c ≤ 10000000000 + 1000000)
    | _, _, _ => false

/-- The presence criterion is first met (R78). -/
def State.atomRise (s : State) : State :=
  if !s.atomMeets || s.bit .ATOM_MEAS_PRESENT then s
  else
    let s := (s.wr .ATOM_MEAS_PRESENT 0 1).pulse 51
    let s := if s.xo.gateBroken || s.xo.gateFrom.isNone then s.startAtomGate else s
    s.sourceChange 20 1 3

/-- The presence criterion first fails (R78, FSRC1): the running gate forms no result, and a fine gate in progress is
discarded (R39). -/
def State.atomFall (s : State) : State :=
  if !s.bit .ATOM_MEAS_PRESENT || s.atomMeets then s
  else
    let s := (s.wr .ATOM_MEAS_PRESENT 0 0).pulse 51
    let s := { s with xo := { s.xo with gateBroken := true, gateEdges := [], fineFrom := none } }
    (s.sourceChange 20 3 1).raise 1

/-- MODEL_AGE counts a second, saturating, and OLD and MODEL_OLD follow (R83). -/
def State.modelAge (s : State) : State :=
  let s := s.incSat .MODEL_AGE 0
  let s := s.wrB .MODEL_CTRL_OLD 0 s.modelOld
  s.forAll 4 (fun s p => s.wrB .PLn_STATE_MODEL_OLD p s.modelOld)

end Sys2Proof.Machine
end

