-- ==== Sys2Proof/Machine/Tod.lean ====
section
/-!
DEFINITION. Setting and stepping a TOD (R141 to R143), second boundaries (R144), stamps and stamp-now (R149 to R152).
-/
namespace Sys2Proof.Machine

/-! ## Commands (R141) -/

/-- A command pending or refused (R141): its operands are taken now. -/
def State.todCmd (s : State) (p : Fin 4) (c : TodCmd) (ok : Bool) : State :=
  let d := s.tods[p]
  if d.cmd.isSome || !ok then s.flag .TODp_EV_REFUSED p
  else
    let sec := s.todSec p
    (s.setTod p { d with cmd := some (c, s.tick, sec) }).wr .TODp_STAT_PEND p 1

/-- OP 1, SET_TICK: refused while TODp_SET_NS holds 10⁹ or more. -/
def State.setTick (s : State) (p : Fin 4) : State :=
  s.todCmd p (.setTick (s.rd .TODp_SET_S p) (s.rd .TODp_SET_NS p)) (decide (s.rd .TODp_SET_NS p < 1000000000))

/-- OP 2, SET_SEC. -/
def State.setSec (s : State) (p : Fin 4) : State := s.todCmd p (.setSec (s.rd .TODp_SET_S p)) true

/-- OP 3, ADJ. -/
def State.todAdj (s : State) (p : Fin 4) : State := s.todCmd p (.adj (s.rdI .TODp_ADJ p)) true

/-- A write of TODp_CMD (R141). -/
def State.writeTodCmd (s : State) (p : Fin 4) (v : Word) : State :=
  match fieldOf .TODp_CMD v with
  | 1 => s.setTick p
  | 2 => s.setSec p
  | 3 => s.todAdj p
  | _ => s

/-! ## Second boundaries (R144, R146, R357) -/

/-- The elements of calibration that change at a second boundary of plane `p` (R357). -/
def State.calAtSecond (s : State) (p : Fin 4) (i : Nat) : Bool :=
  if i < 16 then s.predPlane i == p
  else if i = 16 then
    (match firstFin 4 (fun q => srcCode (s.rd .PLn_REFSEL_SRC q) == 20) with
      | some q => q
      | none => 0) == p
  else if 25 ≤ i then s.bit .CAL_APPLY_STEP_OK && s.outPlane (i - 25) == some p
  else false

/-- TODp reaches a whole second. -/
def State.second (s : State) (p : Fin 4) : State :=
  let d := s.tods[p]
  let sec := s.todSec p
  if !s.timebase || sec ≤ d.secDone then s
  else
    let s := (s.setTod p { d with secDone := sec }).holdCmd p
    let s := (s.flag .TODp_EV_SEC p).pulse (24 + p)
    let s := s.leapCheck p
    (s.calTakeElems (s.calAtSecond p)).calCheck

/-! ## Effect (R142, R143) -/

/-- The step of a command at this instant, and the new TOD where it sets one exactly. -/
def State.cmdStep (s : State) (p : Fin 4) (c : TodCmd) : Rat :=
  let now := s.tod p s.now
  match c with
  | .setTick sec ns => ((sec * 1000000000 + ns) * 1000 : Nat) - now
  | .setSec sec => (sec * psPerS : Nat) - (now / psPerS).floor * (psPerS : Rat)
  | .adj u => (u : Rat) / 64

/-- A command takes effect at a tick, or SET_SEC at a whole second: not while its region has a commit pending or in its
window (R141, R143). -/
def State.cmdDue (s : State) (p : Fin 4) (c : TodCmd) (tick sec : Nat) : Bool :=
  s.timebase && !s.committing p && (match c with
    | .setSec _ => decide (sec < s.todSec p)
    | _ => decide (tick < s.tick))

/-- s_r of a step of `d` ps, in units of 1/64 ps: what PBO falls by in ACQUIRE and LOCKED (R142). -/
def State.stepUnits (s : State) (p : Fin 4) (d : Rat) : Int :=
  let st := s.rd .PLn_STATE_STATE p
  if st = 1 || st = 2 then roundFree 25 (s.stepFor (srcCode (s.rd .PLn_REFSEL_SRC p)) d * 64) else 0

/-- The new PBO would leave its 48-bit range (R142). -/
def State.stepRefused (s : State) (p : Fin 4) (d : Rat) : Bool :=
  let new := s.rdI .PLn_PBO p - s.stepUnits p d
  satSigned 48 new != new

/-- PBO and the shadow offset under a step of `d` ps of the plane's time (R142). -/
def State.stepPbo (s : State) (p : Fin 4) (d : Rat) : State :=
  let u := s.stepUnits p d
  let s := s.wrI .PLn_PBO p (s.rdI .PLn_PBO p - u)
  s.shiftShadow p (d - (u : Rat) / 64)

/-- A pending TOD command takes effect (R141 to R143), or is refused at its effect where PBO would overflow. -/
def State.todApply (s : State) (p : Fin 4) : State :=
  let d := s.tods[p]
  match d.cmd with
  | none => s
  | some (c, tick, sec) =>
    if !s.cmdDue p c tick sec then s
    else
      let s := s.second p
      let d := s.tods[p]
      let x := s.cmdStep p c
      let s := (s.setTod p { d with cmd := none }).wr .TODp_STAT_PEND p 0
      if s.stepRefused p x then s.flag .TODp_EV_REFUSED p
      else
        let s := (s.stepPbo p x).stepTod p x
        match c with
        | .adj _ => s
        | .setTick sec ns =>
          (s.setTod p (s.tods[p].turn s.now ((sec * 1000000000 + ns) * 1000 : Nat) s.tods[p].word)).wr .TODp_STAT_SEC_VALID p 1
        | .setSec _ => s.wr .TODp_STAT_SEC_VALID p 1

/-! ## Stamps (R149 to R152) -/

/-- The plane of a stamp channel. -/
def State.stampPlane (s : State) (j : Fin 16) : Fin 4 := Fin.ofNat 4 (s.rd .STAMPj_CFG_PL j)

/-- The instant a source's event at `t` is stamped for, none for a reserved source (R149). -/
def State.stampInstant (s : State) (j : Fin 16) (t : Nat) : Option Int :=
  let c := s.rd .STAMPj_CFG_SRC j
  if c < 16 then some (s.tdcTime c t - s.rdI .INn_DELAY c)
  else if c = 16 then some (s.tdcTime c t)
  else if c ≤ 20 then some (t : Int)
  else if 32 ≤ c && c ≤ 95 then some ((t : Int) + s.rdI .OUTn_DELAY (c - 32))
  else none

/-- The bound of a stamp (R152), `link` being the link term where the source is a link. -/
def State.stampBound (s : State) (j : Fin 16) : Bound :=
  let c := s.rd .STAMPj_CFG_SRC j
  let p := s.stampPlane j
  let t := s.planes[p].terms
  let plain := t.total
  if s.rd .TEBp_TOTAL p = 0xFFFFFFFF then .unbounded
  else if c < 16 then plain.add (s.pathTerm c)
  else if c = 16 then plain.add (.ps 4)
  else if c ≤ 20 then plain.add (Bound.ofReg (s.rd .LZn_LINKTERM (c - 17)))
  else ({ t with outp := t.outp.max (s.outSum (Fin.ofNat 64 (c - 32))) } : Terms).total

/-- A lost stamp counted (R150). -/
def State.stampLost (s : State) (j : Fin 16) : State := (s.tally .STAMPj_STAT_LOST j).flag .STAMPj_STAT_OVF j

/-- Channel `j` stamps the instant `at_`, which has come (R149, R150): every DIV-th event, at most one per 500 ns. -/
def State.stampTake (s : State) (j : Fin 16) (at_ : Int) : State :=
  let x := s.stamps[j]
  let n := x.count + 1
  if n < max 1 (s.rd .STAMPj_CFG_DIV j) then s.setStamp j { x with count := n }
  else
    let s := s.setStamp j { x with count := 0 }
    let soon := match x.last with
      | some u => decide (at_ - u < 500000)
      | none => false
    if soon || 64 ≤ x.fifo.length then s.stampLost j
    else
      let p := s.stampPlane j
      let r := s.recordWith p (s.todAt p at_) (s.stampBound j).word
      s.setStamp j { x with fifo := x.fifo ++ [r], count := 0, last := some at_ }

/-- An event of a channel's source at instant `t` (R149). A delay may put the instant it is stamped for ahead: the TOD is
read for it (R139) once it has come. The FIFOs take nothing while a warm reset holds them (R160, R372). -/
def State.stampCapture (s : State) (j : Fin 16) (t : Nat) : State :=
  if !s.bit .STAMPj_CFG_EN j || s.boot.held then s
  else
    match s.stampInstant j t with
    | none => s
    | some at_ =>
      if at_ ≤ (s.now : Int) then s.stampTake j at_
      else s.setStamp j { s.stamps[j] with waits := s.stamps[j].waits ++ [at_] }

/-- The stamps of channel `j` whose instant has come. -/
def State.stampDue (s : State) (j : Fin 16) : State :=
  let w := s.stamps[j].waits
  let due := w.filter (fun a => decide (a ≤ (s.now : Int)))
  if due.isEmpty then s
  else
    let s := s.setStamp j { s.stamps[j] with waits := w.filter (fun a => decide ((s.now : Int) < a)) }
    due.foldl (fun s a => s.stampTake j a) s

/-- The stamps of all channels whose instant has come. -/
def State.stampsDue (s : State) : State := s.forAll 16 State.stampDue

/-- A word of a latched record, at addresses `addr` on. -/
def State.latchRec (s : State) (m : Master) (addr : Nat) (l : List Word) : State :=
  (l.zipIdx).foldl (fun s w => s.latchPut m (addr + 4 * w.2) w.1) s

/-- A read of STAMPj_REC0 pops the oldest record into the reader's latch (R150). -/
def State.stampPop (s : State) (m : Master) (j : Fin 16) : State :=
  let x := s.stamps[j]
  match x.fifo with
  | r :: rest => ((s.setStamp j { x with fifo := rest }).latchRec m (Reg.addr .STAMPj_REC j) r.words).ret m r.w0
  | [] => s.ret m (s.latchGet m (Reg.addr .STAMPj_REC j) 0 ||| 0x80000000)

/-- A write of STAMPj_CFG; EN = 0 flushes the FIFO (R149, R160). -/
def State.writeStampCfg (s : State) (j : Fin 16) (v : Word) : State :=
  let s := s.writeWord .STAMPj_CFG j v
  if s.bit .STAMPj_CFG_EN j then s else s.setStamp j StampState.init

/-- STAMP_NOW.GO (R151). -/
def State.stampAll (s : State) : State := { s with stampNow := Vector.ofFn (fun p : Fin 4 => s.record p) }

/-- A read of TODp_REC0 latches the current record (R160). -/
def State.readTodRec (s : State) (m : Master) (p : Fin 4) : State :=
  let r := s.record p
  (s.latchRec m (Reg.addr .TODp_REC p) r.words).ret m r.w0

/-- A read of TEBp_TOTAL latches the terms and the provenance (R160). -/
def State.readTebTotal (s : State) (m : Master) (p : Fin 4) : State :=
  let t := s.planes[p].terms
  let w (b : Bound) : Word := BitVec.ofNat 32 b.word
  let l := [w t.ref, w t.inp, w t.loop, w t.sw, w t.grow, w t.cal, w t.outp, BitVec.ofNat 32 s.planes[p].prov]
  (s.latchRec m (Reg.addr .TEBp_REF p) l).ret m (BitVec.ofNat 32 (s.rd .TEBp_TOTAL p))

end Sys2Proof.Machine
end

