-- ==== Sys2Proof/Machine/Calib.lean ====
section
/-!
DEFINITION. Board calibration (R347 to R361): a run and its tests, the image, its application and its return to silicon trims.
What the TDCs measure comes from outside as operands.
-/
namespace Sys2Proof.Machine

/-- CAL_STATE.PHASE codes (R361). -/
def calSettlePhase : Nat := 1
def calPhaseA : Nat := 2
def calPhaseB : Nat := 3
def calPhaseC : Nat := 4
def calPhaseD : Nat := 5

def State.calPhase (s : State) : Nat := s.rd .CAL_STATE_PHASE

/-- A phase begins. -/
def State.calTo (s : State) (p : Nat) : State := (s.setCal { s.cal with phaseAt := s.now }).wr .CAL_STATE_PHASE 0 p

/-! ## A run (R349 to R353) -/

/-- A run is refused (R349, R364). -/
def State.calRefused (s : State) : Bool :=
  s.bit .CAL_STATE_RUN || s.bit .XO_MON_LOST || s.boot.otpBad || !(s.apllLocked 0 && s.apllLocked 1) ||
  (List.range 4).any (fun p =>
    let st := s.rd .PLn_STATE_STATE p
    let c := srcCode (s.rd .PLn_REFSEL_SRC p)
    s.bit .PLn_CTRL_EN p && (st == 1 || st == 2) && (c ≤ 15 || c == 20))

/-- GO: the run starts, or ERR reads BUSY and nothing else changes (R349, R350). -/
def State.calGo (s : State) : State :=
  if s.calRefused then s.wr .CAL_STATE_ERR 0 3
  else
    let s := ((s.wr .CAL_STATE_RUN 0 1).wr .CAL_STATE_ERR 0 0).calTo calSettlePhase
    let s := s.setCal { s.cal with result := CalResult.init, rate := 0 }
    let s := s.forAll 16 State.calTake
    let s := s.forAll 8 (fun s b => s.setBank b { s.banks[b] with gateFrom := none })
    if 3 ≤ s.rd .SHED_STATE_STAGE then s.calAbort else s

/-- CAL_CTRL written: its fields, ABORT, and GO by masters 1 to 3. -/
def State.writeCalCtrl (s : State) (m : Master) (v : Word) : State :=
  let s := s.writeWord .CAL_CTRL 0 v
  let s := if v.toNat.testBit 1 then s.calAbort else s
  if v.toNat.testBit 0 && 1 ≤ m.id.val && m.id.val ≤ 3 then s.calGo else s

/-- log₂ N, 16 to 24 (R361). -/
def State.calHits (s : State) : Nat := max 16 (min 24 (s.rd .CAL_CTRL_HITS))

/-- A TDC's histogram passes R351 at the counted stimulus rate. -/
def State.tdcPasses (s : State) (rate : Nat) (h : List Nat) : Bool :=
  let e := 2 ^ s.calHits / 32
  decide (990000 ≤ rate ∧ rate ≤ 2020000) &&
  h.all (fun n => decide (e ≤ 4 * n) && decide (((n : Int) - e).natAbs * 100 ≤ e * s.rd .CAL_CTRL_MAXDEV))

/-- Upper bin edges in 1/16 ps of a histogram: running sums of the widths 2000 ps × n_i / N (R351). -/
def binEdges (n : Nat) (h : List Nat) : List Nat :=
  (h.foldl (fun (a : Nat × List Nat) x =>
    let sum := a.1 + x
    (sum, a.2 ++ [(roundNearest 61 ((32000 * sum : Nat) / (n : Rat))).toNat])) (0, [])).2

/-- Phase A ends with the histograms of TDCs 0 to 24: the tests, and phase B or the end of the run (R350 to R352). -/
def State.calPhaseAEnd (s : State) (hists : Vector (Vector Nat 32) 25) : State :=
  if s.calPhase ≠ calPhaseA then s
  else
    match firstFin 25 (fun t => !s.tdcPasses s.cal.rate hists[t].toList) with
    | some t => (s.wr .CAL_STATE_FAILTDC 0 t).calEnd 1
    | none =>
      let edges := hists.toList.map (fun h => binEdges (2 ^ s.calHits) h.toList)
      (s.setCal { s.cal with result := { s.cal.result with edges := edges } }).calTo calPhaseB

/-- What the silicon table gives at the APLL's present Tj: GAIN, then TAP0 to TAP15 (R96, R353). -/
def State.siliconAt (s : State) (x : Fin 2) : List Rat :=
  let b := trimBin (s.rdI .APLLx_TEMP x)
  let hi := min 15 (b.1 + 1)
  interp (s.otpGain x b.1) (s.otpGain x hi) b.2 ::
    (List.range 16).map (fun j => interp (s.otpTap x b.1 j) (s.otpTap x hi j) b.2)

/-- What a phase has measured when it ends: the rate in Hz counted over the last 5 ms of the settle interval; each TDC's mean
offset in 1/64 ps; each output's mean of loopback time less placement, after its bank TDC's offset, less the loopback
constant, in 1/64 ps; GAIN and TAP0 to TAP15 of an APLL in the units of R103. -/
def State.calAdvance (s : State) (d : CalPhase) : State :=
  match d with
  | .settle rate =>
    if s.calPhase = calSettlePhase && s.cal.phaseAt + 10000000000 ≤ s.now then
      (s.setCal { s.cal with rate := rate }).calTo calPhaseA
    else s
  | .phaseB offsets =>
    if s.calPhase = calPhaseB then
      (s.setCal { s.cal with result := { s.cal.result with offsets := offsets.toList } }).calTo calPhaseC
    else s
  | .phaseC means =>
    if s.calPhase = calPhaseC && s.cal.phaseAt + 400000000000 ≤ s.now then
      let corrs := (List.finRange 64).filterMap (fun (n : Fin 64) =>
        let f := s.rd .OUTn_CFG_FMT n
        if s.run n = 2 && f ≠ 0 && f ≤ 5 then some (n.val, -means[n]) else none)
      (s.setCal { s.cal with result := { s.cal.result with corrs := corrs } }).calTo calPhaseD
    else s
  | .phaseD x measured =>
    if s.calPhase = calPhaseD then
      match s.dtcOut x with
      | some n =>
        if s.dtcOk x n && s.cal.phaseAt + 340000000000 * s.dtcParts x ≤ s.now then
          let ds := List.zipWith (fun (a b : Rat) => roundFree 62 (a - b)) measured.toList (s.siliconAt x)
          let r := s.cal.result
          s.setCal { s.cal with result := { r with deltas := r.deltas.filter (fun y => y.1 != x.val) ++ [(x.val, ds)] } }
        else s
      | none => s
    else s

/-! ## The image (R354) -/

/-- A signed number as bytes. -/
def intBytes (n : Nat) (x : Int) : List Byte := leBytes n (ofSigned (8 * n) x)

/-- The mask of the numbers below `k` that a test holds for. -/
def maskOf (k : Nat) (f : Nat → Bool) : Nat := (List.range k).foldl (fun a i => if f i then a + 2 ^ i else a) 0

/-- Bytes 0 to 4091 of the image of a run's result. -/
def State.imageBody (s : State) : List Byte :=
  let r := s.cal.result
  let corr := fun n => (r.corrs.find? (fun c => c.1 == n)).map (·.2)
  let delta := fun x => ((r.deltas.find? (fun c => c.1 == x)).map (·.2)).getD (List.replicate 17 0)
  [0x51, 0x43, 0x41, 0x4C] ++ leBytes 2 1 ++ leBytes 2 (maskOf 2 (fun x => r.deltas.any (fun c => c.1 == x)))
    ++ leBytes 4 (s.rd .CAL_GEN) ++ intBytes 2 r.tj ++ leBytes 2 0
    ++ leBytes 16 (s.rd .CAL_BOARDIDi) ++ uidBytes
    ++ leBytes 4 (maskOf 25 (fun t => t < r.edges.length)) ++ leBytes 8 (maskOf 64 (fun n => (corr n).isSome)) ++ leBytes 4 0
    ++ (List.range 25).flatMap (fun t => (List.range 32).flatMap (fun i => leBytes 2 ((r.edges.getD t []).getD i 0)))
    ++ (List.range 25).flatMap (fun t => intBytes 4 (r.offsets.getD t 0)) ++ List.replicate 28 0
    ++ (List.range 64).flatMap (fun n => intBytes 4 ((corr n).getD 0))
    ++ (List.range 2).flatMap (fun x => (delta x).flatMap (intBytes 2) ++ List.replicate 30 0)
    ++ List.replicate 1916 0

/-- A byte string as the window's words. -/
def wordsOf (b : List Byte) : List (Nat × Word) :=
  (List.range 1024).filterMap (fun i =>
    let w := BitVec.ofNat 32 (leAt b (4 * i) 4)
    if w = 0 then none else some (i, w))

/-- The window's 4096 bytes. -/
def State.imageBytes (s : State) : List Byte :=
  (List.range 1024).flatMap (fun i => leBytes 4 (Store.get s.cal.window i 0).toNat)

/-- The number of APLLs that phase D measures. -/
def State.dtcCount (s : State) : Nat := ((List.finRange 2).filter (fun x => (s.dtcOut x).isSome)).length

/-- The run ends: the image in the window, READY, DONE, the inputs and the bank TDCs released (R350, step 8). -/
def State.calRunEnd (s : State) : State :=
  if s.calPhase = calPhaseD && s.cal.phaseAt + 340000000000 * s.dtcCount ≤ s.now then
    let s := s.setCal { s.cal with result := { s.cal.result with tj := s.rdI .APLLx_TEMP 0 } }
    let body := s.imageBody
    let s := s.setCal { s.cal with window := wordsOf (body ++ leBytes 4 (crc32c body).toNat) }
    (s.wr .CAL_STATE_READY 0 1).calOver
  else s

/-! ## Applying an image (R355 to R358) -/

/-- CAL_STATE.ERR for an image that is rejected, tested in the order of R356; none where it is accepted. -/
def imageError (b : List Byte) : Option Nat :=
  let zero := fun (o n : Nat) => (slice b o n).all (· == 0)
  if slice b 0 4 ≠ [0x51, 0x43, 0x41, 0x4C] || leAt b 4 2 ≠ 1 then some 4
  else if leAt b 4092 4 ≠ (crc32c (b.take 4092)).toNat then some 5
  else if slice b 32 16 ≠ uidBytes then some 6
  else if zero 14 2 && zero 60 4 && zero 1764 28 && zero 2082 30 && zero 2146 30 && zero 2176 1916 then none
  else some 4

/-- The value that an image gives element `i`, or its silicon trim. -/
def imageValue (b : List Byte) (i : Nat) : CalValue :=
  if i < 25 then
    if (leAt b 48 4).testBit i then
      .tdc ((List.range 32).map (fun k => leAt b (64 + 64 * i + 2 * k) 2)) (toSigned 32 (leAt b (1664 + 4 * i) 4))
    else .trim
  else if (leAt b 52 8).testBit (i - 25) then .out (toSigned 32 (leAt b (1792 + 4 * (i - 25)) 4))
  else .trim

/-- The 89 elements. -/
def calElems : List Nat := List.range 89

/-- Every element listed waits for its boundary; an output that is not RUNNING takes its value at once (R357). -/
def State.calWait (s : State) (l : List (Nat × CalValue)) (reverting : Bool) : State :=
  let s := s.setCal { s.cal with waiting := l, reverting := reverting }
  (s.calTakeElems (fun i => 25 ≤ i && s.run (i - 25) != 2)).calCheck

/-- The image is rejected: every calibrated element returns to its silicon trim (R356, R358). -/
def State.calReject (s : State) (err : Nat) : State :=
  let s := ((s.wr .CAL_STATE_ERR 0 err).flag .CAL_EV_REJECT 0).raise 41
  let s := s.forAll 2 (fun s x => if s.bit .APLLx_TRIM_CTRL_SRC x then s.loadTable x [] false else s)
  let s := if s.rd .CAL_STATE_APPLY = 0 then s else s.wr .CAL_STATE_APPLY 0 1
  s.calWait (s.cal.inForce.map (fun e => (e.1, .trim))) true

/-- The image is accepted: each element takes its value or its silicon trim, the DTC tables at once (R356, R357). -/
def State.calAccept (s : State) (b : List Byte) : State :=
  let s := (s.flag .CAL_EV_ACCEPT 0).wr .CAL_STATE_APPLY 0 1
  let s := s.forAll 2 (fun s x =>
    if (leAt b 6 2).testBit x then
      s.loadTable x ((List.range 17).map (fun k => toSigned 16 (leAt b (2048 + 64 * x.val + 2 * k) 2))) true
    else s.loadTable x [] false)
  s.calWait (calElems.map (fun i => (i, imageValue b i))) false

/-- CAL_APPLY.GO (R356, R364). -/
def State.calApply (s : State) : State :=
  if s.bit .CAL_STATE_RUN || s.boot.otpBad then s.wr .CAL_STATE_ERR 0 3
  else
    let b := s.imageBytes
    match imageError b with
    | some e => s.calReject e
    | none => s.calAccept b

/-- CAL_APPLY.REVERT (R358); while a run is in progress the DTC tables keep what they hold (R350). -/
def State.calRevert (s : State) : State :=
  let s := s.wr .CAL_STATE_APPLY 0 1
  let s := if s.bit .CAL_STATE_RUN then s.setCal { s.cal with tables := true } else s.loadSilicon
  s.calWait (calElems.map (fun i => (i, .trim))) true

/-- CAL_APPLY written: STEP_OK, then GO, then REVERT. -/
def State.writeCalApply (s : State) (v : Word) : State :=
  let s := s.writeWord .CAL_APPLY 0 v
  let s := if v.toNat.testBit 0 then s.calApply else s
  if v.toNat.testBit 1 then s.calRevert else s

/-- A word of the window written: by masters 1 to 3, while no run is in progress (R355). -/
def State.writeImage (s : State) (m : Master) (i : Nat) (v : Word) : State :=
  if m.id.val < 1 || 3 < m.id.val then s
  else if s.bit .CAL_STATE_RUN then s.flag .CAL_EV_WERR 0
  else s.setCal { s.cal with window := Store.set s.cal.window i v 0 }

end Sys2Proof.Machine
end

