-- ==== Sys2Proof/Machine/Lenuz.lean ====
section
/-!
DEFINITION. The Lenuz links (R213 to R233): frames, stamps and pairing, training and lock, pair swap, roles, shedding.
-/
namespace Sys2Proof.Machine

/-! ## State codes (R234) -/

def lzDown : Nat := 0
def lzAlign : Nat := 1
def lzSync : Nat := 2
def lzUp : Nat := 3
def lzLocked : Nat := 4
def lzCal : Nat := 5
def lzShed : Nat := 6

def State.lz (s : State) (n : Fin 4) : Nat := s.rd .LZn_STAT_STATE n

/-- A change of STATE, ACTIVE, PEER_ACTIVE or LOOP: STATE_CHG, event line 52 + n, and the link's log entry (R222, R313). -/
def State.lzChanged (s : State) (n : Fin 4) : State :=
  let s := (s.flag .LZn_EV_STATE_CHG n).pulse (52 + n)
  s.log (0x74 + n) (s.regVal .LZn_EV n)

/-- A one-bit status field set; a change is reported. -/
def State.lzBit (s : State) (f : Field) (n : Fin 4) (b : Bool) : State :=
  if s.bit f n = b then s else (s.wrB f n b).lzChanged n

/-- A change of what the planes see of a link: its grade is judged before and after, at each plane (R66, R223). -/
def State.lzGrade (s : State) (n : Fin 4) (f : State → State) : State :=
  let g := fun (p : Fin 4) => s.srcGrade p (16 + n)
  let s' := f s
  s'.forAll 4 (fun s p =>
    let g1 := s'.srcGrade p (16 + n)
    if g p = g1 then s else State.planeReact (16 + n) (g p) g1 s p)

/-! ## A pair-swap run (R228, R229) -/

/-- GATE in ms, held within 10 to 1000. -/
def State.lzGate (s : State) (n : Fin 4) : Nat := max 10 (min 1000 (s.rd .LZn_ACAL_GATE n))

/-- A run ends without a result: ABORTED, and the crosspoint returns to normal. -/
def State.lzAbort (s : State) (n : Fin 4) : State :=
  let l := s.links[n]
  if l.cal.isSome then
    ((s.setLink n { l with cal := none, gates := Vector.replicate 3 GateSum.zero }).wr .LZn_ACAL_RESULT n 3).wr
      .LZn_STAT_SWAPPED n 0
  else s

/-- STATE changes. A run in progress ends when the link leaves CAL, and LOCKED to ALIGN is FSRC58 + n (R299). -/
def State.lzGo (s : State) (n : Fin 4) (st : Nat) : State :=
  let old := s.lz n
  if old = st then s
  else
    let s := if st ≠ lzCal && !(old = lzCal && st = lzLocked) then s.lzAbort n else s
    let l := s.links[n]
    let l := { l with unlockedAt := if old = lzLocked then s.now else l.unlockedAt }
    let l := if lzUp ≤ st && st ≤ lzCal then l else { l with validAt := s.now, run := 0, recent := [], peerCal := none }
    let l := if st = lzUp then { l with upAt := s.now, steady := 0 } else l
    let l := if st = lzUp && old = lzSync then { l with rtd := GateSum.zero, rtdFrom := s.now, upMean := none } else l
    let s := s.setLink n l
    let s := (s.wr .LZn_STAT_STATE n st).lzChanged n
    let s := if lzUp ≤ st && st ≤ lzCal then s else s.wr .LZn_STAT_SWAPPED n 0
    if old = lzLocked && st = lzAlign then s.raise (58 + n) { inst := n } else s

/-- STATE changes, as the planes see it. -/
def State.lzMove (s : State) (n : Fin 4) (st : Nat) : State := s.lzGrade n (fun s => s.lzGo n st)

/-! ## Sending (R215, R216, R218) -/

/-- The plane of a link. -/
def State.lzPlane (s : State) (n : Fin 4) : Fin 4 := Fin.ofNat 4 (s.rd .LZn_CFG_PL n)

/-- The own plane's active source, the one PLn_REFSEL names, is this link (FOLLOWING of R216). -/
def State.lzFollowing (s : State) (n : Fin 4) : Bool := srcCode (s.rd .PLn_REFSEL_SRC (s.lzPlane n)) == 16 + n

/-- The payload words W0 to W15 (R216). -/
def State.lzPayload (s : State) (n : Fin 4) : List Word :=
  let l := s.links[n]
  let p := s.lzPlane n
  let w0 := l.seq % 65536 + s.rd .LZn_CFG_ROLE n * 2 ^ 16 + s.rd .LZn_STAT_SWAPPED n * 2 ^ 18 + l.cal.isSome.toNat * 2 ^ 19
    + (s.lzFollowing n).toNat * 2 ^ 20 + s.rd .LZn_STAT_ACTIVE n * 2 ^ 21 + s.tods[p].steps % 16 * 2 ^ 22 + p.val * 2 ^ 26
    + 2 ^ 28
  let rec_ : List Word := match l.txRec with
    | some r => r.words
    | none => (List.range 6).map (fun i => Config.firstTxrec s.draw i)
  let echo := l.arrivals.head?.getD (Config.firstEcho s.draw)
  let ns := echo.2 / 65536 % 1000000000
  let sec := echo.2 / 65536 / 1000000000
  let c := ofSigned 48 l.txWord
  [BitVec.ofNat 32 w0] ++ rec_ ++
  [BitVec.ofNat 32 (echo.1 % 65536 + s.rd .LZn_ACT_PRIO n * 2 ^ 16), BitVec.ofNat 32 ns,
   BitVec.ofNat 32 (sec % 65536 + echo.2 % 65536 * 65536), BitVec.ofNat 32 c, BitVec.ofNat 32 (c / 2 ^ 32),
   Config.uid.setWidth 32, 0, 0, 0]

/-- Characters 2 to 69 of a frame: the payload and its CRC-32C (R215). -/
def State.lzBody (s : State) (n : Fin 4) : List Byte :=
  let body := (s.lzPayload n).flatMap wordBytes
  body ++ leBytes 4 (crc32c body).toNat

/-- The first character boundary of a link at or after a whole microsecond of the device timescale, where a frame's marker
departs, on that timescale; a character lasts 3.2 ns (R215). -/
def lzMark (n : Fin 4) (us : Nat) : Nat :=
  let u := us * 1000000
  u + (3200 - (u + 3200 - Config.charPhase n % 3200) % 3200) % 3200

/-- That marker's instant. -/
def State.lzMarkAt (s : State) (n : Fin 4) (us : Nat) : Nat := s.tick0 + lzMark n us

/-- The microsecond of the device timescale that runs; none before the timebase starts (R366). -/
def State.lzNow (s : State) : Option Nat := if s.timebase then some ((s.now - s.tick0) / 1000000) else none

/-- Characters from the marker of one microsecond to that of the next: 312 or 313 (R215). -/
def lzSpan (n : Fin 4) (us : Nat) : Nat := (lzMark n (us + 1) - lzMark n us) / 3200

/-- The control characters of a line: K28.5, K28.1, K29.7 and the idle K28.3 (R215). -/
def lzStart : Symbol := .k 0xBC
def lzStart2 : Symbol := .k 0x3C
def lzEnd : Symbol := .k 0xFD
def lzIdle : Symbol := .k 0x7C

/-- What a line sends from one marker to the next (R215). -/
def State.lzFrame (s : State) (n : Fin 4) (us : Nat) : List Symbol :=
  [lzStart, lzStart2] ++ (s.lzBody n).map .d ++ [lzEnd] ++ List.replicate (lzSpan n us - 71) lzIdle

/-- A link's pairs as a run's own frame count has them (R228): swapped from frame 1000 G until 1000 (2 G + 1). -/
def swapAt (g k : Nat) : Bool := 1000 * g ≤ k && k < 1000 * (2 * g + 1)

/-- The claim of a PEER link (R231): while LOCKED, an end with the better of PRIO and DEVID claims ACTIVE unless the peer
does, and gives way to a peer that claims it with the better of them. YIELD clears the claim. -/
def State.lzClaim (s : State) (n : Fin 4) : State :=
  if s.rd .LZn_CFG_ROLE n ≠ 2 then s.lzBit .LZn_STAT_ACTIVE n false
  else if s.bit .LZn_ACT_YIELD n then s.lzBit .LZn_STAT_ACTIVE n false
  else
    match s.links[n].peer with
    | none => s
    | some p =>
      let own := s.rd .LZn_ACT_PRIO n
      let id := (Config.uid.setWidth 32 : Word).toNat
      let better := p.prio < own || (own == p.prio && p.devid.toNat < id)
      let worse := own < p.prio || (own == p.prio && id < p.devid.toNat)
      if s.bit .LZn_STAT_ACTIVE n then (if s.lz n == lzLocked && p.active && worse then s.lzBit .LZn_STAT_ACTIVE n false else s)
      else if s.lz n == lzLocked && !p.active && better then s.lzBit .LZn_STAT_ACTIVE n true
      else s

/-- The frame of microsecond `us` is sent in that microsecond (R215): its marker is stamped, and the claim is judged (R231). Frames go out in
every state but DOWN and SHED, in which the line is idle, and none before the device timescale starts; the first frame after GO
is the origin of its run (R228). -/
def State.lzSend (s : State) (n : Fin 4) (us : Nat) : State :=
  let st := s.lz n
  if st = lzDown ∨ s.links[n].sentUs = some us ∨ s.lzNow ≠ some us then s
  else if st = lzShed then
    (s.setLink n { s.links[n] with sentUs := some us }).send (.frame n (List.replicate (lzSpan n us) lzIdle))
  else
    let s := s.lzClaim n
    let l := s.links[n]
    let s := s.setLink n { l with sentUs := some us, cal := l.cal.map (· + 1) }
    let s := if l.cal = some 0 then s.lzMove n lzCal else s
    let s := match l.cal with
      | some k => s.wrB .LZn_STAT_SWAPPED n (swapAt (s.lzGate n) k)
      | none => s
    let s := s.send (.frame n (s.lzFrame n us))
    let s := if l.txRec.isNone || l.arrivals.isEmpty then s.fresh.2 else s
    let p := s.lzPlane n
    let mark : Rat := (s.lzMarkAt n us : Nat)
    let at_ := s.todAt p mark
    s.setLink n { s.links[n] with
      seq := (l.seq + 1) % 65536, txRec := some (s.recordWith p at_ (s.rd .TEBp_TOTAL p)), txWord := s.wordInForce p mark
      departs := ((l.seq % 65536, todUnits at_) :: l.departs).take 256 }

/-! ## Receiving (R217 to R225) -/

/-- A value rounded to 1/64 ps (R219). -/
def to64 (x : Rat) : Rat := (roundNearest 41 (x * 64) : Rat) / 64

/-- A stamp in units of 2⁻¹⁶ ns as ps. -/
def unitsPs (u : Nat) : Rat := (u : Rat) * 1000 / 65536

/-- A stamp by SEQ. -/
def stampOf (l : List (Nat × Nat)) (seq : Nat) : Option Nat := (l.find? (fun x => x.1 == seq)).map (·.2)

/-- The echo time (R216, R219): its 16 bits of seconds completed to the value nearest t1's seconds. -/
def echoUnits (t1Sec sec16 ns subns : Nat) : Int :=
  let d := (sec16 + 65536 - t1Sec % 65536) % 65536
  let sec : Int := (t1Sec : Int) + (if d < 32768 then (d : Int) else (d : Int) - 65536)
  (sec * 1000000000 + ns) * 65536 + subns

/-- The gate of a run that a frame received after `k` sent frames falls in (R228). -/
def gateOf (g k : Nat) : Option (Fin 3) :=
  if k < 1000 * g then some 0
  else if 1000 * (g + 1) ≤ k && k < 1000 * (2 * g + 1) then some 1
  else if 1000 * (2 * g + 2) ≤ k && k < 1000 * (3 * g + 2) then some 2
  else none

/-- A value added to a gate. -/
def GateSum.add (x : GateSum) (v : Rat) : GateSum := ⟨x.n + 1, x.sum + v, x.sq + v * v⟩

/-- The pairing of R219 on a valid frame: rtd and θ from t1 (the peer's departure of marker m), t2, t3 and t4. A round trip
beyond twice 60 µs, or an echo of a marker that has left the history, sets RANGE (R214). -/
def State.lzPair (s : State) (n : Fin 4) (w : List Word) : State :=
  let l := s.links[n]
  let f := fun (i lo len : Nat) => (w.getD i 0).toNat / 2 ^ lo % 2 ^ len
  let seq := f 0 0 16
  let t1 : TimeRec := ⟨w.getD 1 0, w.getD 2 0, w.getD 3 0, w.getD 4 0, w.getD 5 0, w.getD 6 0⟩
  let u1 := (t1.sec * 1000000000 + t1.ns) * 65536 + t1.subns
  let t2 := stampOf l.arrivals ((seq + 65535) % 65536)
  let t3 := stampOf l.departs (f 7 0 16)
  match t2, t3 with
  | some u2, some u3 =>
    let u4 := echoUnits t1.sec (f 9 0 16) (f 8 0 30) (f 9 16 16)
    let out := ((u2 : Int) - (u1 : Int) : Int)
    let back := (u4 - (u3 : Int) : Int)
    let outPs : Rat := (out : Rat) * 1000 / 65536
    let backPs : Rat := (back : Rat) * 1000 / 65536
    let rtd := to64 (outPs + backPs)
    let o := to64 ((outPs - backPs) / 2)
    let asym : Rat := (s.rdI .LZn_ASYM n : Rat) / 64
    let sgn : Rat := if s.bit .LZn_STAT_SWAPPED n then -1 else 1
    let th := to64 (o - sgn * asym / 2)
    let s := s.wrB .LZn_STAT_RANGE n (decide (120000000 < rtd))
    let l := { l with rtd := l.rtd.add rtd }
    match l.cal with
    | some (k + 1) =>
      let g := gateOf (s.lzGate n) k
      s.setLink n { l with gates := match g with
        | some i => l.gates.set i (l.gates[i].add o)
        | none => l.gates }
    | _ => s.setLink n { l with fresh := (s.now, th) :: l.fresh }
  | some _, none => if l.departs.length = 256 then s.wr .LZn_STAT_RANGE n 1 else s
  | none, _ => s

/-- What a valid frame says of the peer (R216, R223 to R225). -/
def State.lzPeer (s : State) (n : Fin 4) (w : List Word) : State :=
  let l := s.links[n]
  let f := fun (i lo len : Nat) => (w.getD i 0).toNat / 2 ^ lo % 2 ^ len
  let p : LinkPeer := { role := f 0 16 2, cal := (f 0 19 1) == 1, following := (f 0 20 1) == 1, active := (f 0 21 1) == 1
                        stepcnt := f 0 22 4, prio := f 7 16 8, devid := w.getD 12 0, teb := w.getD 4 0
                        prov := w.getD 5 0, seq := f 0 0 16 }
  let stepped := match l.peer with
    | some q => q.stepcnt != p.stepcnt
    | none => false
  -- frames since the peer's CAL rose, by SEQ
  let pc : Option Nat :=
    if !p.cal then none
    else match l.peerCal, l.peer with
      | some k, some q => some (k + (p.seq + 65536 - q.seq) % 65536)
      | _, _ => some 0
  let free := p.prov.toNat / 32 % 8 == 0
  let s := s.setLink n { l with peer := some p, peerFree := free, peerCal := pc }
  let s := if stepped then s.flag .LZn_EV_PEER_STEP n else s
  let s := s.wr .LZn_STAT_PEER_ROLE n p.role
  let s := s.lzBit .LZn_STAT_PEER_ACTIVE n p.active
  let s := s.lzBit .LZn_STAT_LOOP n (p.following && s.lzFollowing n)
  -- a peer that sees CAL follows the swaps
  match pc with
  | some k => if l.cal.isNone then s.wrB .LZn_STAT_SWAPPED n (swapAt (s.lzGate n) k) else s
  | none => if l.cal.isNone then s.wr .LZn_STAT_SWAPPED n 0 else s

/-- A frame is discarded (R217): LZn_ERRCNT, and a third within 16 returns the link to ALIGN (R222). -/
def State.lzDiscard (s : State) (n : Fin 4) : State :=
  let s := s.tally .LZn_ERRCNT n
  let l := s.links[n]
  let rec_ := (false :: l.recent).take 16
  let s := s.setLink n { l with recent := rec_, run := 0 }
  let st := s.lz n
  if lzSync ≤ st && st ≤ lzCal && 3 ≤ (rec_.filter (!·)).length then s.lzMove n lzAlign else s

/-- A valid frame (R217 to R225): its arrival at `mark` is stamped; in SYNC the 64th in succession makes the link UP. -/
def State.lzAccept (s : State) (n : Fin 4) (mark : Nat) (w : List Word) : State :=
  let s := s.lzGrade n (fun s => s.lzPeer n w)
  let l := s.links[n]
  let seq := (w.getD 0 0).toNat % 65536
  let at_ := todUnits (s.todAt (s.lzPlane n) mark)
  let st := s.lz n
  let s := if lzUp ≤ st && st ≤ lzCal then s.lzPair n w else s
  let l := { s.links[n] with
    arrivals := ((seq, at_) :: l.arrivals).take 256, recent := (true :: l.recent).take 16, validAt := s.now, run := l.run + 1 }
  let s := s.setLink n l
  let s := if st = lzSync && 64 ≤ l.run then s.lzMove n lzUp else s
  (s.lzClaim n).showLinkTerm n

/-- The byte of a data character. -/
def Symbol.byte? : Symbol → Option Byte
  | .d b => some b
  | .k _ => none

/-- Characters 2 to 69 of a frame whose start and end are right (R215, R217). -/
def lzBytes (c : List Symbol) : List Byte :=
  if c.take 2 = [lzStart, lzStart2] && (c.drop 70).head? = some lzEnd then ((c.drop 2).take 68).filterMap Symbol.byte? else []

/-- A frame arrives: its characters, and the arrival of its marker at the ball. In DOWN, ALIGN and SHED nothing is received. -/
def State.lzReceive (s : State) (n : Fin 4) (mark : Nat) (chars : List Symbol) : State :=
  let st := s.lz n
  if st < lzSync ∨ lzCal < st then s
  else
    let body := lzBytes chars
    let pay := body.take 64
    let w := (List.range 16).map (fun i => BitVec.ofNat 32 (leAt pay (4 * i) 4))
    let ok := body.length == 68 && leAt body 64 4 == (crc32c pay).toNat && (w.getD 0 0).toNat / 2 ^ 28 == 1
    if ok then s.lzAccept n mark w else s.lzDiscard n

/-- K28.5 alignment is found (R221). -/
def State.lzAligned (s : State) (n : Fin 4) : State := if s.lz n = lzAlign then s.lzMove n lzSync else s

/-- No valid frame for 4 µs (R222). -/
def State.lzRxTimeout (s : State) (n : Fin 4) : State :=
  let st := s.lz n
  if lzSync ≤ st && st ≤ lzCal && s.links[n].validAt + 4000000 ≤ s.now then s.lzMove n lzAlign else s

/-- The millisecond's mean of rtd (R221, R222): LZn_RTD, LZn_RTD_SD, and the judgement of lock. -/
def State.lzMean (s : State) (n : Fin 4) : State :=
  let l := s.links[n]
  if l.rtdFrom + 1000000000 > s.now || l.rtd.n = 0 then s
  else
    let k : Rat := l.rtd.n
    let m := l.rtd.sum / k
    let var := l.rtd.sq / k - m * m
    let s := s.wr .LZn_RTD n (fitNat 11 32 (roundNearest 42 m))
    let s := s.wr .LZn_RTD_SD n (fitNat 12 Field.LZn_RTD_SD.info.width (roundNearest 43 (sqrtOf 32 var)))
    let near := match l.upMean with
      | some q => decide (ratAbs (m - q) < 20)
      | none => false
    let moved := match l.upMean with
      | some q => decide (20 ≤ ratAbs (m - q))
      | none => false
    let steady := if near then l.steady + 1 else 0
    let s := s.setLink n { l with rtd := GateSum.zero, rtdFrom := s.now, mean := some m, upMean := some m, steady := steady }
    let s := s.showLinkTerm n
    if s.lz n = lzUp && 16 ≤ steady && l.upAt + 1000000000 ≤ s.now && !s.bit .LZn_STAT_RANGE n then s.lzMove n lzLocked
    else if s.lz n = lzLocked && moved then s.lzMove n lzUp
    else s

/-! ## Configuration, calibration, takeover (R221, R228, R231, R232) -/

/-- LZn_CFG written: EN = 1 starts training, EN = 0 stops the link (R221, R229). -/
def State.lzCfg (s : State) (n : Fin 4) (v : Word) : State :=
  s.lzGrade n (fun s =>
    let was := s.bit .LZn_CFG_EN n
    let s := s.writeWord .LZn_CFG n v
    let on := s.bit .LZn_CFG_EN n
    let s := if on && !was then s.lzGo n (if 2 ≤ s.rd .SHED_STATE_STAGE then lzShed else lzAlign)
      else if !on && was then s.lzGo n lzDown
      else s
    s.lzClaim n)

/-- This end is the follower (R228). -/
def State.lzFollower (s : State) (n : Fin 4) : Bool :=
  let r := s.rd .LZn_CFG_ROLE n
  r == 1 || r == 3 || (r == 2 && !s.bit .LZn_STAT_ACTIVE n)

/-- LZn_ACAL written: GATE, and GO starts a run, whose origin is the next frame, or is refused (R228). -/
def State.lzAcal (s : State) (n : Fin 4) (v : Word) : State :=
  let s := s.writeWord .LZn_ACAL n v
  if !v.toNat.testBit 0 then s
  else
    let l := s.links[n]
    let peerCal := match l.peer with
      | some p => p.cal
      | none => true
    if s.lz n = lzLocked && !peerCal && s.lzFollower n then
      s.setLink n { l with cal := some 0, gates := Vector.replicate 3 GateSum.zero }
    else s.wr .LZn_ACAL_RESULT n 2

/-- The mean of a gate. -/
def GateSum.mean (x : GateSum) : Rat := if x.n = 0 then 0 else x.sum / (x.n : Rat)

/-- Sum of squared deviations of a gate from its mean. -/
def GateSum.dev (x : GateSum) : Rat := if x.n = 0 then 0 else x.sq - x.sum * x.sum / (x.n : Rat)

/-- The third gate ends (R228): α_c, its uncertainty, DONE; samples resume. -/
def State.lzAcalEnd (s : State) (n : Fin 4) : State :=
  let l := s.links[n]
  match l.cal with
  | none => s
  | some k =>
    let g := s.lzGate n
    if k ≤ 1000 * (3 * g + 2) then s
    else
      let alpha := (l.gates[(0 : Fin 3)].mean + l.gates[(2 : Fin 3)].mean) / 2 - l.gates[(1 : Fin 3)].mean
      let total := l.gates[(0 : Fin 3)].n + l.gates[(1 : Fin 3)].n + l.gates[(2 : Fin 3)].n
      let dev := l.gates[(0 : Fin 3)].dev + l.gates[(1 : Fin 3)].dev + l.gates[(2 : Fin 3)].dev
      let var : Rat := if total = 0 then 0 else dev / (total : Rat)
      -- ceil (4 + 3 σ sqrt (1.5 / N)), N = 1000 G frames a gate
      let x : Rat := var * 27 / 2 / ((1000 * g : Nat) : Rat)
      let u := 4 + ceilSqrt 1 x.num.toNat x.den
      let s := s.setLink n { l with cal := none, gates := Vector.replicate 3 GateSum.zero }
      let s := (s.wr .LZn_ASYM n (fitSigned 13 32 (roundNearest 44 (alpha * 64)))).wr .LZn_ASYM_UNC n (fitNat 14 32 u)
      let s := ((s.wr .LZn_ACAL_RESULT n 1).wr .LZn_STAT_SWAPPED n 0).flag .LZn_EV_ACAL_DONE n
      (s.lzMove n lzLocked).showLinkTerm n

/-- The ALIVE input of a link has shown no transition for 2 ms, or, where ALIVE_SEL names none, the link has not been
LOCKED for WAIT ms (R231). -/
def State.lzPeerGone (s : State) (n : Fin 4) : Bool :=
  let g := s.rd .LZn_CFG_ALIVE_SEL n
  if g = 0 then s.links[n].unlockedAt + s.rd .LZn_ACT_WAIT n * 1000000000 ≤ s.now
  else (s.clk.gpioAt[Fin.ofNat 16 g] + 2000000000 ≤ s.now : Bool)

/-- A takeover (R231): ACTIVE, its alarm entry, and the GPIO function that follows ACTIVE. It ends a run in progress, and the
link retrains (R229). -/
def State.lzTakeover (s : State) (n : Fin 4) : State :=
  let st := s.lz n
  if s.bit .LZn_CFG_EN n && s.rd .LZn_CFG_ROLE n = 2 && st ≠ lzLocked && !s.bit .LZn_STAT_ACTIVE n
      && s.bit .LZn_ACT_TAKEOVER_EN n && !s.bit .LZn_ACT_YIELD n && s.lzPeerGone n then
    let s := (s.lzBit .LZn_STAT_ACTIVE n true).flag .LZn_EV_TAKEOVER n
    let s := s.post { cls := .alarm, src := 0x70 + n, data0 := s.regVal .LZn_EV n }
    if st = lzCal then s.lzMove n lzAlign else s
  else s

/-- SHED2 entered: an enabled link sends idle characters only and reads SHED (R229, R232). -/
def State.lzShedStop (s : State) (n : Fin 4) : State := if s.bit .LZn_CFG_EN n then s.lzMove n lzShed else s

/-- SHED2 left: the link re-enters SYNC (R232). -/
def State.lzShedResume (s : State) (n : Fin 4) : State := if s.lz n = lzShed then s.lzMove n lzSync else s

/-- The fields of a link's registers that a warm reset keeps (R233). -/
def lzKept (f : Field) : Bool :=
  match f with
  | .LZn_CFG_EN | .LZn_CFG_ROLE | .LZn_CFG_PL | .LZn_CFG_TXDRV | .LZn_CFG_RXEQ | .LZn_CFG_ALIVE_SEL | .LZn_ACT_PRIO
  | .LZn_ACT_TAKEOVER_EN | .LZn_ACT_YIELD | .LZn_ACT_WAIT | .LZn_ASYM | .LZn_ASYM_UNC | .LZn_ACAL_GATE => true
  | _ => false

end Sys2Proof.Machine
end

