-- ==== Sys2Proof/Machine/Clocks.lean ====
section
/-!
DEFINITION. Island clocks, gating, DVFS, power states and supply shedding (R321 to R345).
-/
namespace Sys2Proof.Machine

/-! ## Islands (R321, R346) -/

/-- Code of a privileged island: 0 SYS, 1 OUT, 2 MGT in CLK_STAT.FB. -/
def privCode (i : Fin 3) : Nat := [1, 2, 4].getD i 0

/-- Code of an island in CLK_STAT.COAST: YAC, TOK, HIF, LNZ. -/
def coastCode (i : Fin 4) : Nat := [3, 5, 6, 7].getD i 0

/-- An island's clock is gated (R329). -/
def State.gated (s : State) (c : Nat) : Bool := s.bitOf .CLK_GATE_GATED 0 c

/-- An island is held in reset (R301, R372). -/
def State.heldRst (s : State) (c : Nat) : Bool := s.clk.held.testBit c

def State.setClk (s : State) (x : ClkState) : State := { s with clk := x }

/-- A bit of a field set or cleared. -/
def State.putBit (s : State) (f : Field) (n i : Nat) (b : Bool) : State := if b then s.setBit f n i else s.clearBit f n i

/-- Bit `i` of a number set or cleared. -/
def natBit (v i : Nat) (b : Bool) : Nat := if b then v ||| 2 ^ i else if v.testBit i then v - 2 ^ i else v

/-! ## Ring oscillators (R322) -/

/-- FSRC6 rises: its detector was down and is up. -/
def State.roscRise (was : Bool) (s : State) : State :=
  let is := s.clk.xbad || s.bit .CLK_STAT_ROSCA_BAD || s.bit .CLK_STAT_ROSCB_BAD
  if is && !was then s.raise 6 else s

/-- The detector of FSRC6. -/
def State.roscBad (s : State) : Bool := s.clk.xbad || s.bit .CLK_STAT_ROSCA_BAD || s.bit .CLK_STAT_ROSCB_BAD

/-- A count of ROSC_B cycles over 256 cycles of ROSC_A ends (R322). -/
def State.roscCross (s : State) (count : Nat) : State :=
  if !s.boot.supplies then s
  else
    let was := s.roscBad
    let ok := decide (72 * 256 ≤ 100 * count ∧ 100 * count ≤ 139 * 256)
    let k := if ok then min 4 (s.clk.xchk + 1) else 0
    let s := s.setClk { s.clk with xchk := k, xbad := !ok }
    let s := if k = 4 then s.wr .CLK_STAT_ROSC_QUAL 0 1 else s
    State.roscRise was s

/-- A ring oscillator lies outside 340 to 460 MHz. -/
def roscOut (hz : Nat) : Bool := hz < 340000000 || 460000000 < hz

/-- A frequency in units of 0.25 MHz, 12 bits; how it is rounded is not stated. -/
def roscUnits (hz : Nat) : Nat := min 4095 (roundFree 60 ((hz : Rat) / 250000)).toNat

/-- Each ring oscillator is measured against XO, once XO has passed its coarse qualification (R322). -/
def State.roscMeasure (s : State) (a b : Nat) : State :=
  if s.rd .XO_STAT_COARSE ≠ 1 || s.bit .XO_MON_LOST then s
  else
    let was := s.roscBad
    let s := (s.wr .CLK_ROSC_FA 0 (roscUnits a)).wr .CLK_ROSC_FB 0 (roscUnits b)
    let s := (s.wrB .CLK_STAT_ROSCA_BAD 0 (roscOut a)).wrB .CLK_STAT_ROSCB_BAD 0 (roscOut b)
    State.roscRise was s

/-! ## DVFS of MGT (R331 to R333) -/

/-- The mux of MGT switches, or its gate opens: its monitor discards the window in progress (R332, R335). -/
def State.mgtMux (s : State) : State := s.setClk { s.clk with monFrom := some s.now }

/-- A DVFS step of MGT toward a point is asked for; during a step the request is held. Going down the mux switches now. -/
def State.mgtStep (s : State) (target : Nat) : State :=
  if s.clk.step.isSome then s.setClk { s.clk with stepHeld := some target }
  else if s.rd .PWR_MGT_DVFS_CUR = target then s
  else
    let s := (s.setClk { s.clk with step := some target, stepAt := s.now }).wr .PWR_MGT_DVFS_BUSY 0 1
    if target < s.rd .PWR_MGT_DVFS_CUR then s.mgtMux else s

/-- The held request begins. -/
def State.mgtNext (s : State) : State :=
  match s.clk.stepHeld with
  | some t => (s.setClk { s.clk with stepHeld := none }).mgtStep t
  | none => s

/-- How long a DVFS step lasts: 10 µs (R332). -/
def stepPs : Nat := 10000000

/-- The step of MGT ends, 10 µs after it began: the point is in force; going up the mux switches now (R332). -/
def State.mgtDone (s : State) : State :=
  match s.clk.step with
  | some t =>
    if s.now < s.clk.stepAt + stepPs then s else
    let s := if s.rd .PWR_MGT_DVFS_CUR < t then s.mgtMux else s
    let s := (s.setClk { s.clk with step := none }).wr .PWR_MGT_DVFS_CUR 0 t
    ((s.wr .PWR_MGT_DVFS_BUSY 0 0).flag .PWR_EV_DVFS_DONE 0).mgtNext
  | none => s

/-- The step of TOK ends (R258, R332). -/
def State.tokDone (s : State) : State :=
  match s.tok.step with
  | some t =>
    if s.now < s.tok.stepAt + stepPs then s else
    let h := s.tok.stepHeld
    let s := (s.setTok { s.tok with step := none, stepHeld := none }).wr .TOK_DVFS_CUR 0 t
    let s := s.flag .PWR_EV_DVFS_DONE 0
    match h with
    | some t' => s.tokStep t'
    | none => s
  | none => s

/-- The point of MGT in RUN: the one requested, or 0 during SHED1 (R340). -/
def State.mgtRunPoint (s : State) : Nat := if 1 ≤ s.rd .SHED_STATE_STAGE then 0 else s.rd .PWR_MGT_DVFS_POINT

/-- A request in PWR_MGT_DVFS.POINT: limited to 0 during SHED1, and in the lighter power states kept for RUN (R334). -/
def State.mgtPoint (s : State) (p : Nat) : State :=
  let s := s.wr .PWR_MGT_DVFS_POINT 0 (if 1 ≤ s.rd .SHED_STATE_STAGE then 0 else p)
  if s.rd .PWR_STATE_STATE = 0 then s.mgtStep s.mgtRunPoint else s

/-! ## Monitors and fallback (R323 to R326) -/

/-- A privileged island goes onto its fallback clock (R323). A DVFS step of MGT in progress is abandoned (R333). -/
def State.fallBack (s : State) (i : Fin 3) : State :=
  let s := s.setBit .CLK_STAT_FB 0 i
  if i = 2 && s.clk.step.isSome then
    ((s.setClk { s.clk with step := none }).wr .PWR_MGT_DVFS_BUSY 0 0).mgtNext
  else s

/-- Length of a monitor window in ps: 256 cycles of the monitor reference, ROSC_B or, while that is BAD, ROSC_A, at its
measured frequency, 400 MHz before it is measured (R322, R323). -/
def State.monLen (s : State) : Nat :=
  let f := if s.bit .CLK_STAT_ROSCB_BAD then s.rd .CLK_ROSC_FA else s.rd .CLK_ROSC_FB
  if f = 0 then 640000 else 256 * 4000000 / f

/-- A monitor's test is suspended: MGT gated or held in reset, or its mux switched or its gate opened within the window (R332,
R335). -/
def State.monSuspended (s : State) (i : Fin 3) : Bool :=
  i == 2 && (s.gated islMgt || s.heldRst islMgt || s.clk.monFrom.any (fun t => decide (s.now < t + s.monLen)))

/-- A monitor is armed: SYS and MGT from the first coarse pass on, OUT once an APLL drives it (R362, R366). -/
def State.monArmed (s : State) (i : Fin 3) : Bool :=
  if i = 1 then s.rd .DEV_STATE_TIMING = 4 else s.timebase

/-- A monitor trips on a count whose ratio to the implied one is `ratio`: outside ±20 %, or ±40 % before XO is qualified
(R323). -/
def State.monTrips (s : State) (ratio : Rat) : Bool :=
  let tol : Rat := if s.rd .XO_STAT_COARSE = 1 then 1 / 5 else 2 / 5
  decide (tol < ratAbs (ratio - 1))

/-- CLK_NMI records a trip (R323, R324). -/
def State.clkNmi (s : State) (i : Fin 3) : State :=
  ((s.wr .CLK_NMI_CAUSE 0 (if s.bit .CLK_STAT_ROSC_QUAL then 1 else 2)).wr .CLK_NMI_ISLAND 0 (privCode i)).hwSet .CLK_NMI_VALID 0 1

/-- The primary source's windows counted for PRIM_OK (R326). -/
def State.primWindow (s : State) (i : Fin 3) (ratio : Rat) : State :=
  let ok := decide (ratAbs (ratio - 1) ≤ 1 / 5)
  let k := if ok then min 4 (s.clk.prim[i] + 1) else 0
  (s.setClk { s.clk with prim := s.clk.prim.set i k }).putBit .CLK_STAT_PRIM_OK 0 i (k == 4)

/-- The APLL that CLK_CTRL.OUT_APLL names runs (R321). -/
def State.outSource (s : State) : Bool := s.rd .APLLx_STAT_STATE (s.rd .CLK_CTRL_OUT_APLL) != 0

/-- A monitor window ends: the count of the island's primary source, which drives it unless it has fallen back (R323,
R326); that of OUT counts 0 while the APLL it takes its clock from is off. A trip moves the island; its fault and reaction
follow. Answers whether it tripped. -/
def State.monWindow (s : State) (i : Fin 3) (measured : Rat) : State × Bool :=
  if !s.monArmed i || s.monSuspended i then (s, false)
  else
    let ratio := if i = 1 && !s.outSource then 0 else measured
    let s := s.primWindow i ratio
    if !s.bitOf .CLK_STAT_FB 0 i && s.monTrips ratio then ((s.fallBack i).clkNmi i, true) else (s, false)

/-- A write of CLK_CTRL: each RETURN bit takes its island back while PRIM_OK shows its source good, else WERR (R326). -/
def State.writeClkCtrl (s : State) (v : Word) : State :=
  let s := s.writeWord .CLK_CTRL 0 v
  s.forAll 3 (fun s i =>
    if !v.toNat.testBit i then s
    else if s.bitOf .CLK_STAT_PRIM_OK 0 i then s.clearBit .CLK_STAT_FB 0 i
    else s.flag .PWR_EV_WERR 0)

/-! ## Non-privileged islands (R327) -/

/-- The source of YAC, TOK, HIF or LNZ fails: it coasts, and FSRC10 is raised. -/
def State.coast (s : State) (i : Fin 4) : State :=
  if s.bitOf .CLK_STAT_COAST 0 i || !s.boot.supplies then s
  else (s.setBit .CLK_STAT_COAST 0 i).raise 10 { inst := coastCode i }

/-- Its source is back. -/
def State.relockClk (s : State) (i : Fin 4) : State := s.clearBit .CLK_STAT_COAST 0 i

/-! ## Gating (R329, R330, R334) -/

/-- No message waits toward master 3, and no reply is unfinished. -/
def State.keeperWaits (s : State) : Bool :=
  (List.finRange 16).all (fun (n : Fin 16) => (s.keeper.owed[n]).isEmpty && (match s.mbEndOf n 3 with
    | some i => (s.mbox[n].out[peerEnd i]).words.isEmpty
    | none => true))

/-- An island is idle (R185, R334). -/
def State.islandIdle (s : State) (c : Nat) : Bool :=
  if c = islYac then
    (List.finRange 4).all (fun (e : Fin 4) => s.yeState e != stRunning && !s.bit .YEe_CTRL_NOSLEEP e)
  else if c = islTok then s.tokIsIdle
  else if c = islMgt then s.keeperWaits
  else if c = islLnz then
    2 ≤ s.rd .SHED_STATE_STAGE || (List.range 4).all (fun n => !s.bit .LZn_CFG_EN n)
  else false

/-- A DVFS step of the island is in progress (R333). -/
def State.stepping (s : State) (c : Nat) : Bool :=
  (c == islMgt && s.clk.step.isSome) || (c == islTok && s.tok.step.isSome)

/-- The island woke in this SYS cycle, so a gate request of the same cycle leaves it running (R329). -/
def State.wokeNow (s : State) (c : Nat) : Bool := (s.clk.wokeAt[Fin.ofNat 8 c]).any (fun t => sameCycle t s.now)

/-- A gate request that waits for the handshake begins. -/
def State.askGate (s : State) (c : Nat) : State :=
  if s.clk.gating.testBit c then s
  else s.setClk { s.clk with gating := natBit s.clk.gating c true, gatingAt := s.clk.gatingAt.set (Fin.ofNat 8 c) s.now }

/-- A cycle of a gateable island in ps, unspread: at its nominal frequency (R321), at its coast frequency while it coasts, and for MGT and
TOK at the point in force (R258, R331); MGT on its fallback clock runs at the 400 MHz of a ring oscillator. -/
def State.islandCycle (s : State) (c : Nat) : Nat :=
  if c = islYac then (if s.bitOf .CLK_STAT_COAST 0 0 then 8000 else 4000)
  else if c = islTok then (if s.bitOf .CLK_STAT_COAST 0 1 then 5000 else [5000, 3750, 3000, 2500].getD (s.rd .TOK_DVFS_CUR) 2500)
  else if c = islLnz then (if s.bitOf .CLK_STAT_COAST 0 3 then 6400 else 3200)
  else if s.bitOf .CLK_STAT_FB 0 2 then 2500
  else [10000, 5000, 2500, 1250].getD (s.rd .PWR_MGT_DVFS_CUR) 1250

/-- The bit of an island in CLK_CTRL.SSC (R346). -/
def spreadBit (c : Nat) : Nat := if c = islYac then 0 else if c = islMgt then 1 else if c = islTok then 2 else 3

/-- The period of the 32 kHz triangle of the spread (R343). -/
def spreadPeriod : Nat := 31250000

/-- The integral of the triangle, which rises from 0 to 1 and falls back over a period, from an instant at which it is 0. -/
def spreadArea (x : Nat) : Rat :=
  let q : Nat := spreadPeriod
  let u : Rat := ((x % q : Nat) : Rat)
  ((x / q : Nat) : Rat) * q / 2 + (if 2 * u ≤ q then u * u / q else 2 * u - q / 2 - u * u / q)

/-- The cycles that an island counts from instant `a` to instant `b`: at its nominal rate, less the down-spread of up to 0.005 of
it while its bit of CLK_CTRL.SSC is 1 (R13, R343). Where the triangle begins is open. -/
def State.cyclesOf (s : State) (c a b : Nat) : Rat :=
  let whole : Rat := ((b - a : Nat) : Rat)
  let lost : Rat := if s.bitOf .CLK_CTRL_SSC 0 (spreadBit c) then
      (spreadArea (b + Config.spreadPhase c) - spreadArea (a + Config.spreadPhase c)) / 200
    else 0
  (whole - lost) / (s.islandCycle c : Rat)

/-- 64 cycles of the island have passed since its gate was asked for (R329). -/
def State.gateLate (s : State) (c : Nat) : Bool :=
  decide (64 ≤ s.cyclesOf c s.clk.gatingAt[Fin.ofNat 8 c] s.now)

/-- The gate of an island closes; in DOZE that of MGT stops its multiplier too (R334). -/
def State.closeGate (s : State) (c : Nat) : State :=
  (s.setClk { s.clk with gating := natBit s.clk.gating c false
                         deep := s.clk.deep || (c == islMgt && s.rd .PWR_STATE_STATE == 3) }).setBit .CLK_GATE_GATED 0 c

/-- A request to gate an idle island, made in NAP or DOZE: its gate closes once its handshake is idle and no DVFS step of it
runs. -/
def State.gateRequest (s : State) (c : Nat) (idle : Bool) : State :=
  if 2 ≤ s.rd .PWR_STATE_STATE && s.islandIdle c && !s.gated c && !s.wokeNow c then
    if idle && !s.stepping c then s.closeGate c
    else s.askGate c
  else s

/-- 64 island cycles have passed and the handshake is not idle: the gate of an island that may be gated closes anyway
(R329). -/
def State.gateForce (s : State) (c : Nat) : State :=
  if s.clk.gating.testBit c && s.gateLate c && 2 ≤ s.rd .PWR_STATE_STATE && s.islandIdle c && !s.stepping c && !s.wokeNow c then
    let s := (s.closeGate c).wr .CLK_GATE_ISLAND 0 c
    (s.flag .CLK_GATE_FORCED 0).raise 12 { inst := c }
  else s

/-- The multiplier of MGT runs again at the latest 40 µs after an ungating from DOZE (R334, R335). -/
def dozeWakePs : Nat := 40000000

/-- The gate of MGT opens: its monitor resumes with the first window after it, and from DOZE once the multiplier reports lock
(R335). -/
def State.mgtBack (s : State) : State :=
  s.setClk { s.clk with monFrom := some (if s.clk.deep then s.now + dozeWakePs else s.now), deep := false }

/-- A held write delivered (R330). -/
def State.deliver (s : State) (a : Nat) (v : Word) : State :=
  if 0x340000 ≤ a then s.lzCfg (Fin.ofNat 4 ((a - 0x340000) / 0x100)) v
  else s.tokDoorbell (Fin.ofNat 4 ((a - 0x200100) / 0x40)) v

/-- A held write belongs to an island. -/
def heldFor (c a : Nat) : Bool := if 0x340000 ≤ a then c == islLnz else c == islTok

/-- An island's gate opens: its request is withdrawn, and the writes held for it are delivered in order (R330). -/
def State.ungate (s : State) (c : Nat) : State :=
  let s := if c = islMgt && s.gated c then s.mgtBack else s
  let s := s.clearBit .CLK_GATE_GATED 0 c
  let ws := s.clk.writes.filter (fun w => heldFor c w.2.1)
  let s := s.setClk { s.clk with gating := natBit s.clk.gating c false
                                 writes := s.clk.writes.filter (fun w => !heldFor c w.2.1) }
  ws.foldl (fun s w => s.deliver w.2.1 w.2.2) s

/-- The islands that the power manager may gate. -/
def gateable : List Nat := [islYac, islMgt, islTok, islLnz]

/-- Every island ungated. -/
def State.ungateAll (s : State) : State := gateable.foldl State.ungate s

/-! ## Power states (R334 to R337) -/

/-- Keeper timer remaining, in µs; none where the register says none (R346). -/
def State.ktimer (s : State) : Option Nat :=
  let v := s.rd .PWR_KTIMER
  if v = 0xFFFFFFFF then none else some (v - (s.now - s.clk.ktimerAt) / 1000000)

/-- PWR_STATE.STATE moves: STATE_CHG; LEAN and deeper step MGT and TOK to point 0, and RUN steps them back. NAP and DOZE ask
for the gating of every idle island and ungate one that is no longer idle (R185, R334); RUN and LEAN ungate all. -/
def State.setPower (s : State) (st : Nat) : State :=
  let old := s.rd .PWR_STATE_STATE
  let auto := s.rd .TOK_DVFS_MODE = 1
  let s := if st = old then s else (s.wr .PWR_STATE_STATE 0 st).flag .PWR_EV_STATE_CHG 0
  let s :=
    if old = 0 && st ≠ 0 then
      let s := (s.setClk { s.clk with tokRun := s.rd .TOK_DVFS_CUR }).mgtStep 0
      if auto then s.tokStep 0 else s
    else if old ≠ 0 && st = 0 then
      let s := s.mgtStep s.mgtRunPoint
      if auto then s.tokStep s.clk.tokRun else s
    else s
  if st < 2 then s.ungateAll
  else
    let s := s.setClk { s.clk with deep := s.clk.deep || (st == 3 && s.gated islMgt) }
    gateable.foldl (fun s c =>
      if !s.islandIdle c then (if s.gated c then s.ungate c else s)
      else if !s.gated c && !s.wokeNow c then s.askGate c
      else s) s

/-- A wake source ungates its island, and the device is in LEAN until the next choice (R337). -/
def State.wake (s : State) (c : Nat) : State :=
  let s := s.setClk { s.clk with wokeAt := s.clk.wokeAt.set (Fin.ofNat 8 c) (some s.now) }
  if s.gated c || s.clk.gating.testBit c then
    let s := if 2 ≤ s.rd .PWR_STATE_STATE then (s.wr .PWR_STATE_STATE 0 1).flag .PWR_EV_STATE_CHG 0 else s
    s.ungate c
  else s

/-- The islands with a wake source since the last command wake (R330, R337). -/
def State.wakeAll (s : State) : State :=
  let w := s.wakes
  gateable.foldl (fun s c => if w.testBit c then s.wake c else s) { s with wakes := 0 }

/-- The terms of the horizon in µs, with their codes (R336). -/
def State.horizonTerms (s : State) : List (Nat × Rat) :=
  let us := fun (x : Rat) => if x < 0 then (0 : Rat) else x / 1000000
  let keeper : List (Nat × Rat) := match s.ktimer with
    | some k => [(1, (k : Rat))]
    | none => []
  let sheafs := (List.finRange 16).filterMap (fun (k : Fin 16) => match s.sheafs[k] with
    | some j => if s.rd .SHk_STAT_STATE k = 1 then
        some (2, us (j.e - s.tod (Fin.ofNat 4 j.plane) s.now - 2000000)) else none
    | none => none)
  let tok : Nat × Rat := match s.clk.tokIdle with
    | some t => if s.tokIsIdle then (3, min (us ((s.now - t : Nat) : Rat)) (s.rd .PWR_TOKCAP : Rat)) else (3, 0)
    | none => (3, 0)
  let ye := (List.finRange 4).flatMap (fun (e : Fin 4) => (List.finRange 4).filterMap (fun (i : Fin 4) =>
    let t := s.engines[e].timers[i]
    if t.run then some (4, us ((t.expiry : Rat) - s.now)) else none))
  keeper ++ sheafs ++ [tok] ++ ye

/-- The least term; the first of equal ones. -/
def leastTerm (l : List (Nat × Rat)) : Option (Nat × Rat) :=
  l.foldl (fun b x => match b with
    | none => some x
    | some y => if x.2 < y.2 then some x else b) none

/-- The deepest state that the horizon allows, within MAX (R337). -/
def State.chooseState (s : State) (h : Option Rat) : Nat :=
  let max := s.rd .PWR_STATE_MAX
  let fits := fun (w10 : Nat) => match h with
    | some x => decide ((w10 : Rat) * 11 / 100 ≤ x)
    | none => true
  if 3 ≤ max && fits 400 then 3
  else if 2 ≤ max && fits 20 then 2
  else if 1 ≤ max && fits 100 && s.tok.jobs.length < 64 && s.rd .MB_KEEPER_LOAD < 50 then 1
  else 0

/-- The power manager forms the horizon and chooses (R336, R337). -/
def State.powerEval (s : State) : State :=
  if !s.boot.supplies || s.boot.keep then s
  else
    let t := leastTerm s.horizonTerms
    let s := match t with
      | some x => (s.wr .PWR_HORIZON_H 0 (min (2 ^ 28 - 1) x.2.floor.toNat)).wr .PWR_HORIZON_TERM 0 x.1
      | none => (s.wr .PWR_HORIZON_H 0 (2 ^ 28 - 1)).wr .PWR_HORIZON_TERM 0 0
    s.setPower (s.chooseState (t.map (·.2)))

/-- PWR_KTIMER written by master 3. -/
def State.writeKtimer (s : State) (v : Word) : State :=
  (s.wr .PWR_KTIMER 0 v.toNat).setClk { s.clk with ktimerAt := s.now }

/-- The keeper's timer expires, which wakes MGT (R337). -/
def State.ktimerExpire (s : State) : State := if s.ktimer = some 0 then s.wake islMgt else s

/-! ## Shedding (R338 to R341) -/

/-- Thresholds of a rail in mV: stages 1 to 5, then brown-out (R338). -/
def shedThreshold (rail stage : Nat) : Nat :=
  ([[772, 764, 756, 748, 740, 720], [917, 907, 898, 888, 879, 855], [1737, 1719, 1701, 1683, 1665, 1620]].getD rail []).getD
    (stage - 1) 0

/-- Hysteresis of a rail in mV. -/
def shedHyst (rail : Nat) : Nat := [12, 14, 27].getD rail 0

/-- A rail sample in PWR_RAIL. -/
def State.railSample (s : State) (rail : Fin 3) (mv : Nat) : State :=
  (s.wr .PWR_RAIL_MV rail (min 4095 mv)).wr .PWR_RAIL_MIN rail (min mv (s.rd .PWR_RAIL_MIN rail))

/-- PWR_SHED_CFG.STEP and EXIT in ps: 1 to 1000, 0 acting as 1. -/
def State.shedStepPs (s : State) : Nat := min 1000 (max 1 (s.rd .PWR_SHED_CFG_STEP)) * 1000000
def State.shedExitPs (s : State) : Nat := min 1000 (max 1 (s.rd .PWR_SHED_CFG_EXIT)) * 1000000000

/-- The next output to switch off: CLASS 1, on, not shed, lowest RANK, then highest number (R130). -/
def State.nextShed (s : State) : Option (Fin 64) :=
  (List.finRange 64).foldl (fun (b : Option (Fin 64)) (n : Fin 64) =>
    if s.bit .OUTn_PRIO_CLASS n && s.outOn n && !s.bit .OUTn_STAT_SHED n then
      match b with
      | some x => if s.rd .OUTn_PRIO_RANK n ≤ s.rd .OUTn_PRIO_RANK x then some n else b
      | none => some n
    else b) none

/-- The next output to restore: the last in the order of shedding among those that are shed. -/
def State.nextUnshed (s : State) : Option (Fin 64) :=
  (List.finRange 64).foldl (fun (b : Option (Fin 64)) (n : Fin 64) =>
    if s.bit .OUTn_STAT_SHED n then
      match b with
      | some x => if s.rd .OUTn_PRIO_RANK x < s.rd .OUTn_PRIO_RANK n then some n else b
      | none => some n
    else b) none

/-- One output switched off while SHED3 is in force, or restored after it (R130, R340). -/
def State.shedOne (s : State) : State :=
  let s := s.setClk { s.clk with shedNext := s.now + s.shedStepPs }
  if 3 ≤ s.rd .SHED_STATE_STAGE then
    match s.nextShed with
    | some n => s.squelchFor .OUTn_STAT_SHED n
    | none => s
  else
    match s.nextUnshed with
    | some n => s.wr .OUTn_STAT_SHED n 0
    | none => s

/-- The step interval of SHED3 has passed. -/
def State.shed3Step (s : State) : State := if s.clk.shedNext ≤ s.now then s.shedOne else s

/-- A change of stage: SHED_STATE, its flag and line, FSRC13 (R339). -/
def State.setStage (s : State) (k : Nat) : State :=
  let s := s.setClk { s.clk with shedAt := s.now }
  (((s.wr .SHED_STATE_STAGE 0 k).flag .PWR_EV_SHED_CHG 0).pulse 61).raise 13

/-- Stage `k` entered (R340). -/
def State.enterStage (s : State) (k : Nat) : State :=
  let s := s.setStage k
  if k = 1 then (s.wr .PWR_MGT_DVFS_POINT 0 0).mgtStep 0
  else if k = 2 then s.forAll 4 State.lzShedStop
  else if k = 3 then (s.calAbort).shedOne
  else if k = 4 then s.forAll 4 State.yeShedStop
  else s

/-- Stage `k` left (R340). -/
def State.leaveStage (s : State) (k : Nat) : State :=
  let s := s.setStage (k - 1)
  if k = 2 then (s.forAll 4 State.lzShedResume).flushPending
  else if k = 3 then s.shedOne
  else if k = 4 then (s.forAll 4 State.yeShedResume).wake islYac
  else s

/-- A rail has stayed at or below `mv` for 1 µs: every stage it has reached is entered, in order (R338, R339). -/
def State.shedEnter (s : State) (rail : Fin 3) (mv : Nat) : State :=
  if !s.boot.supplies then s
  else
    let s := s.railSample rail mv
    [1, 2, 3, 4, 5].foldl (fun s k =>
      if s.rd .SHED_STATE_STAGE + 1 = k && mv < shedThreshold rail k then
        (s.wr .SHED_STATE_RAIL 0 (rail + 1)).enterStage k
      else s) s

/-- Every rail has stayed above the stage's threshold plus its hysteresis for EXIT, each at or above the level given (R338,
R339). -/
def State.shedExit (s : State) (core dvs ana : Nat) : State :=
  let k := s.rd .SHED_STATE_STAGE
  let above := fun (r mv : Nat) => decide (shedThreshold r k + shedHyst r < mv)
  if k ≠ 0 && above 0 core && above 1 dvs && above 2 ana && s.clk.shedAt + s.shedExitPs ≤ s.now then
    s.leaveStage k
  else s

/-- A read of PWR_RAIL: the latest sample, and the lowest since the last read, which starts anew (R346). `mv` and `low` are
the latest and the lowest sample since the register was last brought up to date. -/
def State.railRead (s : State) (m : Master) (rail : Fin 3) (mv low : Nat) : State :=
  let s := (s.railSample rail low).railSample rail mv
  let v := BitVec.ofNat 32 (s.regVal .PWR_RAIL rail)
  (s.wr .PWR_RAIL_MIN rail 0xFFF).ret m v

/-! ## GPIO (R344, R406) -/

/-- A GPIO input's filtered level changes: at the earliest FILT × 10 ns after it last did, since its level has then been stable
for that time. -/
def State.gpioChange (s : State) (g : Fin 16) (level : Bool) : State :=
  if s.bit .GPIO_FUNCg_IN g = level || s.now < s.clk.gpioAt[g] + s.rd .PWR_GPIO_FILTg g * 10000 then s
  else (s.wrB .GPIO_FUNCg_IN g level).setClk { s.clk with gpioAt := s.clk.gpioAt.set g s.now }

end Sys2Proof.Machine
end

