-- ==== Sys2Proof/Machine/Keeper.lean ====
section
/-!
DEFINITION. The keeper's service on the mailboxes, its periodic work, and the recovery service (R84, R291 to R297, R370).
-/
namespace Sys2Proof.Machine

def State.setKeeper (s : State) (x : KeeperState) : State := { s with keeper := x }

/-! ## Requests and replies (R284, R292, R293) -/

/-- Codes of DEV_STATE.KEEPER. -/
def kpLoading : Nat := 0
def kpRunning : Nat := 1
def kpRecovery : Nat := 2

/-- Status codes of R293. -/
def stOk : Nat := 0
def stUnknown : Nat := 1
def stBadLen : Nat := 2
def stBadArg : Nat := 3
def stDenied : Nat := 5
def stFailed : Nat := 6
def stClassShed : Nat := 7

/-- Fields of a header. -/
def headerType (h : Word) : Nat := h.toNat / 2 ^ 20 % 2048
def headerTag (h : Word) : Nat := h.toNat / 2 ^ 12 % 256
def headerReply (h : Word) : Bool := h.toNat.testBit 31

/-- The header of a reply part of `len` payload words to the request with header `h`. -/
def replyHeader (h : Word) (len : Nat) : Word :=
  BitVec.ofNat 32 (2 ^ 31 + headerType h * 2 ^ 20 + headerTag h * 2 ^ 12 + len % 16)

/-- The status word. -/
def statusWord (st part : Nat) (more : Bool) : Word := BitVec.ofNat 32 (st + part % 256 * 256 + more.toNat * 65536)

/-- A one-part reply with a status and payload. -/
def replyWith (st : Nat) (payload : List Word) : List (List Word) := [statusWord st 0 false :: payload]

/-- A reply of one status word. -/
def replyStatus (st : Nat) : List (List Word) := replyWith st []

/-- A reply with status OK in parts. -/
def replyParts (l : List (List Word)) : List (List Word) :=
  (l.zipIdx).map (fun x => statusWord stOk x.2 (decide (x.2 + 1 < l.length)) :: x.1)

/-- The words committed toward end `i` of a channel. -/
def State.inbound (s : State) (n : Fin 16) (i : Fin 2) : List Word := (s.mbox[n].out[peerEnd i]).words

/-- A whole message read from the inbound queue. -/
def State.takeMessage (s : State) (n : Fin 16) (i : Fin 2) (len : Nat) : List Word × State :=
  (List.range (len + 1)).foldl (fun (a : List Word × State) _ =>
    let r := a.2.mbGet n i
    (a.1 ++ [r.1], r.2)) ([], s)

/-- Reply parts posted while the outbound queue has room; the rest stays owed (R292). -/
def State.postParts (s : State) (n : Fin 16) (i : Fin 2) : List (List Word) → State
  | [] => s.setKeeper { s.keeper with owed := s.keeper.owed.set n [] }
  | p :: rest =>
    if (s.mbox[n].out[i]).free < p.length then s.setKeeper { s.keeper with owed := s.keeper.owed.set n (p :: rest) }
    else (p.foldl (fun s w => s.mbPut n i w) s).postParts n i rest

/-- The MCP runs: MGT is neither gated nor held in reset. -/
def State.mcpRuns (s : State) : Bool := !s.gated islMgt && !s.heldRst islMgt && s.boot.supplies

/-- The keeper, or with `mode` 2 the recovery service, takes up channel `n`: it posts what it still owes there; otherwise it
takes the oldest request if its TYPE satisfies `ok`, discards it where REPLY is set, and answers with `f`. A recovery
service that is to reboot takes up nothing more. -/
def State.serve (s : State) (n : Fin 16) (mode : Nat) (ok : Nat → Bool)
    (f : Fin 2 → List Word → State → List (List Word) × State) : State :=
  if s.rd .DEV_STATE_KEEPER ≠ mode || !s.mcpRuns || (mode == kpRecovery && s.keeper.rebooting.isSome) then s
  else
    match s.mbEndOf n 3 with
    | none => s
    | some i =>
      if !(s.keeper.owed[n]).isEmpty then s.postParts n i s.keeper.owed[n]
      else
        match s.inbound n i with
        | [] => s
        | h :: _ =>
          if !ok (headerType h) then s
          else
            let r := s.takeMessage n i (headerLen h)
            if headerReply h then r.2
            else
              let a := f i (r.1.drop 1) r.2
              a.2.postParts n i (a.1.map (fun p => replyHeader h p.length :: p))

/-- The keeper serves one TYPE. -/
def State.serveType (s : State) (n : Fin 16) (ty : Nat) (f : Fin 2 → List Word → State → List (List Word) × State) : State :=
  s.serve n kpRunning (· == ty) f

/-- The requester is an engine (R294, "Host only"). -/
def State.fromEngine (s : State) (n : Fin 16) (i : Fin 2) : Bool :=
  let c := s.mbEndCode n (peerEnd i)
  4 ≤ c && c ≤ 7

/-! ## The message types (R294) -/

/-- VERSION. -/
def State.kpVersion (s : State) (n : Fin 16) : State :=
  s.serveType n 1 (fun _ p s =>
    if !p.isEmpty then (replyStatus stBadLen, s)
    else (replyWith stOk [s.keeper.version, BitVec.ofNat 32 (s.rd .BOOT_STAT_IMAGE), BitVec.ofNat 32 (s.rd .BOOT_STAT_FALLBACK),
      BitVec.ofNat 32 ((s.now - s.keeper.startAt) / psPerS)], s))

/-- Bytes as words, the first in [7:0]; a last word is filled with zeros. -/
def packWords (b : List Byte) : List Word := (List.range ((b.length + 3) / 4)).map (fun i => BitVec.ofNat 32 (leAt b (4 * i) 4))

/-- GET_CERT: the certificate from an offset to its end, in parts of 52 bytes. -/
def State.kpCert (s : State) (n : Fin 16) : State :=
  s.serveType n 2 (fun _ p s =>
    match p with
    | [o] =>
      let c := Config.certificate
      if o.toNat % 4 ≠ 0 || c.length ≤ o.toNat then (replyStatus stBadArg, s)
      else
        let rest := c.drop o.toNat
        (replyParts ((List.range ((rest.length + 51) / 52)).map (fun k => packWords (slice rest (52 * k) 52))), s)
    | _ => (replyStatus stBadLen, s))

/-- ATTEST: an ECDSA signature under the identity key; a vault without an identity gives FAILED (R294, R364). -/
def State.kpAttest (s : State) (n : Fin 16) : State :=
  s.serveType n 3 (fun _ p s =>
    if p.length ≠ 8 then (replyStatus stBadLen, s)
    else if s.bit .GRN_STAT_KEYLESS || s.boot.otpBad then (replyStatus stFailed, s)
    else
      let digest := sha256 (ascii "COLBILITH ATTEST" ++ p.flatMap wordBytes ++ uidBytes ++ leBytes 1 (s.rd .GRN_VGEN)
        ++ leBytes 4 (s.rd .GRN_UPD_CTR) ++ s.keeper.digest)
      let f := s.fresh
      let sig := ecdsaSign s.grn.d digest (Config.ecdsaNonce f.1)
      (replyParts [packWords (beBytes 32 sig.1), packWords (beBytes 32 sig.2)], f.2))

/-- Bytes of the boot flash. -/
def State.flashBytes (s : State) (a len : Nat) : List Byte := (List.range len).map (fun i => Store.get s.flash (a + i) 0xFF)

/-- A program image that R190 accepts: its bytes, IMEM_WORDS and DMEM_WORDS. -/
def goodProgram (b : List Byte) : Option (Nat × Nat) :=
  let iw := leAt b 8 2
  let dw := leAt b 10 2
  let whole := 128 + 4 * iw + 8 * dw
  let crc := crc32c (b.take 20 ++ [0, 0, 0, 0] ++ slice b 24 (whole - 24))
  if slice b 0 4 = [0x59, 0x43, 0x4F, 0x52] && leAt b 4 2 = 1 && 1 ≤ iw && iw ≤ 4096 && dw ≤ 1024 && whole ≤ b.length
      && leAt b 20 4 = crc.toNat then some (iw, dw) else none

/-- The image at an index of the program set, if it is there: the 16 entries stand at 0x790000, their offsets are flash
addresses. -/
def State.programAt (s : State) (idx : Nat) : Option (List Byte) :=
  if 16 ≤ idx then none
  else
    let e := s.flashBytes (0x790000 + 8 * idx) 8
    let off := leAt e 0 4
    let len := leAt e 4 4
    if len = 0 || 0x800000 < off + len then none else some (s.flashBytes off len)

/-- An accepted image copied into an engine: memories, entry, lengths, signature. -/
def State.loadProgram (s : State) (e : Fin 4) (b : List Byte) (iw dw : Nat) : State :=
  let x := s.engines[e]
  let im := (List.range iw).foldl (fun m a => Store.set m a (BitVec.ofNat 32 (leAt b (128 + 4 * a) 4)) 0) x.imem
  let dm := (List.range dw).foldl (fun m a => Store.set m a (BitVec.ofNat 64 (leAt b (128 + 4 * iw + 8 * a) 8)) 0) x.dmem
  let sg := Vector.ofFn (fun i : Fin 16 => (BitVec.ofNat 32 (leAt b (56 + 4 * i.val) 4) : Word))
  let s := s.setYe e { x with imem := im, dmem := dm, sig := sg }
  ((s.wr .YEe_ENTRY e (leAt b 12 2)).wr .YEe_SIGLEN_IMEM_WORDS e iw).wr .YEe_SIGLEN_DMEM_WORDS e dw

/-- VERIFY written: SIG reads PENDING, and from now a write of what it covers unsigns (R188, R189). -/
def State.yeVerify (s : State) (e : Fin 4) : State :=
  (s.setYe e { s.engines[e] with watch := true, verKey := s.signKey }).wr .YEe_STAT_SIG e 1

/-- The keeper has verified the signature: OK or FAIL, and SIG_DONE (R188). -/
def State.yeVerified (s : State) (e : Fin 4) : State :=
  if s.rd .YEe_STAT_SIG e = 1 then
    (s.wr .YEe_STAT_SIG e (if s.sigVerifies e then 2 else 3)).flag .YEe_EV_SIG_DONE e
  else s

/-- LOAD_YACOR. -/
def State.kpLoadYacor (s : State) (n : Fin 16) : State :=
  s.serveType n 4 (fun i p s =>
    if s.fromEngine n i then (replyStatus stDenied, s)
    else
      match p with
      | [a] =>
        let e : Fin 4 := Fin.ofNat 4 a.toNat
        let heard := s.boot.supplies && !s.gated islYac && !s.heldRst islYac
        let s := if heard then s.yeReset e else s
        match s.programAt (a.toNat / 256 % 256) with
        | none => (replyStatus stBadArg, s)
        | some b =>
          match goodProgram b with
          | none => (replyStatus stBadArg, s)
          | some (iw, dw) =>
            -- YAC gated or held in reset ignores the writes, and SIG reads 0 (R9)
            let s := if heard then ((s.loadProgram e b iw dw).yeVerify e).yeVerified e else s
            let s := if heard && a.toNat.testBit 16 && s.yeMayStart e then s.yeStart e 0 else s
            let sig := if heard then s.rd .YEe_STAT_SIG e else 0
            (replyWith (if sig = 3 then stFailed else stOk) [BitVec.ofNat 32 sig, BitVec.ofNat 32 (leAt b 16 4)], s)
      | _ => (replyStatus stBadLen, s))

/-- BOOT_SELECT. -/
def State.kpBootSelect (s : State) (n : Fin 16) : State :=
  s.serveType n 5 (fun i p s =>
    if s.fromEngine n i then (replyStatus stDenied, s)
    else
      match p with
      | [a] => if 2 < a.toNat then (replyStatus stBadArg, s) else (replyWith stOk [a], s.wr .BOOT_STAT_PREF 0 a.toNat)
      | _ => (replyStatus stBadLen, s))

/-- FAULT_RECORD; the record that the keeper's software holds at the index asked for, if it has one. -/
def State.kpFaultRecord (s : State) (n : Fin 16) (rec_ : Option (List Word)) : State :=
  s.serveType n 6 (fun _ p s =>
    match p, rec_ with
    | [_], some r => (replyWith stOk (r.take 14), s)
    | [_], none => (replyStatus stBadArg, s)
    | _, _ => (replyStatus stBadLen, s))

/-- KEEPER_LOAD. -/
def State.kpLoad (s : State) (n : Fin 16) : State :=
  s.serveType n 7 (fun _ p s =>
    if !p.isEmpty then (replyStatus stBadLen, s)
    else (replyWith stOk [BitVec.ofNat 32 (s.rd .MB_KEEPER_LOAD),
      Config.classesShed (s.bit .MB_KEEPER_C3_DROPPED) (s.bit .MB_KEEPER_C2_HALVED),
      BitVec.ofNat 32 (s.rd .PWR_MGT_DVFS_CUR)], s))

/-- TELEMETRY; before the first sample its words are open. -/
def State.kpTelemetry (s : State) (n : Fin 16) : State :=
  s.serveType n 8 (fun _ p s =>
    if !p.isEmpty then (replyStatus stBadLen, s)
    else if s.keeper.sample.isEmpty then
      let d := s.fresh
      (replyWith stOk ((List.range 7).map (Config.firstSample d.1)), d.2)
    else (replyWith stOk s.keeper.sample, s))

/-! ## The drift model (R84) -/

/-- Sum of a function over points. -/
def sumOver (l : List (Rat × Rat)) (f : Rat × Rat → Rat) : Rat := (l.map f).foldl (· + ·) 0

/-- A determinant of three rows. -/
def det3 (a b c d e f g h i : Rat) : Rat := a * (e * i - f * h) - b * (d * i - f * g) + c * (d * h - e * g)

/-- Coefficients of the least-squares polynomial of degree `deg` (0, 1 or 2) through points. -/
def lsPoly (l : List (Rat × Rat)) (deg : Nat) : Rat × Rat × Rat :=
  let k : Rat := (l.length : Rat)
  let s1 := sumOver l (·.1)
  let s2 := sumOver l (fun p => p.1 * p.1)
  let t0 := sumOver l (·.2)
  let t1 := sumOver l (fun p => p.1 * p.2)
  if deg = 0 then (t0 / k, 0, 0)
  else if deg = 1 then
    let d := k * s2 - s1 * s1
    ((t0 * s2 - s1 * t1) / d, (k * t1 - s1 * t0) / d, 0)
  else
    let s3 := sumOver l (fun p => p.1 * p.1 * p.1)
    let s4 := sumOver l (fun p => p.1 * p.1 * p.1 * p.1)
    let t2 := sumOver l (fun p => p.1 * p.1 * p.2)
    let d := det3 k s1 s2 s1 s2 s3 s2 s3 s4
    (det3 t0 s1 s2 t1 s2 s3 t2 s3 s4 / d, det3 k t0 s2 s1 t1 s3 s2 t2 s4 / d, det3 k s1 t0 s1 s2 t1 s2 s3 t2 / d)

/-- The results of the most recent MODEL_SPAN seconds. -/
def State.fitSeries (s : State) : List (Nat × Int × Nat) :=
  s.keeper.series.filter (fun r => s.now ≤ r.1 + s.rd .MODEL_SPAN * psPerS)

/-- A refit (R84): with 600 s of results and ATOM_IN present, the terms they support are fitted about the next tick and loaded
through R82. Answers whether a model was loaded. -/
def State.refit (s : State) : Bool × State :=
  let l := s.fitSeries
  let secs := (l.map (fun r => r.2.2)).foldl (· + ·) 0
  match l with
  | [] => (false, s)
  | newest :: _ =>
    if secs < 600 || !s.bit .ATOM_MEAS_PRESENT then (false, s)
    else
      let at_ := s.tickAt (s.tick + 1)
      let pts := l.map (fun r => (((r.1 : Rat) - at_) / psPerS, (r.2.1 : Rat)))
      let deg := if l.length = 1 then 0 else if secs < 3600 || l.length < 3 then 1 else 2
      let c := lsPoly pts deg
      let put := fun (s : State) (f : Field) (x : Rat) => s.wr f 0 (fitSigned 7 64 (roundNearest 63 x))
      let s := put s .MODEL_Y0 c.1
      let s := put s .MODEL_Y1 (c.2.1 * (2 ^ 20 : Nat))
      let s := put s .MODEL_Y2 (c.2.2 * (2 ^ 44 : Nat))
      let s := s.wr .MODEL_FITAGE 0 (min 0xFFFFFFFF ((s.now - newest.1) / psPerS))
      let s := s.writeModelCtrl .keeper 1
      let f := s.fresh
      (true, f.2.setKeeper { f.2.keeper with residual := Config.fitResidual f.1 })

/-- REFIT_NOW; `result` is how the keeper's software words the result. -/
def State.kpRefitNow (s : State) (n : Fin 16) (result : List Word) : State :=
  s.serveType n 9 (fun _ p s =>
    if !p.isEmpty then (replyStatus stBadLen, s)
    else
      let r := s.refit
      (replyWith (if r.1 then stOk else stFailed) (if r.1 then result.take 14 else []), r.2))

/-- LOG_READ: up to 13 words of the keeper's log from the cursor, and the new cursor; SHED while C3 is dropped. -/
def State.kpLogRead (s : State) (n : Fin 16) (words : List Word) (cursor : Word) : State :=
  s.serveType n 10 (fun _ p s =>
    if s.bit .MB_KEEPER_C3_DROPPED then (replyStatus stClassShed, s)
    else
      match p with
      | [_] => (replyWith stOk (words.take 13 ++ [cursor]), s)
      | _ => (replyStatus stBadLen, s))

/-- A channel that the recovery service answers on: it binds HOST as END0 to the keeper as END1 (R370). -/
def State.recovers (s : State) (n : Fin 16) : Bool := s.mbEndCode n 0 == 15 && s.mbEndCode n 1 == 3

/-- Any other TYPE; the recovery service answers it where it answers at all. -/
def State.kpUnknown (s : State) (n : Fin 16) : State :=
  if s.rd .DEV_STATE_KEEPER = kpRecovery then
    if s.recovers n then
      s.serve n kpRecovery (fun ty => !(0x100 ≤ ty && ty ≤ 0x103)) (fun _ _ s => (replyStatus stUnknown, s))
    else s
  else s.serve n kpRunning (fun ty => !(1 ≤ ty && ty ≤ 10)) (fun _ _ s => (replyStatus stUnknown, s))

/-! ## Periodic work (R295 to R297) -/

/-- The keeper runs now. -/
def State.keeperRuns (s : State) : Bool := s.rd .DEV_STATE_KEEPER == kpRunning && s.mcpRuns

/-- C2 runs at half rate. -/
def State.c2 (s : State) (ms : Nat) : Nat := (if s.bit .MB_KEEPER_C2_HALVED then 2 * ms else ms) * 1000000000

/-- The refit of every 100 s, or 200 s. -/
def State.keeperRefit (s : State) : State :=
  if s.keeperRuns && s.keeper.refitAt + s.c2 100000 ≤ s.now then
    (s.setKeeper { s.keeper with refitAt := s.now }).refit.2
  else s

/-- The telemetry sample of every 100 ms, or 200 ms: Tj of APLL_A and APLL_B, the readings of the rails, MODEL_AGE and the fit
residual. -/
def State.keeperSample (s : State) (tja tjb core dvs ana : Word) : State :=
  if s.keeperRuns && s.keeper.sampleAt + s.c2 100 ≤ s.now then
    s.setKeeper { s.keeper with sampleAt := s.now
                                sample := [tja, tjb, core, dvs, ana, BitVec.ofNat 32 (s.rd .MODEL_AGE), s.keeper.residual] }
  else s

/-- A 10 ms window with a load in per cent (R296); the keeper reports it with the MGT point in force (R298). -/
def State.loadWindow (s : State) (load : Nat) : State :=
  if !s.keeperRuns then s
  else
    let s := (s.wr .MB_KEEPER_LOAD 0 (min 100 load)).wr .MB_KEEPER_POINT 0 (s.rd .PWR_MGT_DVFS_CUR)
    let k := s.keeper
    let cur := s.rd .PWR_MGT_DVFS_POINT
    let top := if 1 ≤ s.rd .SHED_STATE_STAGE then 0 else 3
    if 90 < load then
      let s := s.setKeeper { k with below70 := none, below50 := none }
      if cur < top then s.mgtPoint (cur + 1)
      else if !s.bit .MB_KEEPER_OVERLOAD then
        ((s.wr .MB_KEEPER_OVERLOAD 0 1).wr .MB_KEEPER_C3_DROPPED 0 1).raise 22
      else s.wr .MB_KEEPER_C2_HALVED 0 1
    else
      let keep := fun (c : Bool) (o : Option Nat) => if c then (if o.isSome then o else some s.now) else none
      let nothing := !s.bit .MB_KEEPER_C3_DROPPED && !s.bit .MB_KEEPER_C2_HALVED
      let b70 := keep (decide (load < 70) && !nothing) k.below70
      let b50 := keep (decide (load < 50) && nothing) k.below50
      let s := s.setKeeper { k with below70 := b70, below50 := b50 }
      let held := fun (o : Option Nat) (sec : Nat) => match o with
        | some t => decide (t + sec * psPerS ≤ s.now + 10000000000)
        | none => false
      if held b70 2 then
        (((s.setKeeper { s.keeper with below70 := none }).wr .MB_KEEPER_C2_HALVED 0 0).wr .MB_KEEPER_C3_DROPPED 0 0).wr
          .MB_KEEPER_OVERLOAD 0 0
      else if held b70 1 then s.wr .MB_KEEPER_C2_HALVED 0 0
      else if held b50 1 && 0 < cur then
        (s.setKeeper { s.keeper with below50 := none }).mgtPoint (cur - 1)
      else s

/-- MB_KEEPER.BEAT counts, every 10 ms (R297). -/
def State.keeperBeat (s : State) : State :=
  if s.keeperRuns then
    (s.setKeeper { s.keeper with beatAt := some s.now }).wr .MB_KEEPER_BEAT 0 (s.rd .MB_KEEPER_BEAT + 1)
  else s

/-! ## The recovery service (R370) -/

/-- The recovery service answers TYPE `ty`. -/
def State.recover (s : State) (n : Fin 16) (ty : Nat) (f : List Word → State → List (List Word) × State) : State :=
  if s.recovers n then s.serve n kpRecovery (· == ty) (fun _ p s => f p s) else s

/-- FLASH_READ. -/
def State.rcRead (s : State) (n : Fin 16) : State :=
  s.recover n 0x100 (fun p s =>
    match p with
    | [a] =>
      if a.toNat % 4 ≠ 0 || 0x800000 < a.toNat + 52 then (replyStatus stBadArg, s)
      else (replyWith stOk (packWords (s.flashBytes a.toNat 52)), s)
    | _ => (replyStatus stBadLen, s))

/-- FLASH_ERASE: the sector that the address lies in reads 0xFF. -/
def State.rcErase (s : State) (n : Fin 16) : State :=
  s.recover n 0x101 (fun p s =>
    match p with
    | [a] =>
      let k := a.toNat / 4096
      if 0x800000 ≤ a.toNat then (replyStatus stBadArg, s)
      else (replyStatus stOk, { s with flash := s.flash.filter (fun c => c.1 / 4096 != k)
                                       flashDirty := s.flashDirty.filter (· != k) })
    | _ => (replyStatus stBadLen, s))

/-- The sectors that a write touches. -/
def sectorsOf (a len : Nat) : List Nat := if a / 4096 = (a + len - 1) / 4096 then [a / 4096] else [a / 4096, (a + len - 1) / 4096]

/-- FLASH_WRITE: FAILED where a sector has been written since its last erase. -/
def State.rcWrite (s : State) (n : Fin 16) : State :=
  s.recover n 0x102 (fun p s =>
    match p with
    | a :: ws =>
      let len := 4 * ws.length
      if ws.isEmpty || 13 < ws.length then (replyStatus stBadLen, s)
      else if a.toNat % 4 ≠ 0 || 0x800000 < a.toNat + len then (replyStatus stBadArg, s)
      else if (sectorsOf a.toNat len).any (fun k => s.flashDirty.contains k) then (replyStatus stFailed, s)
      else
        let b := ws.flatMap wordBytes
        let fl := (b.zipIdx).foldl (fun m x => Store.set m (a.toNat + x.2) x.1 0xFF) s.flash
        (replyStatus stOk, { s with flash := fl, flashDirty := s.flashDirty ++ sectorsOf a.toNat len })
    | [] => (replyStatus stBadLen, s))

end Sys2Proof.Machine
end

