-- ==== Sys2Proof/Machine/Startup.lean ====
section
/-!
DEFINITION. Start-up and the resets (R311, R312, R362 to R374), the reset of the host link (R380), and the reactions of the
fault collector (R301, R308).
-/
namespace Sys2Proof.Machine

/-! ## Reset values by block -/

/-- A key of `State.regs` belongs to the fields from `a` up to, and without, `b`. -/
def inFields (a b : Field) (k : Nat) : Bool := a.ctorIdx ≤ k % 1024 && k % 1024 < b.ctorIdx

/-- The fields that a test on keys names take their reset values. -/
def State.dropRegs (s : State) (p : Nat → Bool) : State := { s with regs := s.regs.filter (fun c => !p c.1) }

/-- A key is one of some fields. -/
def isField (l : List Field) (k : Nat) : Bool := l.any (fun f => f.ctorIdx == k % 1024)

/-- What AON keeps (R371): the Granary, FLT_PREV, RESET_CAUSE, BOOT_STAT.PREF. -/
def aonKeeps (k : Nat) : Bool :=
  inFields .GRN_STAT_KEYLESS .MBn_BIND_END0 k ||
  isField [.FLT_PREV_SRC, .FLT_PREV_LEVEL, .FLT_PREV_VALID, .RESET_CAUSE_POR, .RESET_CAUSE_BOR, .RESET_CAUSE_COLD,
    .RESET_CAUSE_WARM, .BOOT_STAT_PREF] k

/-- Everything but AON and the boot flash outside the part takes its reset value (R371). What hardware has set of AON's bits in
this cycle stays noted (R7), and the degraded form of a failed OTP check stands until a check passes (R364). -/
def State.powerReset (s : State) : State :=
  { State.reset with
    now := s.now, draw := s.draw, regs := s.regs.filter (fun c => aonKeeps c.1), grn := s.grn, flash := s.flash
    flashDirty := s.flashDirty, sent := s.sent, pending := s.pending, sets := s.sets.filter (fun e => aonKeeps e.2.1)
    boot := { BootState.init with otpBad := s.boot.otpBad }
    tok := { TokState.init with downFrom := some s.now }, clk := { ClkState.init with tokIdle := some s.now } }

/-- Step 2 of the sequence begins (R362, R392). -/
def State.startStep2 (s : State) : State := { s with boot := { s.boot with supplies := true, stepAt := s.now } }

/-- A reset after which the sequence begins at step 2, with its cause (R362, R371); a coincident clear of the cause loses (R7,
R374). -/
def State.stepTwo (s : State) (cause : Field) : State := (s.powerReset.hwSet cause 0 1).startStep2

/-! ## The power-up sequence (R362 to R364) -/

/-- Step 2 ends 20 µs after supplies good: TRIM, and FSRC6 with ROSC_UNQUAL where the pair is not qualified (R363). -/
def State.endStep2 (s : State) : State :=
  let s := s.setDev .DEV_STATE_TIMING 1
  if s.bit .CLK_STAT_ROSC_QUAL then s else (s.raise 6).setDev .DEV_STATE_ROSC_UNQUAL 1

/-- The main supplies become good (R392): a power-on reset (R371), or after a brown-out's reset the step 2 at which its
sequence restarts (R342). -/
def State.suppliesGood (s : State) : State :=
  if s.boot.supplies then s
  else if s.boot.brown then s.powerReset.startStep2
  else s.stepTwo .RESET_CAUSE_POR

/-- A report of a zeroisation in KEEP (R277). -/
def State.reportKeep (s : State) : State :=
  if s.grn.keepTamper then (s.setGrn { s.grn with keepTamper := false }).flag .GRN_STAT_TAMPER_IN_KEEP 0 else s

/-- The alarm entry for a valid FLT_PREV (R311). -/
def State.postPrev (s : State) : State :=
  if s.bit .FLT_PREV_VALID then
    let d := s.fresh
    d.2.post (faultEntry (s.rd .FLT_PREV_SRC) (s.rd .FLT_PREV_LEVEL) true false false { inst := Config.previousInst d.1 })
  else s

/-- IMEM and DMEM of every engine cleared (R162). -/
def State.clearMemories (s : State) : State :=
  { s with engines := s.engines.map (fun x => { x with imem := [], dmem := [] }) }

/-- Step 3 ends 220 µs after supplies good (R362, R364): trims in force, the engines' memories cleared, the commit word examined,
the identity derived; a failed check raises FSRC62 and leaves OTP_ERR. -/
def State.trimLoaded (s : State) (otpOk : Bool) : State :=
  if !s.boot.supplies || s.rd .DEV_STATE_TIMING ≠ 1 || s.now < s.boot.stepAt + 220000000 then s
  else
    let s : State := { s with boot := { s.boot with otpBad := !otpOk, stepAt := s.now } }
    let s := s.loadSilicon.clearMemories
    let s := if otpOk then s else (s.raise 62).setDev .DEV_STATE_ERR 4
    let s := s.examineWord
    let s := if s.bit .GRN_STAT_KEYLESS then s else s.deriveIdentity
    let s := (s.reportKeep).postPrev
    let s := s.setKeeper { s.keeper with bootAt := s.now }
    s.setDev .DEV_STATE_TIMING 2

/-- DEV_STATE.ERR set; OTP_ERR stays in preference to any later code (R364). -/
def State.devErr (s : State) (e : Nat) : State := if s.rd .DEV_STATE_ERR = 4 then s else s.setDev .DEV_STATE_ERR e

/-! ## The boot configuration (R365) -/

/-- A copy of the record is accepted. -/
def cfgOk (b : List Byte) : Bool :=
  let xo := leAt b 8 4
  slice b 0 4 == [0x51, 0x42, 0x43, 0x46] && leAt b 4 2 == 1 && leAt b 6 2 == 1600 && 10000000 ≤ xo && xo ≤ 100000000
    && (slice b 1584 12).all (· == 0) && leAt b 1596 4 == (crc32c (b.take 1596)).toNat

/-- The "Boot" fields of an APLL. -/
def State.bootApll (s : State) (b : List Byte) (x : Fin 2) : State :=
  let o := 16 + 16 * x.val
  let s := (((s.wr .APLLx_N x (leAt b o 4)).wr .APLLx_NUM x (leAt b (o + 4) 4)).wr .APLLx_DEN x (leAt b (o + 8) 4)).wr
    .APLLx_CTRL_REFMUL x (leAt b (o + 12) 4)
  s.wrB .APLLx_CTRL_EN x ((leAt b 12 4).testBit x)

/-- The "Boot" fields of an output: of CFG only EN, FMT, MODE and START. -/
def State.bootOut (s : State) (b : List Byte) (n : Fin 64) : State :=
  let o := 48 + 24 * n.val
  let s := s.writeWord .OUTn_SRC n (BitVec.ofNat 32 (leAt b (o + 4) 4))
  let s := ((s.wr .OUTn_INT n (leAt b (o + 8) 8)).wr .OUTn_NUM n (leAt b (o + 16) 4)).wr .OUTn_DEN n (leAt b (o + 20) 4)
  let mask : Nat := 0x70F
  let keep := s.regVal .OUTn_CFG n
  s.writeOutCfg n (BitVec.ofNat 32 ((keep ^^^ (keep &&& mask)) ||| (leAt b o 4 &&& mask)))

/-- The fields of a record loaded: XO_NOM and every "Boot" field (R365). -/
def State.loadBoot (s : State) (b : List Byte) : State :=
  let s := s.wr .XO_NOM 0 (leAt b 8 4)
  (s.forAll 2 (fun s x => s.bootApll b x)).forAll 64 (fun s n => s.bootOut b n)

/-- The QSPI loader reads the record, and its copy where the first fails; where both do, every field of it takes 0 (R365). -/
def State.bootConfig (s : State) : State :=
  if !s.boot.supplies || s.rd .DEV_STATE_TIMING < 2 || s.boot.cfgRead then s
  else
    let s : State := { s with boot := { s.boot with cfgRead := true } }
    let a := s.flashBytes 0 1600
    let c := s.flashBytes 0x1000 1600
    let good := fun (copy : Nat) => (s.wr .BOOT_STAT_CFG_VALID 0 1).wr .BOOT_STAT_CFG_COPY 0 copy
    if cfgOk a then (good 0).loadBoot a
    else if cfgOk c then (good 1).loadBoot c
    else (s.loadBoot (List.replicate 1600 0)).devErr 1

/-! ## Keeper images (R368, R369) -/

/-- Base and size of an image: 0 A, 1 B. -/
def imageBase (x : Nat) : Nat := if x = 0 then 0x10000 else 0x3D0000

/-- Why an image fails, as BOOT_STAT.FALLBACK has it (R374); none where it is good. -/
def State.imageFault (s : State) (x : Nat) (readOk : Bool) : Option Nat :=
  let h := s.flashBytes (imageBase x) 256
  let len := leAt h 8 4
  if !readOk then some 4
  else if slice h 0 4 ≠ [0x51, 0x4B, 0x50, 0x52] || len = 0 || 3932160 - 256 < len || leAt h 12 4 ≠ 0
      || !(slice h 112 144).all (· == 0) then some 1
  else if !ecdsaVerify Config.bootKey.1 Config.bootKey.2 (sha256 (h.take 48)) (beAt h 48 32) (beAt h 80 32)
      || sha256 (s.flashBytes (imageBase x + 256) len) ≠ slice h 16 32 then some 2
  else if s.keeper.hung.testBit x then some 3
  else none

/-- The order in which the images are tried: PREF, or the higher header VERSION, A where they are equal. A header whose MAGIC
is wrong has no version. -/
def State.imageFirst (s : State) : Nat :=
  let ver := fun (x : Nat) =>
    let h := s.flashBytes (imageBase x) 8
    if slice h 0 4 = [0x51, 0x4B, 0x50, 0x52] then leAt h 4 4 + 1 else 0
  let p := s.rd .BOOT_STAT_PREF
  if p = 0 then 0 else if p = 1 then 1 else if ver 0 < ver 1 then 1 else 0

/-- The keeper starts from an image. -/
def State.keeperStart (s : State) (x : Nat) : State :=
  let h := s.flashBytes (imageBase x) (256 + leAt (s.flashBytes (imageBase x) 256) 8 4)
  let s := s.setKeeper { s.keeper with version := BitVec.ofNat 32 (leAt h 4 4), digest := sha256 h, startAt := s.now
                                       refitAt := s.now, sampleAt := s.now }
  let s := s.wr .BOOT_STAT_IMAGE 0 x
  let s := if s.rd .DEV_STATE_ERR = 5 then s.setDev .DEV_STATE_ERR 0 else s
  let s := (s.setDev .DEV_STATE_KEEPER kpRunning).setDev .DEV_STATE_WARM 0
  { s with boot := { s.boot with keeperRan := true } }

/-- The MCP enters the recovery service. -/
def State.enterRecovery (s : State) : State := (s.setDev .DEV_STATE_KEEPER kpRecovery).setDev .DEV_STATE_WARM 0

/-- The boot ROM runs (R368): it starts the first good image, recording a fallback, or enters the recovery service. `readA` and
`readB` tell whether the flash can be read. -/
def State.keeperBoot (s : State) (readA readB : Bool) : State :=
  if !s.mcpRuns || s.rd .DEV_STATE_TIMING < 2 || s.rd .DEV_STATE_KEEPER ≠ kpLoading then s
  else if s.keeper.toRecovery then (s.setKeeper { s.keeper with toRecovery := false }).enterRecovery
  else
    let read := fun (x : Nat) => if x = 0 then readA else readB
    let x := s.imageFirst
    match s.imageFault x (read x) with
    | none => (s.wr .BOOT_STAT_FALLBACK 0 0).keeperStart x
    | some why =>
      match s.imageFault (1 - x) (read (1 - x)) with
      | none => ((s.wr .BOOT_STAT_FALLBACK 0 why).raise 21).keeperStart (1 - x)
      | some _ => (s.devErr 5).enterRecovery

/-- The MCP restarts (R289, R297): the keeper's end resets, a capsule under way ends as in R278, and the boot ROM is to run. -/
def State.mcpReset (s : State) : State :=
  let s := s.mbResetEnds (fun c => c == 3)
  let s := s.capAbort
  let s := s.setKeeper { KeeperState.init with
    version := s.keeper.version, bootAt := s.now, startAt := s.keeper.startAt, hangs := s.keeper.hangs, hung := s.keeper.hung
    digest := s.keeper.digest }
  s.setDev .DEV_STATE_KEEPER kpLoading

/-- The reaction MCP_RESTART: MGT held in reset, then the boot. A second restart in succession within 200 ms of the keeper's
start makes its image fail (R368). -/
def State.mcpRestart (s : State) : State :=
  let quick := s.rd .DEV_STATE_KEEPER == kpRunning && s.now ≤ s.keeper.startAt + 200000000000
  let k := s.keeper
  let hangs := if quick then k.hangs + 1 else if s.rd .DEV_STATE_KEEPER == kpRunning then 0 else k.hangs
  let k := if 2 ≤ hangs then { k with hangs := 0, hung := k.hung ||| 2 ^ s.rd .BOOT_STAT_IMAGE } else { k with hangs := hangs }
  let s := (s.setKeeper k).mcpReset
  s.setClk { s.clk with held := natBit s.clk.held islMgt true }

/-- The recovery service reboots once the reply on channel `n` is sent whole; until then it takes up nothing more (R370). -/
def State.rebootAfter (s : State) (n : Fin 16) : State :=
  if (s.keeper.owed[n]).isEmpty then
    let s := (s.mbKeep n 1).mcpReset
    s.setKeeper { s.keeper with hangs := 0, hung := 0 }
  else s.setKeeper { s.keeper with rebooting := some n }

/-- RECOVERY_REBOOT (R370): the reply is sent before the MCP restarts under R368. -/
def State.rcReboot (s : State) (n : Fin 16) : State :=
  let on := s.rd .DEV_STATE_KEEPER == kpRecovery && s.mcpRuns && s.recovers n
  if on && s.keeper.rebooting == some n then (s.postParts n 1 s.keeper.owed[n]).rebootAfter n
  else
    let asked := (s.inbound n 1).head?.any (fun h => headerType h == 0x103 && !headerReply h && headerLen h == 0)
    let go := on && asked && s.keeper.rebooting.isNone && (s.keeper.owed[n]).isEmpty
    let s := s.recover n 0x103 (fun p s => if p.isEmpty then (replyStatus stOk, s) else (replyStatus stBadLen, s))
    if go then s.rebootAfter n else s

/-! ## Power failing (R18, R342) -/

/-- The main supplies fall away, or have not come back after a brown-out: AON alone, in KEEP. Its first work on VBAT is the
commit word (R273). -/
def State.supplyLoss (s : State) : State :=
  if !s.boot.supplies && !s.boot.brown then s
  else
    let s := s.powerReset.examineWord.powerReset
    { s with boot := { s.boot with keep := true } }

/-- A rail has stayed below its brown-out threshold for 1 µs: FSRC16 into AON, and a brown-out reset (R342). The sequence
restarts at step 2 when the supplies are good again (R392); until then AON runs alone. -/
def State.brownOut (s : State) (rail : Fin 3) (mv : Nat) : State :=
  if s.boot.supplies && mv < shedThreshold rail 6 then
    let s := (s.raise 16).powerReset.hwSet .RESET_CAUSE_BOR 0 1
    { s with boot := { s.boot with keep := true, brown := true } }
  else s

/-- VBAT falls below retention in KEEP (R277): what only VBAT kept is lost. -/
def State.vbatLoss (s : State) : State :=
  if s.boot.supplies then s
  else
    let s := s.vaultLost
    let s := s.dropRegs (isField [.FLT_PREV_SRC, .FLT_PREV_LEVEL, .FLT_PREV_VALID, .RESET_CAUSE_POR, .RESET_CAUSE_BOR,
      .RESET_CAUSE_COLD, .RESET_CAUSE_WARM, .BOOT_STAT_PREF])
    { s with boot := { s.boot with keep := false } }

/-! ## Island resets (R301, R371) -/

/-- TOK at its reset values (R259, R260). -/
def State.tokReset (s : State) : State :=
  let s := (s.dropRegs (inFields .TOK_CTRL .GRN_STAT_KEYLESS)).setTok { TokState.init with downFrom := some s.now }
  s.setClk { s.clk with tokIdle := some s.now }

/-- TOK across a warm reset: at its reset values, but a DVFS step in progress completes (R333). -/
def State.tokWarm (s : State) : State :=
  let cur := s.rd .TOK_DVFS_CUR
  let k := s.tok
  let s := s.tokReset
  if k.step.isSome then (s.setTok { s.tok with step := k.step, stepAt := k.stepAt }).wr .TOK_DVFS_CUR 0 cur else s

/-- An island is released from reset; TOK then draws its nonce key (R252, R301). -/
def State.release (s : State) (c : Nat) : State :=
  let s := s.setClk { s.clk with held := natBit s.clk.held c false }
  if c = islTok then s.tokLeaves else s

/-- The links at their reset values; after a warm reset what R233 keeps stays, and an enabled link is in ALIGN. -/
def State.lnzReset (s : State) (warm : Bool) : State :=
  s.forAll 4 (fun s n => s.lzGrade n (fun s =>
    let run := s.links[n].cal.isSome
    let en := s.bit .LZn_CFG_EN n
    let s := s.dropRegs (fun k => inFields .LZn_CFG_EN .TOK_CTRL k && k / 1024 == n
      && !(warm && lzKept (Field.ofNat (k % 1024))))
    let s := s.setLink n { LinkState.init with unlockedAt := s.now, validAt := s.now }
    let s := if warm && run then s.wr .LZn_ACAL_RESULT n 3 else s
    let s := if warm && en then s.wr .LZn_STAT_STATE n (if 2 ≤ s.rd .SHED_STATE_STAGE then lzShed else lzAlign) else s
    s.showLinkTerm n))

/-- Fields of the engines that a warm reset keeps (R186, R191). -/
def yeKept : List Field :=
  [.YEe_STAT_SIG, .YEe_ENTRY, .YEe_BOOT, .YEe_SIGLEN_IMEM_WORDS, .YEe_SIGLEN_DMEM_WORDS, .YE_POLICY_SIGN_REQ,
    .YE_POLICY_LOCK, .YE_POLICY_SIGSLOT]

/-- The engines after a warm reset: each in RESET, with the memories and what R186 keeps. -/
def State.yacWarm (s : State) : State :=
  let s := s.dropRegs (fun k => inFields .YEe_CTRL_START .LZn_CFG_EN k && !isField yeKept k)
  s.forAll 4 State.yeClear

/-- The YAC island at its reset values (R371); YE_POLICY, once locked, holds until the power-on reset (R191). -/
def State.yacReset (s : State) : State :=
  let s := s.forAll 4 State.yeReset
  let lock := s.bit .YE_POLICY_LOCK
  let s := s.dropRegs (fun k => inFields .YEe_CTRL_START .LZn_CFG_EN k
    && !(lock && isField [.YE_POLICY_SIGN_REQ, .YE_POLICY_LOCK, .YE_POLICY_SIGSLOT] k))
  { s with engines := Vector.replicate 4 Engine.init }

/-- What the resets of R380 do inside and at the edge of HIF: of HIF's registers (R388) INT_STAT and INT_EN fall, INT_SPI_EN
stands. `linkLost`: the link leaves its active state; an FLR leaves it
trained. -/
def State.hifReset (s : State) (linkLost : Bool) : State :=
  let was := s.hif.up
  let s : State := { s with hif := { HifState.init with up := was && !linkLost, spiHeld := s.hif.spiHeld, ferr := s.hif.ferr }
                            msiDue := 0, masters := s.masters.set 1 MasterState.init }
  let s := (((s.wr .INT_STAT 0 0).wr .INT_EN 0 0).wr .EVR_HCFG_EN 0 0).tokHostLost
  let s := s.mbResetEnds (fun c => c == 1 || c == 15)
  let s := s.leaveRegions 1
  if was && linkLost then s.raise 35 else s

/-- ISLAND_RESET of the island with code `c`; with another code no island is reset (R301, R308). -/
def State.islandReset (s : State) (c : Nat) : State :=
  if c = islYac || c = islTok || c = islHif || c = islLnz then
    let s := s.setClk { s.clk with held := natBit s.clk.held c true }
    if c = islYac then s.yacReset
    else if c = islTok then s.tokReset
    else if c = islHif then s.hifReset true
    else s.lnzReset false
  else s

/-! ## Reactions (R301, R308) -/

/-- The reaction of a source on an instance. SCRUB names no state of the model: the corrected word is what the memory holds. -/
def State.react (s : State) (src inst : Nat) : State :=
  match faultReaction src with
  | .none | .scrub => s
  | .apllSwap => s.departUsers (Fin.ofNat 2 (src - 2))
  | .islandFb => s.fallBack (Fin.ofNat 3 (src - 7))
  | .islandReset => s.islandReset inst
  | .mcpRestart => s.mcpRestart

/-- A detector fires, with the collector's reaction where its fault is recorded (R301, R306, R413). -/
def State.raiseReact (s : State) (src : Nat) (d : Detail) : State :=
  let go := s.records src
  let s := s.raise src d
  if go then s.react src d.inst else s

/-- The mux of a non-privileged island hangs (R328): its ISLAND_RESET forces the mux onto the new clock. -/
def State.muxHang (s : State) (i : Fin 4) : State := s.raiseReact 11 { inst := coastCode i }

/-- A monitor window with its fault (R323). -/
def State.monitor (s : State) (i : Fin 3) (ratio : Rat) : State :=
  let r := s.monWindow i ratio
  if r.2 then r.1.raise (7 + i) { inst := privCode i } else r.1

/-- The window that a reaction opened. -/
def State.windowOf (s : State) (src inst : Nat) : Option MaskWindow :=
  s.faults.windows.find? (fun w => w.reaction == src && w.inst == faultInst src inst)

/-- Another MCP_RESTART than that of source `src` runs, which holds MGT too. -/
def State.otherRestart (s : State) (src : Nat) : Bool :=
  s.faults.windows.any (fun w => w.reaction != src && faultReaction w.reaction == .mcpRestart
    && w.until_.any (fun u => decide (s.now + 2000000 < u)))

/-- A reaction ends (R301, R306): a held island is released once no reaction holds it, the window of a swap closes 2 µs later. -/
def State.reactionEnd (s : State) (src inst : Nat) : State :=
  match s.windowOf src inst with
  | none => s
  | some w =>
    let time := match w.until_ with
      | some u => decide (u ≤ s.now + 2000000)
      | none => true
    match faultReaction src with
    | .apllSwap =>
      let x := src - 2
      let moving := (List.finRange 64).any (fun (n : Fin 64) => s.outApll n == Fin.ofNat 2 x && (match s.outs[n].swap with
        | some p => p.depart
        | none => false))
      if !time && !moving then
        { s with faults := { s.faults with windows := s.faults.windows.map (fun v =>
            if v.reaction == src && v.inst == faultInst src inst then { v with until_ := some (s.now + 2000000) } else v) } }
      else s
    | .islandReset => if time then s.release inst else s
    | .mcpRestart =>
      if time && !s.otherRestart src then
        (s.setClk { s.clk with held := natBit s.clk.held islMgt false }).setKeeper { s.keeper with bootAt := s.now }
      else s
    | _ => s

/-- A masking window ends (R306). -/
def State.windowEnd (s : State) (src inst : Nat) : State :=
  { s with faults := { s.faults with windows := s.faults.windows.filter (fun w =>
      !(w.reaction == src && w.inst == faultInst src inst && (match w.until_ with
        | some u => decide (u ≤ s.now)
        | none => false))) } }

/-! ## The warm reset (R372) -/

/-- A plane across a warm reset (R73): HOLDOVER on the kept word, the shadow loop restarted; the loop residual, events, PLn_UPD
with its data, and the result of a region that this reset did not close, at their reset values. -/
def State.planeWarm (s : State) (p : Fin 4) : State :=
  let cut := s.boot.cut.testBit p || s.planes[p].region.isSome
  let s := s.preempt p
  let st := s.rd .PLn_STATE_STATE p
  let s :=
    if st = 1 || st = 2 || st = 4 then
      let s := if st = 4 then s.freezeSteered p else s.freezeEntry p s.now
      let c : Rat := s.planes[p].c
      let g := s.planes[p].growth
      let s := if g.run && (st = 4 || g.loss) then s else s.entryGrowth p c
      let pl := s.planes[p]
      (s.setPlane p { pl with growth := { pl.growth with cHist := c, yEntry := s.modelValue s.now, entry := s.now } }).startHoldover p
    else s
  let s := s.setPlane p { s.planes[p] with refWrite := false, errs := [], updErr := 0, updOffset := 0
                                           before := PlaneState.init.before }
  let s := s.restartShadow p (s.candidateNow p)
  let s := if cut then s else s.wr .PLn_COMMIT_RESULT p 0
  s.dropRegs (fun k => k / 1024 == p && isField [.PLn_UPD_SEQ, .PLn_UPD_VALID, .PLn_EV_STATE_CHG, .PLn_EV_REGION_END,
    .PLn_EV_RECALL, .PLn_EV_LOCK_LOST, .PLn_EV_LIMIT] k)

/-- The collector across a warm reset, and the event path (R312, R371): the ring and the pending records, with their holds, are
kept; the registers of EVR, EN among them, take their reset values. -/
def State.faultsWarm (s : State) : State :=
  let s : State := { s with faults := { s.faults with open_ := [], quietFrom := none } }
  let s := if s.rd .FLT_LEVEL_LEVEL = 0 then s else ((s.wr .FLT_LEVEL_LEVEL 0 0).pulse 60).raiseInt 0
  let s : State := { s with events := { s.events with unsignalled := 0, firstAt := 0 } }
  s.dropRegs (inFields .EVR_CTRL_PL .CLK_STAT_FB)

/-- A latched word that a warm reset keeps: one of a block whose every register it keeps (CLKPWR, FC, the APLLs, the outputs, TOD and TEB but the stamps, CAL, the Granary: R103, R134, R160, R278, R312, R345, R359). -/
def warmLatch (a : Nat) : Bool :=
  (0x10000 ≤ a && a < 0x28000) || (0x60000 ≤ a && a < 0x61000) || (0x80000 ≤ a && a < 0x90800)
    || (0xA0000 ≤ a && a < 0x100000) || (0x300000 ≤ a && a < 0x340000)

/-- What is kept for the masters across a warm reset: those latches, and no word held (R8, R41, R73). -/
def State.mastersWarm (s : State) : State :=
  ({ s with masters := s.masters.map (fun x => { x with hold := 0, data := 0 }) } : State).dropLatches (fun a => !warmLatch a)

/-- A warm reset is accepted (R359, R372, steps 1 and 2). -/
def State.warmReset (s : State) : State :=
  let s := (s.setDev .DEV_STATE_WARM 1).hwSet .RESET_CAUSE_WARM 0 1
  let cut := ((List.finRange 4).filter (fun p => s.planes[p].region.isSome)).foldl (fun k p => k + 2 ^ p.val) 0
  let s := s.forAll 4 (fun s p => s.preempt p)
  let s := s.examineWord.capAbort.calAbort
  let s := s.ungateAll
  let s := if s.rd .PWR_STATE_STATE = 0 then s else (s.setPower 0)
  { s with boot := { s.boot with warmAt := some s.now, held := false, cut := cut } }

/-- Its step 3, 2 µs after the write (R372): the hold, and what a warm reset does not keep at its reset values. -/
def State.warmHold (s : State) : State :=
  let s := s.ungateAll
  let s := s.setClk { s.clk with held := [islYac, islTok, islMgt, islLnz].foldl (fun h c => natBit h c true) s.clk.held }
  let s := s.tokWarm.lnzReset true
  let s := s.forAll 4 State.planeWarm
  let s := s.mbWarm.mbResetEnds (fun _ => true)
  let s := s.dropRegs (isField [.MB_KEEPER_LOAD, .MB_KEEPER_OVERLOAD, .MB_KEEPER_C3_DROPPED, .MB_KEEPER_C2_HALVED,
    .MB_KEEPER_POINT, .MB_KEEPER_BEAT, .SOFT_RESET_REFUSED])
  let s := s.dropRegs (isField [.BOOT_STAT_IMAGE, .BOOT_STAT_FALLBACK, .BOOT_STAT_CFG_COPY, .BOOT_STAT_CFG_VALID])
  let s := s.forAll 16 (fun s j => s.setStamp j StampState.init)
  let s := s.mastersWarm.faultsWarm.yacWarm
  let s := s.setKeeper { KeeperState.init with bootAt := s.now, startAt := s.keeper.startAt }
  let s := s.setDev .DEV_STATE_KEEPER kpLoading
  { s with boot := { s.boot with held := true } }

/-- Step 3 of a warm reset, once it is due at instant `t`. -/
def State.warmStep (s : State) (t : Nat) : State :=
  match s.boot.warmAt with
  | some w => if !s.boot.held && w + 2000000 ≤ t then (s.at_ (w + 2000000)).warmHold else s
  | none => s

/-- What every command begins with: islands wake for what the last command did, the instant, the end of step 2 or step 3 of a
warm reset where it has passed, nothing sent yet. -/
def State.begin (s : State) (t : Nat) : State :=
  let s : State := { s.wakeAll with events := { s.wakeAll.events with inTick := none } }
  let due := s.boot.stepAt + 20000000
  let s := if s.boot.supplies && s.rd .DEV_STATE_TIMING = 0 && due ≤ t then (s.at_ due).endStep2 else s
  { (s.warmStep t).at_ t with sent := [] }

/-- At 20 µs the islands are released, and engines with WARMRUN start (R186, R372). -/
def State.warmRelease (s : State) : State :=
  match s.boot.warmAt with
  | some w =>
    if s.now < w + 20000000 then s
    else
      let s : State := { s with boot := { s.boot with warmAt := none, held := false, cut := 0 } }
      let s := [islYac, islTok, islMgt, islLnz].foldl State.release s
      let s := s.setKeeper { s.keeper with bootAt := s.now }
      s.forAll 4 (fun s e => if s.bit .YEe_BOOT e then s.yeStartEntry e else s)
  | none => s

/-- SOFT_RESET.RECOVER: the MCP restarts into the recovery service (R370). -/
def State.softRecover (s : State) : State :=
  let s := s.mcpReset
  s.setKeeper { s.keeper with toRecovery := true }

/-- SOFT_RESET written (R370 to R374). -/
def State.writeSoftReset (s : State) (m : Master) (v : Word) : State :=
  let s := s.writeWord .SOFT_RESET 0 v
  let id := m.id.val
  let key := fieldOf .SOFT_RESET_KEY v == 0xA5
  let sys := key && 1 ≤ id && id ≤ 3
  let cold := sys && v.toNat.testBit 1
  let warm := sys && v.toNat.testBit 0
  let refused := !s.boot.keeperRan || s.bit .DEV_STATE_WARM
  if cold || warm then
    if refused then s.flag .SOFT_RESET_REFUSED 0
    else if cold then s.stepTwo .RESET_CAUSE_COLD
    else s.warmReset
  else if key && (id = 1 || id = 2) && v.toNat.testBit 2 then s.softRecover
  else s

/-! ## The entropy source (R252) -/

/-- The on-die entropy source passes its start-up health test. -/
def State.entropyPass (s : State) : State :=
  let s := (s.setGrn { s.grn with entropyBad := false }).wr .GRN_STAT_ENTROPY_OK 0 1
  if s.heldRst islTok then s else s.tokLeaves

end Sys2Proof.Machine
end

