-- ==== Sys2Proof/Machine/FaultCmds.lean ====
section
/-!
DEFINITION. The fault collector's timers and registers (R303 to R305, R308 to R310).
-/
namespace Sys2Proof.Machine

/-- Masters 1, 2 and 3: the host over either port, and the keeper. -/
def sysMaster (m : Master) : Bool := 1 ≤ m.id.val && m.id.val ≤ 3

/-! ## Timers (R303, R304) -/

/-- The grace timer of an open L3 fault has run out. -/
def State.graceOver (s : State) (o : OpenFault) : Bool :=
  match o.grace with
  | some g => decide (g + s.gracePs ≤ s.now)
  | none => false

/-- A grace timer expires: its fault escalates to L4 (R303), which the always-on record takes (R311). -/
def State.graceExpire (s : State) (src : Nat) (inj : Bool) : State :=
  if s.faults.open_.any (fun o => o.src == src && o.inj == inj && s.graceOver o) then
    let s : State := { s with faults := { s.faults with open_ := s.faults.open_.map (fun o =>
      if o.src == src && o.inj == inj then { o with level := 4, grace := none } else o) } }
    (s.keepPrev src 4).refreshLevel
  else s

/-- The quiet timer has reached FLT_QUIET. -/
def State.quietOver (s : State) : Bool :=
  match s.faults.quietFrom with
  | some q => decide (q + s.quietPs ≤ s.now)
  | none => false

/-- A recovery (R304): every open fault closes, FLT_LEVEL becomes L0, FLT_RECOVERIES counts, an entry is posted. -/
def State.recovery (s : State) : State :=
  if s.quietOver then
    let s : State := { s with faults := { s.faults with open_ := [], quietFrom := none } }
    let s := ((s.wr .FLT_LEVEL_LEVEL 0 0).pulse 60).raiseInt 0
    (s.incSat .FLT_RECOVERIES 0).log 0x078 0
  else s

/-! ## Registers (R305, R308, R309, R319) -/

/-- The grace timers that have run out escalate (R303). -/
def State.graceAll (s : State) : State :=
  s.faults.open_.foldl (fun s o => if s.graceOver o then s.graceExpire o.src o.inj else s) s

/-- An open fault of a source whose grace timer runs out in this SYS cycle. -/
def State.graceNow (s : State) (src : Nat) : Bool :=
  s.faults.open_.any (fun o => o.src == src && (match o.grace with
    | some g => sameCycle (g + s.gracePs) s.now
    | none => false))

/-- FLT_ACK: each 1 closes its source's open fault and clears its FLT_STATUS bit (R305). The escalation of a fault whose grace
timer runs out in the same cycle wins: that fault stays open (R303). -/
def State.writeAck (s : State) (m : Master) (v : DWord) : State :=
  if sysMaster m then s.graceAll.ackFaults (fun src => v.toNat.testBit src && !s.graceNow src) else s

/-- The instance that an injected fault names (R308): FLT_INJECT.ISLAND for an ISLAND_RESET, the source's own where it has one,
and else one that the spec does not state. Answers it with the state after its draw. -/
def State.injectInst (s : State) (src : Nat) : Nat × State :=
  if src = 11 then (s.rd .FLT_INJECT_ISLAND, s)
  else if [10, 12, 14, 23, 24, 25].contains src then (Config.injectedInst s.fresh.1, s.fresh.2)
  else (faultInst src 0, s)

/-- What an injected fault reports: a bus-type source has no access behind it, so master, access type and address of its
capture are free (R309 states none). -/
def State.injectDetail (s : State) (src : Nat) : Detail × State :=
  let x := s.injectInst src
  if faultBus src then
    let d := x.2.fresh
    let c := Config.injectedAccess d.1
    ({ inst := x.1, cap := some ⟨c.1, c.2.1, c.2.2⟩ }, d.2)
  else ({ inst := x.1 }, x.2)

/-- FLT_INJECT written; GO by masters 1 to 3 fires the source as an injected fault (R308). -/
def State.writeInject (s : State) (m : Master) (v : Word) : State :=
  let s := s.writeWord .FLT_INJECT 0 v
  if sysMaster m && v.toNat.testBit 8 then
    let src := s.rd .FLT_INJECT_SRC
    let d := s.injectDetail src
    let react := s.bit .FLT_INJECT_REACT
    let s := d.2.inject src d.1 react (s.bit .FLT_INJECT_LVLACT)
    if react then s.react src d.1.inst else s
  else s

/-- The capture cleared by a rearm (R309). -/
def State.rearm (s : State) : State :=
  ([Field.FLT_FIRST_VALID, .FLT_FIRST_OVF, .FLT_FIRST_SRC, .FLT_FIRST_INJ, .FLT_CAP_INFO_MASTER, .FLT_CAP_INFO_ACCESS,
    .FLT_CAP_INFO_SRC, .FLT_CAP_INFO_VALID, .FLT_CAP_ADDR, .FLT_CAP_TODw]).foldl (fun s f => s.wr f 0 0) s

/-- FLT_FIRST written: REARM (R309). -/
def State.writeFirst (s : State) (v : Word) : State := if v.toNat.testBit 31 then s.rearm else s

/-- FLT_SWRAISE written by master 3: FSRC63, with DETAIL as its instance (R319). -/
def State.writeSwraise (s : State) (m : Master) (v : Word) : State :=
  if m == .keeper then s.raise 63 { inst := fieldOf .FLT_SWRAISE v } else s

/-- A nibble of FLT_LVLi written: the level of one source (R319). -/
def State.writeLvl (s : State) (i : Nat) (v : Word) : State :=
  (List.range 8).foldl (fun s j => s.writeField .FLT_LVL (8 * i + j) 0x7 (v.toNat / 16 ^ j)) s

/-- FLT_LVLi as it reads. -/
def State.lvlWord (s : State) (i : Nat) : Word :=
  BitVec.ofNat 32 ((List.range 8).foldr (fun j acc => acc * 16 + s.rd .FLT_LVL (8 * i + j)) 0)

/-- FLT_LEVEL as it reads (R319). -/
def State.levelWord (s : State) : Word :=
  BitVec.ofNat 32 (s.rd .FLT_LEVEL_LEVEL + s.graceRuns.toNat * 8 + s.faults.quietFrom.isSome.toNat * 16)

/-! ## ALIVE (R310) -/

/-- ALIVE may run: the timebase runs, ALIVE_EN is 1 and FLT_LEVEL is below L4. -/
def State.aliveRuns (s : State) : Bool :=
  s.boot.supplies && s.timebase && s.bit .FLT_CFG_ALIVE_EN && s.rd .FLT_LEVEL_LEVEL < 4

/-- 500 µs of the device timescale end: ALIVE toggles while it runs. -/
def State.aliveToggle (s : State) : State :=
  if s.aliveRuns && (s.now - s.tick0) % 500000000 = 0 then { s with pins := { s.pins with alive := !s.pins.alive } } else s

end Sys2Proof.Machine
end

