-- ==== Sys2Proof/Machine/Bus.lean ====
section
/-!
DEFINITION. Accesses to the registers (R5 to R9, R27 to R29, R387): what a write and a read of every register do, but for the
blocks of the Yacor engines, which Machine/Master.lean adds.
-/
namespace Sys2Proof.Machine

/-! ## What answers (R9, R377) -/

/-- The island code of R346. -/
def Island.code (i : Island) : Nat := i.ctorIdx

/-- An island's clock runs: that of HIF from supplies good, AON's always, and the others' from the end of step 2 of start-up
(R362, R374, R377). -/
def State.islandRuns (s : State) (i : Island) : Bool := i == .hif || i == .aon || s.rd .DEV_STATE_TIMING != 0

/-- The registers of SYS whose state a warm reset does not keep: they are held in reset from 2 to 20 µs of it (R73, R160, R298,
R312, R372). -/
def Reg.warmHeld : Reg → Bool
  | .MBn_LOCK | .MBn_TX | .MBn_RX | .MBn_STAT | .MBn_EV | .MB_KEEPER | .STAMPj_REC | .PLn_UPD | .PLn_FREQ | .PLn_PHASE_ERR
  | .PLn_SHADOW_OFFSET | .PLn_COMMIT | .PLn_EV | .FLT_LEVEL | .EVR_CTRL | .EVR_COAL | .EVR_TRACE_RSV | .EVR_DROP_TRACE
  | .EVR_MERGE_LOG | .EVR_MERGE_ALARM | .EVR_HBASE | .EVR_HCFG | .EVR_HHEAD | .EVR_HTAIL | .EVR_HIRQ => true
  | _ => false

/-- A register answers: the main supplies are good, and its island runs and is neither gated nor held in reset, nor the
register itself (R9, R372, R377). -/
def State.reach (s : State) (r : Reg) : Bool :=
  s.boot.supplies && !(s.boot.held && r.warmHeld) && (match r.island with
    | none => true
    | some i => s.islandRuns i && !s.gated i.code && !s.heldRst i.code)

/-- Word `i` of a value. -/
def wordAt (v i : Nat) : Word := BitVec.ofNat 32 (v >>> (32 * i))

/-- The register bits that word `i` holds. -/
def wordMask (i : Nat) : Nat := 0xFFFFFFFF <<< (32 * i)

/-! ## Writes -/

/-- A word written to a one-word register. "Writable by the host" and "written by the host" (MODEL_SPAN, EVR_HHEAD, TOK_CQq_HEAD) keep no
other master out of a register: R6 lets every master write an RW field (entry 138). -/
def State.setWord (s : State) (m : Master) (r : Reg) (n : Nat) (v : Word) : State :=
  match r with
  | .INn_CFG => s.writeInCfg (Fin.ofNat 16 n) v
  | .INn_TYPE => s.writeInType (Fin.ofNat 16 n) v
  | .INn_DIV => s.writeInDiv (Fin.ofNat 16 n) v
  | .ATOM_CFG => s.writeAtomCfg v
  | .MODEL_CTRL => s.writeModelCtrl m v
  | .MODEL_FITAGE => if m == .keeper then s.writeWord r n v else s
  | .PLn_CTRL => s.writePlCtrl (Fin.ofNat 4 n) v
  | .PLn_REFSEL => s.writeRefsel (Fin.ofNat 4 n) m v
  | .PLn_SHADOW_CAND => s.writeCand (Fin.ofNat 4 n) v
  | .PLn_COMMIT => s.writeCommit (Fin.ofNat 4 n) m v
  | .APLLx_CTRL => s.writeApllCtrl (Fin.ofNat 2 n) v
  | .APLLx_N | .APLLx_NUM | .APLLx_DEN => s.writeApllCfg (Fin.ofNat 2 n) r v
  | .APLLx_GAIN => s.writeTrim (Fin.ofNat 2 (n / 16)) r n v
  | .APLLx_TAP => s.writeTrim (Fin.ofNat 2 (n / 256)) r n v
  | .OUTn_CFG => s.writeOutCfg (Fin.ofNat 64 n) v
  | .OUTn_SRC => s.writeOutSrc (Fin.ofNat 64 n) v
  | .OUTn_NUM | .OUTn_DEN => s.writeRatio (Fin.ofNat 64 n) r (v.setWidth 64)
  | .OUTn_S_NUM | .OUTn_S_DEN => s.writeShadow (Fin.ofNat 64 n) r (v.setWidth 64)
  | .OUTn_SLEW => s.writeOutSlew (Fin.ofNat 64 n) v
  | .OUTn_DELAY | .OUTn_MINPER => s.writeOutEdge (Fin.ofNat 64 n) r v
  | .OUTn_CMD => s.writeOutCmd (Fin.ofNat 64 n) v
  | .OBb_BTSEL => s.writeBtsel (Fin.ofNat 8 n) v
  | .SHk_CMD => s.writeSheafCmd (Fin.ofNat 16 n) v
  | .TODp_CMD => s.writeTodCmd (Fin.ofNat 4 n) v
  | .STAMP_NOW => if v.toNat.testBit 0 then s.stampAll else s
  | .STAMPj_CFG => s.writeStampCfg (Fin.ofNat 16 n) v
  | .YEe_PC => s.yePoke (Fin.ofNat 4 n) (fun g => { g with pc := v.toNat % 4096 })
  | .YEe_PRED => s.yePoke (Fin.ofNat 4 n) (fun g => { g with p := Vector.ofFn (fun (i : Fin 4) => v.toNat.testBit i.val) })
  | .YEe_ENTRY | .YEe_SIGLEN => (s.writeWord r n v).yeUnsign (Fin.ofNat 4 n)
  | .YE_SWEV =>
    let s := if v.toNat.testBit 0 then s.pulse 62 else s
    if v.toNat.testBit 1 then s.pulse 63 else s
  | .LZn_CFG => s.lzCfg (Fin.ofNat 4 n) v
  | .LZn_ACAL => s.lzAcal (Fin.ofNat 4 n) v
  | .LZn_ASYM_UNC => (s.writeWord r n v).showLinkTerm (Fin.ofNat 4 n)
  | .TOK_CTRL => (s.writeWord r n v).tokLoad
  | .TOK_DVFS => s.tokDvfsWrite v
  | .TOK_SQq_CFG => s.tokSqCfg (Fin.ofNat 4 n) v
  | .TOK_SQq_TAIL => s.tokDoorbell (Fin.ofNat 4 n) v
  | .TOK_CQq_CFG => s.tokCqCfg (Fin.ofNat 4 n) v
  | .TOK_CQq_HEAD => s.tokCqHead (Fin.ofNat 4 n) v
  | .GRN_CTRL => s.grnCtrl m v 5
  | .GRN_CAP_CTRL => s.capCtrl m v
  | .GRN_PUB_SEL => s.setGrn { s.grn with pubSel := s.grn.pubSel.set m.id (v.toNat % 64) }
  | .MBn_BIND => s.mbBind (Fin.ofNat 16 n) m.id v
  | .MBn_LOCK => s.mbLockWrite (Fin.ofNat 16 n) m.id
  | .MBn_TX => s.mbTx (Fin.ofNat 16 n) m.id v
  | .MBn_EV => s.mbEvWrite (Fin.ofNat 16 n) m.id v
  | .MBn_CTRL => s.mbCtrlWrite (Fin.ofNat 16 n) m.id v
  | .MBn_TMO => s.writeTmo (Fin.ofNat 16 n) v
  | .MB_KEEPER => s.mbKeeperWrite m.id v
  | .FLT_FIRST => s.writeFirst v
  | .FLT_INJECT => s.writeInject m v
  | .FLT_SWRAISE => s.writeSwraise m v
  | .EVR_HCFG => s.evrCfg v
  | .EVR_COAL => s.writeCoal v
  | .EVR_HHEAD => s.evrHead v
  | .CLK_CTRL => s.writeClkCtrl v
  | .PWR_KTIMER => if m == .keeper then s.writeKtimer v else s
  | .PWR_MGT_DVFS => if m == .keeper then s.mgtPoint (v.toNat % 4) else s
  | .CAL_CTRL => s.writeCalCtrl m v
  | .CAL_APPLY => s.writeCalApply v
  | .SOFT_RESET => s.writeSoftReset m v
  | r => s.writeWord r n v

/-- A pair committed whole (R8). -/
def State.setPair (s : State) (m : Master) (r : Reg) (n : Nat) (v : DWord) : State :=
  match r with
  | .INn_NOM => s.commitInNom (Fin.ofNat 16 n) v
  | .INn_SWPHASE => s.swSample (Fin.ofNat 16 n) v.toInt
  | .MODEL_Y0 | .MODEL_Y1 | .MODEL_Y2 => if m == .keeper then s.writePair r n v else s
  | .PLn_PBO => s.commitPbo (Fin.ofNat 4 n) v
  | .PLn_STEER => s.commitSteer (Fin.ofNat 4 n) v
  | .OUTn_INT => s.writeRatio (Fin.ofNat 64 n) r v
  | .OUTn_S_INT => s.writeShadow (Fin.ofNat 64 n) r v
  | .OUTn_PHASE => s.commitPhase (Fin.ofNat 64 n) v
  | .OUTn_TPER => s.writeTper (Fin.ofNat 64 n) v
  | .SHk_MEMBERS => s.writeMembers (Fin.ofNat 16 n) v
  | .TOK_SQq_BASE => s.tokBase r .TOK_SQq_CFG_EN (Fin.ofNat 4 n) v
  | .TOK_CQq_BASE => s.tokBase r .TOK_CQq_CFG_EN (Fin.ofNat 4 n) v
  | .EVR_HBASE => if s.bit .EVR_HCFG_EN then s else s.writePair r n v
  | .FLT_ACK => s.writeAck m v
  | r => s.writePair r n v

/-- One half of a register whose halves are cleared on their own. -/
def State.setHalf (s : State) (r : Reg) (n i : Nat) (v : Word) : State :=
  match r with
  | .YEe_EVOVF =>
    let e : Fin 4 := Fin.ofNat 4 n
    let w := s.evovf[e]
    let gone := BitVec.ofNat 64 (v.toNat <<< (32 * i)) &&& ~~~(BitVec.ofNat 64 (s.setNow .YEe_EVOVF e))
    { s with evovf := s.evovf.set e (w ^^^ (w &&& gone)) }
  | r => s.writeReg r n (wordMask i) (v.toNat <<< (32 * i))

/-- A word of YEe_Gi written: _HI into the master's holding register, _LO commits the pair (R8, R183). -/
def State.pokeG (s : State) (m : Master) (e : Fin 4) (i : Nat) (v : Word) : State :=
  if i % 2 = 1 then (if s.yeWritable e then s.putHold m v else s.flag .YEe_EV_WERR e)
  else if s.yeWritable e then
    let h := s.takeHold m v
    h.2.yePoke e (fun g => g.setReg (Fin.ofNat 16 (i / 2)) h.1)
  else s.flag .YEe_EV_WERR e

/-- One word of a run. -/
def State.setRun (s : State) (m : Master) (r : Reg) (n i : Nat) (v : Word) : State :=
  match r with
  | .GRN_CAPWIN => s.capWindow m i v
  | .FLT_LVLi => s.writeLvl i v
  | .CAL_IMAGE => s.writeImage m i v
  | .YEe_SIGs =>
    let e : Fin 4 := Fin.ofNat 4 n
    let g := s.engines[e]
    s.setYe e { g with sig := g.sig.set (Fin.ofNat 16 i) v }
  | .YEe_Gi => s.pokeG m (Fin.ofNat 4 n) i v
  | r => s.writeReg r n (wordMask i) (v.toNat <<< (32 * i))

/-- A register some field of which a master may write: a _HI written to it goes to the master's holding register (R8). -/
def Reg.writable (r : Reg) : Bool :=
  r.fields.any (fun f => match f.info.acc with
    | .rw | .rwl | .w1c | .w1s | .wo => true
    | _ => false)

/-- A master writes word `i` of a register, apart from R9. -/
def State.store (s : State) (m : Master) (r : Reg) (n i : Nat) (v : Word) : State :=
  match r.place.shape with
  | .word => s.setWord m r n v
  | .pair =>
    if !r.writable then s
    else if i = 0 then
      let h := s.takeHold m v
      h.2.setPair m r n h.1
    else s.putHold m v
  | .halves => s.setHalf r n i v
  | .run _ => s.setRun m r n i v

/-- A write to a gated island that R330 holds: TOK_SQq_TAIL and LZn_CFG. -/
def State.holdsWrite (s : State) (r : Reg) : Bool :=
  s.boot.supplies && (match r with
    | .TOK_SQq_TAIL => s.gated islTok && !s.heldRst islTok
    | .LZn_CFG => s.gated islLnz && !s.heldRst islLnz
    | _ => false)

/-- A master writes word `i` of a register. -/
def State.access (s : State) (m : Master) (r : Reg) (n i : Nat) (v : Word) : State :=
  if s.reach r then s.store m r n i v
  else if s.holdsWrite r then
    (s.setClk { s.clk with writes := s.clk.writes ++ [(m.id, r.addr n, v)] }).noteWake
      (if r = .LZn_CFG then islLnz else islTok)
  else s

/-- A burst _LO, _HI commits the pair whole and leaves the holding register alone (R8, R386). -/
def State.burst (s : State) (m : Master) (r : Reg) (n : Nat) (lo hi : Word) : State :=
  if s.reach r then s.setPair m r n (joinPair lo hi) else s

/-! ## Measurement status (R27 to R29, R40, R74, R132, R234) -/

/-- A status word: SEQ, STALE, VALID. -/
def measWord (seq : Nat) (stale valid : Bool) (more : Nat) : Word :=
  BitVec.ofNat 32 (seq + stale.toNat * 2 ^ 16 + valid.toNat * 2 ^ 17 + more)

/-- A calibration run is in progress. -/
def State.calRuns (s : State) : Bool := s.bit .CAL_STATE_RUN

/-- A result formed at `at_` is older than `age` ps. -/
def State.older (s : State) (valid : Bool) (at_ age : Nat) : Bool := valid && decide (age < s.now - at_)

/-- INn_MEAS read: the status, with the result's data latched. -/
def State.readInMeas (s : State) (m : Master) (n : Fin 16) : Word × State :=
  let x := s.inResult n
  let ms := s.rd .INn_MAXAGE n
  let age := if ms = 0 then 2 * s.rd .INn_MGATE n else ms
  let w := measWord x.seq (s.calRuns || s.older x.valid x.at_ (age * 1000000000)) x.valid 0
  (w, (s.latchPair m (Reg.addr .INn_MEAS_FREQ n) x.a).latchPair m (Reg.addr .INn_MEAS_PHASE n) x.b)

/-- ATOM_MEAS read. -/
def State.readAtomMeas (s : State) (m : Master) : Word × State :=
  let x := s.atomResult
  let sec := s.rd .ATOM_MAXAGE
  let age := if sec = 0 then 2 * s.atomGate else sec
  let w := measWord x.seq (s.calRuns || s.older x.valid x.at_ (age * psPerS)) x.valid (s.rd .ATOM_MEAS_PRESENT * 2 ^ 18)
  (w, (s.latchPair m (Reg.addr .ATOM_FOFF 0) x.a).latchPair m (Reg.addr .ATOM_PHASE 0) x.b)

/-- The result that PLn_UPD returns: the one before where the latest update lies in this SYS cycle (R28). -/
def State.plResult (s : State) (p : Fin 4) : Result :=
  let x := s.planes[p]
  if s.bit .PLn_UPD_VALID p && sameCycle x.lastUpd s.now then x.before
  else ⟨s.rd .PLn_UPD_SEQ p, s.bit .PLn_UPD_VALID p, x.lastUpd, BitVec.ofInt 64 x.c, BitVec.ofInt 64 x.updErr,
    BitVec.ofInt 64 x.updOffset⟩

/-- PLn_UPD read. STALE: no update for 4 × T_u of the active source. -/
def State.readPlUpd (s : State) (m : Master) (p : Fin 4) : Word × State :=
  let x := s.plResult p
  let tu := s.updPeriod (srcCode (s.rd .PLn_REFSEL_SRC p))
  let stale := s.calRuns || decide (4 * tu < ((s.now - (s.planes[p]).lastUpd : Nat) : Rat))
  let w := measWord x.seq stale x.valid 0
  let s := s.latchPair m (Reg.addr .PLn_FREQ p) x.a
  let s := s.latchPair m (Reg.addr .PLn_PHASE_ERR p) x.b
  (w, s.latchPair m (Reg.addr .PLn_SHADOW_OFFSET p) x.c)

/-- OBb_BTMEAS read. STALE: the selected output is not RUNNING, or a calibration run holds the TDC (R132). -/
def State.readBtMeas (s : State) (m : Master) (b : Fin 8) : Word × State :=
  let x := s.btResult b
  let w := measWord x.seq (s.calRuns || s.run (s.btOut b) ≠ 2) x.valid 0
  (w, (s.latchPair m (Reg.addr .OBb_BTERR b) x.a).latchPut m (Reg.addr .OBb_BTMISS b) (x.b.setWidth 32))

/-- The result that LZn_MEAS returns: the one before where the latest sample lies in this SYS cycle (R28). -/
def State.lzSeen (s : State) (n : Fin 4) : Result :=
  let r := s.lzResult n
  if r.valid && sameCycle r.at_ s.now then (s.links[n]).before else r

/-- LZn_MEAS read. STALE: no sample for 4 ticks, or STATE is CAL (R234). -/
def State.readLzMeas (s : State) (m : Master) (n : Fin 4) : Word × State :=
  let l := s.links[n]
  let x := s.lzSeen n
  let stale := (x.valid && l.measTick + 4 ≤ s.tick) || s.lz n = lzCal
  let teb : Word := match l.peer with
    | some p => p.teb
    | none => 0xFFFFFFFF
  let prov : Word := match l.peer with
    | some p => p.prov
    | none => 0
  let s1 := s.latchPair m (Reg.addr .LZn_OFFSET n) x.a
  (measWord x.seq stale x.valid 0,
    (s1.latchPut m (Reg.addr .LZn_PEER_TEB n) teb).latchPut m (Reg.addr .LZn_PEER_PROV n) prov)

/-! ## Reads -/

/-- A vector of values of `w` bits each, the first lowest. -/
def packed (w : Nat) (l : List Nat) : Nat := l.foldr (fun x acc => acc * 2 ^ w + x) 0

/-- The registers of an engine that its own state holds (R191). -/
def State.yeView (s : State) (f : Field) (e : Fin 4) : Nat :=
  let g := s.engines[e]
  match f with
  | .YEe_STAT_SIGREQ => s.signReq.toNat
  | .YEe_PC => g.pc % 4096
  | .YEe_CYC => g.cyc.toNat
  | .YEe_EVPEND => (s.evpend[e]).toNat
  | .YEe_EVOVF => (s.evovf[e]).toNat
  | .YEe_TMR_RUN => packed 1 (g.timers.toList.map (fun x => x.run.toNat))
  | .YEe_TMR_PEND => packed 1 (g.timers.toList.map (fun x => x.pend.toNat))
  | .YEe_TMR_PERIODIC => packed 1 (g.timers.toList.map (fun x => x.periodic.toNat))
  | .YEe_TMRt_REM => packed 32 ((List.finRange 4).map (s.yeRem e))
  | .YEe_SIGs => packed 32 (g.sig.toList.map BitVec.toNat)
  | .YEe_Gi => packed 64 ((List.finRange 16).map (fun i => (g.reg i).toNat))
  | .YEe_PRED => packed 1 (g.p.toList.map Bool.toNat)
  | _ => 0

/-- The fields of a register that a read computes from other state (`view`), at their places. -/
def State.viewOf (s : State) (f : Field) (n : Nat) : Nat :=
  match f with
  | .INn_QUAL_PRED_XO => (!s.assist).toNat
  | .PLn_STATE_FORCED => s.forced n
  | .PLn_TEB => s.rd .TEBp_TOTAL n
  | .APLLx_STAT_USERS => s.apUsers (Fin.ofNat 2 n)
  | .APLLx_SWAP_OK => s.swapOkMask (Fin.ofNat 2 n)
  | .STAMPj_STAT_COUNT => (s.stamps[Fin.ofNat 16 n]).fifo.length
  | .STAMP_NOW_RECp => (s.stampNow[Fin.ofNat 4 n]).words.foldr (fun w acc => acc * 2 ^ 32 + w.toNat) 0
  | .CAL_STATE_PENDING => s.calWaiting
  | .TODp_STAT_UTC_OFF => ofSigned 16 (s.utcOffset (s.todSec (Fin.ofNat 4 n)))
  | .TODp_STAT_UTCV => s.utc.valid.toNat
  | .TODp_STAT_LEAP_PEND => (s.leapPending (s.todSec (Fin.ofNat 4 n))).1.toNat
  | .TODp_STAT_LEAP_DEL => (s.leapPending (s.todSec (Fin.ofNat 4 n))).2.toNat
  | .GLOBAL_ID_VARIANT => s.isBL.toNat
  | .FLT_LEVEL_GRACE_RUN => s.graceRuns.toNat
  | .FLT_LEVEL_QUIET_RUN => s.faults.quietFrom.isSome.toNat
  | .GRN_STAT_CLAIMED => s.claimed.toNat
  | .GRN_STAT_VGEN_EXH => (decide (s.rd .GRN_VGEN = 255)).toNat
  | .GRN_UIDi => Config.uid.toNat
  | .YE_POLICY_SIGN_REQ => s.signReq.toNat
  | .PWR_KTIMER =>
    match s.ktimer with
    | some k => k
    | none => 0xFFFFFFFF
  | f => s.yeView f (Fin.ofNat 4 n)

/-- A field's access code is `view`, or it is one a rule computes at the read: SIGN_REQ (R187) and KTIMER (R346). -/
def Field.computed (f : Field) : Bool := f.info.acc == .view || f == .YE_POLICY_SIGN_REQ || f == .PWR_KTIMER

/-- What a field shows to a read: computed, sign-extended over its pair, or as stored. -/
def State.fieldShown (s : State) (f : Field) (n : Nat) : Nat :=
  if f.computed then s.viewOf f n else if f.signFills then ofSigned 64 (s.rdI f n) else s.rd f n

/-- The value a register shows: its stored fields and its computed ones; WO fields and latched data read 0. -/
def State.shown (s : State) (r : Reg) (n : Nat) : Nat :=
  r.fields.foldl (fun acc f => match f.info.acc with
    | .wo | .latched => acc
    | _ => acc + s.fieldShown f n * 2 ^ f.info.lo) 0

/-- What an RC field holds after the read that clears it (R6): what hardware counted in the same cycle (R7). -/
def State.cleared (s : State) (f : Field) (n : Nat) : Nat :=
  if f = .YEe_DETLOSS_MAXOVER then (s.noted f n).foldr max 0 else f.reset n + s.countNow f n

/-- The RC fields of word `i` cleared by the read (R6). -/
def State.clearRc (s : State) (r : Reg) (n i : Nat) : State :=
  r.fields.foldl (fun s f => if f.info.acc == .rc && f.info.lo / 32 == i then s.wr f n (s.cleared f n) else s) s

/-- The value of a latched register before a master has latched it (R27, R160). -/
def Reg.unlatched (r : Reg) (n i : Nat) : Word :=
  match r.fields with
  | f :: _ => wordAt (f.reset n) i
  | [] => 0

/-- A register whose data a read returns from the master's latch. -/
def Reg.latched (r : Reg) : Bool := r.fields.any (fun f => f.info.acc == .latched)

/-- A master reads word `i` of a register, apart from R9: the word, and the state after the read. -/
def State.load (s : State) (m : Master) (r : Reg) (n i : Nat) : Word × State :=
  match r with
  | .INn_MEAS => s.readInMeas m (Fin.ofNat 16 n)
  | .ATOM_MEAS => s.readAtomMeas m
  | .PLn_UPD => s.readPlUpd m (Fin.ofNat 4 n)
  | .OBb_BTMEAS => s.readBtMeas m (Fin.ofNat 8 n)
  | .LZn_MEAS => s.readLzMeas m (Fin.ofNat 4 n)
  | .TODp_REC =>
    if i = 0 then
      let t := s.readTodRec m (Fin.ofNat 4 n)
      ((t.mst m).data, t)
    else (s.latchGet m (r.addr n + 4 * i) 0, s)
  | .TEBp_TOTAL =>
    let t := s.readTebTotal m (Fin.ofNat 4 n)
    ((t.mst m).data, t)
  | .STAMPj_REC =>
    if i = 0 then
      let t := s.stampPop m (Fin.ofNat 16 n)
      ((t.mst m).data, t)
    else (s.latchGet m (r.addr n + 4 * i) 0, s)
  | .EVR_ENTRY => if i = 0 then s.evrPop m else (s.latchGet m (r.addr n + 4 * i) 0, s)
  | .EVR_STAT => (s.evrStat, s)
  | .TOK_STAT => (s.tokStat, s)
  | .GRN_IDPUBi => (s.idPub i, s)
  | .GRN_PUB_SEL => (BitVec.ofNat 32 (s.grn.pubSel[m.id]), s)
  | .GRN_PUB_DATAi => (s.pubData m i, s)
  | .GRN_CAPWIN => (Store.get s.grn.win i 0, s)
  | .MBn_LOCK => s.mbLockRead (Fin.ofNat 16 n) m.id
  | .MBn_RX => s.mbRx (Fin.ofNat 16 n) m.id
  | .MBn_STAT => (s.mbStat (Fin.ofNat 16 n) m.id, s)
  | .MBn_EV => (s.mbEv (Fin.ofNat 16 n) m.id, s)
  | .MBn_CTRL => (s.mbCtrl (Fin.ofNat 16 n) m.id, s)
  | .FLT_LVLi => (s.lvlWord i, s)
  | .CAL_IMAGE => (Store.get s.cal.window i 0, s)
  | .YEe_Gi =>
    let v := wordAt (s.shown .YEe_Gi n) i
    let a := Reg.addr .YEe_Gi n + 4 * i
    if i % 2 = 0 then (v, s.latchPut m (a + 4) (wordAt (s.shown .YEe_Gi n) (i + 1))) else (s.latchGet m a v, s)
  | r =>
    if r.latched then (s.latchGet m (r.addr n + 4 * i) (r.unlatched n i), s)
    else
      let v := s.shown r n
      match r.place.shape with
      | .pair =>
        if i = 0 then (wordAt v 0, s.latchPut m (r.addr n + 4) (wordAt v 1))
        else (s.latchGet m (r.addr n + 4) (wordAt v 1), s)
      | .halves =>
        if i = 0 then (wordAt v 0, s.latchPut m (r.addr n + 4) (wordAt v 1))
        else (s.latchGet m (r.addr n + 4) (wordAt v 1), s)
      | _ => (wordAt v i, s.clearRc r n i)

/-- A master reads word `i` of a register: zero, with no effect, where it does not answer (R9). -/
def State.fetch (s : State) (m : Master) (r : Reg) (n i : Nat) : Word × State :=
  if s.reach r then s.load m r n i else (0, s)

/-- A read by a master, which keeps the word returned. -/
def State.readReg (s : State) (m : Master) (r : Reg) (n i : Nat) : State :=
  let x := s.fetch m r n i
  x.2.ret m x.1

/-! ## The address map (R387) -/

/-- Words of a register. -/
def Shape.words : Shape → Nat
  | .word => 1
  | .pair | .halves => 2
  | .run k => k

/-- Instance and word of a register at which an address lies. -/
def Reg.find (r : Reg) (a : Nat) : Option (Nat × Nat) :=
  match r with
  | .FLT_LVL => none
  | .APLLx_GAIN => if 0x60000 ≤ a && a < 0x61000 && 0x100 ≤ a % 0x800 && a % 0x800 < 0x140 then
      some ((a - 0x60000) / 0x800 * 16 + (a % 0x800 - 0x100) / 4, 0) else none
  | .APLLx_TAP => if 0x60000 ≤ a && a < 0x61000 && 0x400 ≤ a % 0x800 then
      some ((a - 0x60000) / 0x800 * 256 + (a % 0x800 - 0x400) / 4, 0) else none
  | r =>
    let p := r.place
    if a < p.base then none
    else
      let d := a - p.base
      let n := if p.stride = 0 then 0 else d / p.stride
      let o := d - n * p.stride
      if n < p.count && o / 4 < p.shape.words then some (n, o / 4) else none

/-- The registers. -/
def Reg.all : List Reg := (List.range 299).map Reg.ofNat

/-- The register, instance and word at an address of the map; none where no chapter assigns the address. -/
def locate (a : Nat) : Option (Reg × Nat × Nat) := Reg.all.findSome? (fun r => (r.find a).map (fun x => (r, x)))

/-! ## The MSI-X table and PBA (R376, R382, R387) -/

/-- HIF answers. -/
def State.hifReach (s : State) : Bool := s.boot.supplies && !s.heldRst islHif

/-- A message may leave: the link is up, MSI-X is enabled and not masked as a whole, and the function may issue requests. -/
def State.msixOpen (s : State) : Bool := s.hif.up && s.hif.msixOn && !s.hif.msixMask && s.hif.busMaster && !s.hif.d3

/-- Bit `v` of the PBA. -/
def State.pbaBit (s : State) (v : Fin 64) : Bool := s.hif.pba.toNat.testBit v

/-- The message of a vector sent, or its PBA bit set while it is masked (R382). -/
def State.sendMsix (s : State) (v : Fin 64) : State :=
  let t := s.hif.table[v]
  if s.msixOpen && !t.mask then s.send (.msix v t.addr t.data)
  else { s with hif := { s.hif with pba := s.hif.pba ||| BitVec.ofNat 64 (2 ^ v.val) } }

/-- The messages that wait in the PBA and are no longer masked are sent. -/
def State.flushMsix (s : State) : State :=
  s.forAll 64 (fun s v =>
    if s.pbaBit v && s.msixOpen && !(s.hif.table[v]).mask then
      let s : State := { s with hif := { s.hif with pba := s.hif.pba ^^^ BitVec.ofNat 64 (2 ^ v.val) } }
      s.sendMsix v
    else s)

/-- A word of the table. -/
def MsixEntry.word (x : MsixEntry) (k : Nat) : Word :=
  if k = 0 then x.addr.setWidth 32
  else if k = 1 then (x.addr >>> 32).setWidth 32
  else if k = 2 then x.data
  else if x.mask then 1 else 0

/-- A word of the table written. -/
def MsixEntry.put (x : MsixEntry) (k : Nat) (v : Word) : MsixEntry :=
  if k = 0 then { x with addr := joinPair v ((x.addr >>> 32).setWidth 32) }
  else if k = 1 then { x with addr := joinPair (x.addr.setWidth 32) v }
  else if k = 2 then { x with data := v }
  else { x with mask := v.toNat.testBit 0 }

/-- The address lies in the MSI-X table, or in the PBA. -/
def inTable (a : Nat) : Bool := 0x2000 ≤ a && a < 0x2400
def inPba (a : Nat) : Bool := 0x3000 ≤ a && a < 0x3008

/-- The table written. -/
def State.writeTable (s : State) (a : Nat) (v : Word) : State :=
  let k : Fin 64 := Fin.ofNat 64 ((a - 0x2000) / 16)
  ({ s with hif := { s.hif with table := s.hif.table.set k ((s.hif.table[k]).put ((a - 0x2000) / 4 % 4) v) } } : State).flushMsix

/-! ## Accesses by address -/

/-- The word at an address as a master reads it, and the state after the read; an address that no chapter assigns reads
zero. -/
def State.devRead (s : State) (m : Master) (a : Nat) : Word × State :=
  if inTable a then
    (if s.hifReach then (s.hif.table[Fin.ofNat 64 ((a - 0x2000) / 16)]).word ((a - 0x2000) / 4 % 4) else 0, s)
  else if inPba a then (if s.hifReach then wordAt s.hif.pba.toNat ((a - 0x3000) / 4) else 0, s)
  else
    match locate a with
    | some (r, n, i) => s.fetch m r n i
    | none => (0, s)

/-- A word written by a master at an address; an address that no chapter assigns ignores it. -/
def State.devWrite (s : State) (m : Master) (a : Nat) (v : Word) : State :=
  if inTable a then (if s.hifReach then s.writeTable a v else s)
  else
    match locate a with
    | some (r, n, i) => s.access m r n i v
    | none => s

end Sys2Proof.Machine
end

