-- ==== Sys2Proof/Machine/YeDecode.lean ====
section
/-!
DEFINITION. The instruction words of the Yacor engines (R192 to R211): their decoder, which answers `none` for an undefined
encoding, and their encoder. A bit that a format neither names nor shows as 0 is not tested.
-/
namespace Sys2Proof.Machine

/-- A Yacor instruction. Registers, predicates, planes and immediates are the fields of R193; `n` of POST and FETCH is one
less than the number of words. -/
inductive YeInstr where
  | add (rd ra rb : Fin 16) | sub (rd ra rb : Fin 16) | and_ (rd ra rb : Fin 16) | or_ (rd ra rb : Fin 16)
  | xor_ (rd ra rb : Fin 16) | shl (rd ra rb : Fin 16) | shr (rd ra rb : Fin 16) | sar (rd ra rb : Fin 16)
  | mul (rd ra rb : Fin 16) | mulh (rd ra rb : Fin 16)
  | sat (rd ra : Fin 16) (w : Fin 64)
  | addi (rd ra : Fin 16) (imm : Fin 262144) | andi (rd ra : Fin 16) (imm : Fin 262144)
  | ori (rd ra : Fin 16) (imm : Fin 262144) | xori (rd ra : Fin 16) (imm : Fin 262144)
  | shli (rd ra : Fin 16) (n : Fin 64) | shri (rd ra : Fin 16) (n : Fin 64) | sari (rd ra : Fin 16) (n : Fin 64)
  | li (rd : Fin 16) (imm : Fin 4194304) | lis (rd : Fin 16) (imm : Fin 65536)
  | cmp (pd : Fin 4) (cc : Cond) (ra rb : Fin 16) | cmpi (pd : Fin 4) (cc : Cond) (ra : Fin 16) (imm : Fin 131072)
  | plog (pd pa pb : Fin 4) (fn : PredOp)
  | jmp (tgt : Fin 4096) | bt (ps : Fin 4) (tgt : Fin 4096) | bf (ps : Fin 4) (tgt : Fin 4096)
  | jal (rd : Fin 16) (tgt : Fin 4096) | jr (ra : Fin 16)
  | ld (rd ra : Fin 16) (ofs : Fin 262144) | st (rs ra : Fin 16) (ofs : Fin 262144)
  | rds (rd : Fin 16) (sel : Fin 8)
  | rdd (rd : Fin 16) (a : DevAddr) | rddp (rd : Fin 16) (a : DevAddr)
  | wrd (rs : Fin 16) (a : DevAddr) | wrdp (rs : Fin 16) (a : DevAddr)
  | waitev (rd ra tm : Fin 16) | evpoll (rd ra : Fin 16)
  | tset (i : Fin 4) (ra : Fin 16) | tsetp (i : Fin 4) (ra : Fin 16) | tstop (i : Fin 4)
  | measStat (pd : Fin 4) (rd n : Fin 16) | measFreq (rd n : Fin 16) | measRaw (rd n : Fin 16)
  | measPhase (rd ra n : Fin 16)
  | steer (p : Fin 4) (ra rb : Fin 16) | phstep (n : Fin 64) (ra : Fin 16)
  | hop (rd k : Fin 16) (p : Fin 4) (ra rb : Fin 16) (op : HopOp) (sync asap : Bool)
  | selref (p : Fin 4) (src : SelSrc)
  | specBegin (rd : Fin 16) (p : Fin 4) (pref : Fin 32) | specCommit (rd : Fin 16) (p : Fin 4) (force : Bool)
  | specAbandon (rd : Fin 16) (p : Fin 4)
  | post (rd c ra n : Fin 16) | fetch (rd c ra n : Fin 16)
  | tnow (rd : Fin 16) (p : Fin 4) (ra : Fin 16)
  deriving DecidableEq, Repr

/-! ## Fields -/

/-- Bits `lo` and up of a word, `w` of them. -/
def fld (v lo w : Nat) : Nat := v / 2 ^ lo % 2 ^ w

/-- Register numbers of the formats R, I, M, D, E and X. -/
def fRd (v : Nat) : Fin 16 := Fin.ofNat 16 (fld v 22 4)
def fRa (v : Nat) : Fin 16 := Fin.ofNat 16 (fld v 18 4)
def fRb (v : Nat) : Fin 16 := Fin.ofNat 16 (fld v 14 4)
def fImm18 (v : Nat) : Fin 262144 := Fin.ofNat 262144 (fld v 0 18)
def fPl (v : Nat) : Fin 4 := Fin.ofNat 4 (fld v 12 2)

/-- CC of R196; 6 and 7 are undefined. -/
def condOf : Nat → Option Cond
  | 0 => some .eq
  | 1 => some .ne
  | 2 => some .lt
  | 3 => some .ge
  | 4 => some .ltu
  | 5 => some .geu
  | _ => none

def condCode : Cond → Nat
  | .eq => 0
  | .ne => 1
  | .lt => 2
  | .ge => 3
  | .ltu => 4
  | .geu => 5

/-- FN of R197. -/
def predOpOf : Nat → PredOp
  | 0 => .and_
  | 1 => .or_
  | 2 => .xor_
  | _ => .nor

def predOpCode : PredOp → Nat
  | .and_ => 0
  | .or_ => 1
  | .xor_ => 2
  | .nor => 3

/-- OP of R207: 1 to 4. -/
def hopOpOf : Nat → Option HopOp
  | 1 => some .hop
  | 2 => some .phase
  | 3 => some .hopPhase
  | 4 => some .cancel
  | _ => none

def hopOpCode : HopOp → Nat
  | .hop => 1
  | .phase => 2
  | .hopPhase => 3
  | .cancel => 4

/-- An instruction whose zero fields are zero, or none. -/
def zeroed (z : Nat) (i : YeInstr) : Option YeInstr := if z = 0 then some i else none

/-! ## The formats (R193) -/

/-- Format R: bits 13 to 0 are 0. -/
def fmtR (v : Nat) (f : Fin 16 → Fin 16 → Fin 16 → YeInstr) : Option YeInstr :=
  zeroed (fld v 0 14) (f (fRd v) (fRa v) (fRb v))

/-- Format I. -/
def fmtI (v : Nat) (f : Fin 16 → Fin 16 → Fin 262144 → YeInstr) : Option YeInstr := some (f (fRd v) (fRa v) (fImm18 v))

/-- Format I with a number of six bits; IMM [17:6] is 0 (R195). -/
def fmtN (v : Nat) (f : Fin 16 → Fin 16 → Fin 64 → YeInstr) : Option YeInstr :=
  zeroed (fld v 6 12) (f (fRd v) (fRa v) (Fin.ofNat 64 (fld v 0 6)))

/-- Format B; bits 23 to 22 and 17 to 12 are 0. -/
def fmtB (v z : Nat) (i : YeInstr) : Option YeInstr := zeroed (fld v 22 2 + fld v 12 6 + z) i

/-- Format D: the two address forms. -/
def fmtD (v : Nat) (f : Fin 16 → DevAddr → YeInstr) : Option YeInstr :=
  if fld v 21 1 = 0 then zeroed (fld v 20 1) (f (fRd v) (.abs (Fin.ofNat 1048576 (fld v 0 20))))
  else some (f (fRd v) (.idx (Fin.ofNat 16 (fld v 17 4)) (Fin.ofNat 131072 (fld v 0 17))))

/-- Format E: bits 15 to 4 are 0. -/
def fmtE (v : Nat) (i : YeInstr) : Option YeInstr := zeroed (fld v 4 12) i

/-- MEAS (R204): SEL in bits 11 to 10, PD in bits 9 to 8; PL and bits 7 to 0 are 0, and PD except for STAT. -/
def decMeas (v : Nat) : Option YeInstr :=
  let z := fld v 12 2 + fld v 0 8
  let pd := fld v 8 2
  match fld v 10 2 with
  | 0 => zeroed z (.measStat (Fin.ofNat 4 pd) (fRd v) (fRb v))
  | 1 => zeroed (z + pd) (.measFreq (fRd v) (fRb v))
  | 2 => zeroed (z + pd) (.measRaw (fRd v) (fRb v))
  | _ => zeroed (z + pd) (.measPhase (fRd v) (fRa v) (fRb v))

/-- HOP (R207). -/
def decHop (v : Nat) : Option YeInstr :=
  match hopOpOf (fld v 5 3) with
  | some op =>
    zeroed (fld v 0 3) (.hop (fRd v) (Fin.ofNat 16 (fld v 8 4)) (fPl v) (fRa v) (fRb v) op (fld v 4 1 == 1) (fld v 3 1 == 1))
  | none => none

/-- SELREF (R208). -/
def decSelref (v : Nat) : Option YeInstr :=
  if fld v 11 1 = 1 then zeroed (fld v 10 1 + fld v 18 4) (.selref (fPl v) .auto)
  else if fld v 10 1 = 1 then some (.selref (fPl v) (.reg (fRa v)))
  else some (.selref (fPl v) (.code (Fin.ofNat 32 (fld v 0 5))))

/-- SPEC (R209). -/
def decSpec (v : Nat) : Option YeInstr :=
  let force := fld v 9 1
  match fld v 10 2 with
  | 0 => zeroed force (.specBegin (fRd v) (fPl v) (Fin.ofNat 32 (fld v 0 5)))
  | 1 => some (.specCommit (fRd v) (fPl v) (force == 1))
  | 2 => zeroed force (.specAbandon (fRd v) (fPl v))
  | _ => none

/-- POST and FETCH (R210): RB holds the channel; PL and bits 11 to 4 are 0. -/
def decBox (v : Nat) (f : Fin 16 → Fin 16 → Fin 16 → Fin 16 → YeInstr) : Option YeInstr :=
  zeroed (fld v 12 2 + fld v 4 8) (f (fRd v) (fRb v) (fRa v) (Fin.ofNat 16 (fld v 0 4)))

/-- The decoder (R192 to R194). -/
def yeDecodeNat (v : Nat) : Option YeInstr :=
  match fld v 26 6 with
  | 0x01 => fmtR v .add
  | 0x02 => fmtR v .sub
  | 0x03 => fmtR v .and_
  | 0x04 => fmtR v .or_
  | 0x05 => fmtR v .xor_
  | 0x06 => fmtR v .shl
  | 0x07 => fmtR v .shr
  | 0x08 => fmtR v .sar
  | 0x09 => fmtR v .mul
  | 0x0A => fmtR v .mulh
  | 0x0B => fmtN v .sat
  | 0x0C => fmtI v .addi
  | 0x0D => fmtI v .andi
  | 0x0E => fmtI v .ori
  | 0x0F => fmtI v .xori
  | 0x10 => fmtN v .shli
  | 0x11 => fmtN v .shri
  | 0x12 => fmtN v .sari
  | 0x13 => some (.li (fRd v) (Fin.ofNat 4194304 (fld v 0 22)))
  | 0x14 => zeroed (fld v 16 6) (.lis (fRd v) (Fin.ofNat 65536 (fld v 0 16)))
  | 0x15 =>
    match condOf (fld v 21 3) with
    | some cc => zeroed (fld v 0 13)
        (.cmp (Fin.ofNat 4 (fld v 24 2)) cc (Fin.ofNat 16 (fld v 17 4)) (Fin.ofNat 16 (fld v 13 4)))
    | none => none
  | 0x16 =>
    match condOf (fld v 21 3) with
    | some cc => some (.cmpi (Fin.ofNat 4 (fld v 24 2)) cc (Fin.ofNat 16 (fld v 17 4)) (Fin.ofNat 131072 (fld v 0 17)))
    | none => none
  | 0x17 => zeroed (fld v 0 18) (.plog (Fin.ofNat 4 (fld v 24 2)) (Fin.ofNat 4 (fld v 22 2)) (Fin.ofNat 4 (fld v 20 2))
      (predOpOf (fld v 18 2)))
  | 0x18 => fmtB v (fld v 24 2 + fld v 18 4) (.jmp (Fin.ofNat 4096 (fld v 0 12)))
  | 0x19 => fmtB v 0 (.bt (Fin.ofNat 4 (fld v 24 2)) (Fin.ofNat 4096 (fld v 0 12)))
  | 0x1A => fmtB v 0 (.bf (Fin.ofNat 4 (fld v 24 2)) (Fin.ofNat 4096 (fld v 0 12)))
  | 0x1B => fmtB v (fld v 24 2) (.jal (fRa v) (Fin.ofNat 4096 (fld v 0 12)))
  | 0x1C => fmtB v (fld v 24 2 + fld v 0 12) (.jr (fRa v))
  | 0x1D => fmtI v .ld
  | 0x1E => fmtI v .st
  | 0x1F => if fld v 0 4 < 8 then fmtE v (.rds (fRd v) (Fin.ofNat 8 (fld v 0 4))) else none
  | 0x20 => fmtD v .rdd
  | 0x21 => fmtD v .rddp
  | 0x22 => fmtD v .wrd
  | 0x23 => fmtD v .wrdp
  | 0x24 => fmtE v (.waitev (fRd v) (fRa v) (Fin.ofNat 16 (fld v 0 4)))
  | 0x25 => fmtE v (.evpoll (fRd v) (fRa v))
  | 0x26 => fmtE v (.tset (Fin.ofNat 4 (fld v 16 2)) (fRa v))
  | 0x27 => fmtE v (.tsetp (Fin.ofNat 4 (fld v 16 2)) (fRa v))
  | 0x28 => fmtE v (.tstop (Fin.ofNat 4 (fld v 16 2)))
  | 0x29 => decMeas v
  | 0x2A => zeroed (fld v 0 12) (.steer (fPl v) (fRa v) (fRb v))
  | 0x2B => zeroed (fld v 6 12 + fld v 22 4) (.phstep (Fin.ofNat 64 (fld v 0 6)) (fRa v))
  | 0x2C => decHop v
  | 0x2D => decSelref v
  | 0x2E => decSpec v
  | 0x2F => decBox v .post
  | 0x30 => decBox v .fetch
  | 0x31 => zeroed (fld v 14 4 + fld v 0 12) (.tnow (fRd v) (fPl v) (fRa v))
  | _ => none

/-- The decoder on a word; `none` is an undefined encoding. -/
def yeDecode (w : Word) : Option YeInstr := yeDecodeNat w.toNat

/-! ## The encoder -/

/-- OPC at bit 26, RD at 22, RA at 18, RB at 14, the rest below. -/
def encX (opc rd ra rb low : Nat) : Nat := opc * 2 ^ 26 + rd * 2 ^ 22 + ra * 2 ^ 18 + rb * 2 ^ 14 + low

/-- The address of format D. -/
def encAddr : DevAddr → Nat
  | .abs w => w.val
  | .idx ra o => 2 ^ 21 + ra.val * 2 ^ 17 + o.val

/-- The word of an instruction, as a number. -/
def yeEncodeNat : YeInstr → Nat
  | .add rd ra rb => encX 0x01 rd ra rb 0
  | .sub rd ra rb => encX 0x02 rd ra rb 0
  | .and_ rd ra rb => encX 0x03 rd ra rb 0
  | .or_ rd ra rb => encX 0x04 rd ra rb 0
  | .xor_ rd ra rb => encX 0x05 rd ra rb 0
  | .shl rd ra rb => encX 0x06 rd ra rb 0
  | .shr rd ra rb => encX 0x07 rd ra rb 0
  | .sar rd ra rb => encX 0x08 rd ra rb 0
  | .mul rd ra rb => encX 0x09 rd ra rb 0
  | .mulh rd ra rb => encX 0x0A rd ra rb 0
  | .sat rd ra w => encX 0x0B rd ra 0 w
  | .addi rd ra i => encX 0x0C rd ra 0 i
  | .andi rd ra i => encX 0x0D rd ra 0 i
  | .ori rd ra i => encX 0x0E rd ra 0 i
  | .xori rd ra i => encX 0x0F rd ra 0 i
  | .shli rd ra n => encX 0x10 rd ra 0 n
  | .shri rd ra n => encX 0x11 rd ra 0 n
  | .sari rd ra n => encX 0x12 rd ra 0 n
  | .li rd i => encX 0x13 rd 0 0 i
  | .lis rd i => encX 0x14 rd 0 0 i
  | .cmp pd cc ra rb => 0x15 * 2 ^ 26 + pd * 2 ^ 24 + condCode cc * 2 ^ 21 + ra * 2 ^ 17 + rb * 2 ^ 13
  | .cmpi pd cc ra i => 0x16 * 2 ^ 26 + pd * 2 ^ 24 + condCode cc * 2 ^ 21 + ra * 2 ^ 17 + i
  | .plog pd pa pb fn => 0x17 * 2 ^ 26 + pd * 2 ^ 24 + pa * 2 ^ 22 + pb * 2 ^ 20 + predOpCode fn * 2 ^ 18
  | .jmp t => 0x18 * 2 ^ 26 + t
  | .bt ps t => 0x19 * 2 ^ 26 + ps * 2 ^ 24 + t
  | .bf ps t => 0x1A * 2 ^ 26 + ps * 2 ^ 24 + t
  | .jal rd t => 0x1B * 2 ^ 26 + rd * 2 ^ 18 + t
  | .jr ra => 0x1C * 2 ^ 26 + ra * 2 ^ 18
  | .ld rd ra o => encX 0x1D rd ra 0 o
  | .st rs ra o => encX 0x1E rs ra 0 o
  | .rds rd sel => encX 0x1F rd 0 0 sel
  | .rdd rd a => encX 0x20 rd 0 0 (encAddr a)
  | .rddp rd a => encX 0x21 rd 0 0 (encAddr a)
  | .wrd rs a => encX 0x22 rs 0 0 (encAddr a)
  | .wrdp rs a => encX 0x23 rs 0 0 (encAddr a)
  | .waitev rd ra tm => encX 0x24 rd ra 0 tm
  | .evpoll rd ra => encX 0x25 rd ra 0 0
  | .tset i ra => encX 0x26 0 ra 0 (i * 2 ^ 16)
  | .tsetp i ra => encX 0x27 0 ra 0 (i * 2 ^ 16)
  | .tstop i => encX 0x28 0 0 0 (i * 2 ^ 16)
  | .measStat pd rd n => encX 0x29 rd 0 n (pd * 2 ^ 8)
  | .measFreq rd n => encX 0x29 rd 0 n (1 * 2 ^ 10)
  | .measRaw rd n => encX 0x29 rd 0 n (2 * 2 ^ 10)
  | .measPhase rd ra n => encX 0x29 rd ra n (3 * 2 ^ 10)
  | .steer p ra rb => encX 0x2A 0 ra rb (p * 2 ^ 12)
  | .phstep n ra => encX 0x2B 0 ra 0 n
  | .hop rd k p ra rb op sync asap =>
    encX 0x2C rd ra rb (p * 2 ^ 12 + k * 2 ^ 8 + hopOpCode op * 2 ^ 5 + sync.toNat * 2 ^ 4 + asap.toNat * 2 ^ 3)
  | .selref p (.code c) => encX 0x2D 0 0 0 (p * 2 ^ 12 + c)
  | .selref p (.reg ra) => encX 0x2D 0 ra 0 (p * 2 ^ 12 + 2 ^ 10)
  | .selref p .auto => encX 0x2D 0 0 0 (p * 2 ^ 12 + 2 ^ 11)
  | .specBegin rd p pref => encX 0x2E rd 0 0 (p * 2 ^ 12 + pref)
  | .specCommit rd p force => encX 0x2E rd 0 0 (p * 2 ^ 12 + 1 * 2 ^ 10 + force.toNat * 2 ^ 9)
  | .specAbandon rd p => encX 0x2E rd 0 0 (p * 2 ^ 12 + 2 * 2 ^ 10)
  | .post rd c ra n => encX 0x2F rd ra c n
  | .fetch rd c ra n => encX 0x30 rd ra c n
  | .tnow rd p ra => encX 0x31 rd ra 0 (p * 2 ^ 12)

/-- The encoder. -/
def yeEncode (i : YeInstr) : Word := BitVec.ofNat 32 (yeEncodeNat i)

end Sys2Proof.Machine
end

