-- ==== Sys2Proof/Machine/YeExec.lean ====
section
/-!
DEFINITION. The execution of Yacor instructions (R161 to R185, R192 to R211): trap checks, device accesses in their slots,
effects, and the boundary after an instruction.
-/
namespace Sys2Proof.Machine

/-- The engine as a master. -/
def asMaster (e : Fin 4) : Master := .ye e

/-! ## Device accesses (R167 to R170) -/

/-- The engine is an end of a mailbox channel. -/
def State.boundTo (s : State) (e : Fin 4) (n : Fin 16) : Bool :=
  s.mbEndCode n 0 == yeMaster e || s.mbEndCode n 1 == yeMaster e

/-- R167 permits the access to a byte address. -/
def State.window (s : State) (e : Fin 4) (a : Nat) (write : Bool) : Bool :=
  if a < 0x30000 then !write
  else if a < 0x40000 then !write || (a < 0x30400 && s.boundTo e (Fin.ofNat 16 ((a - 0x30000) / 0x40)))
  else if a < 0xA0000 then true
  else if a < 0xB0000 then !write
  else if 0x100F00 ≤ a && a < 0x100F08 then !write || a < 0x100F04
  else 0x340000 ≤ a && a < 0x350000

/-- Length of the access slot of an address in YAC cycles (R169, R200). -/
def slotCycles (a : Nat) : Nat := if 0x340000 ≤ a then 32 else 24

/-- YAC cycles counted in CYC. -/
def State.cycles (s : State) (e : Fin 4) (n : Nat) : State :=
  s.setYe e { s.engines[e] with cyc := s.engines[e].cyc + BitVec.ofNat 64 n }

/-- The `k`-th access, in a slot of `slot` cycles, is not answered within 4096 cycles. -/
def slotLost (x : SlotEvent) (k slot : Nat) : Bool :=
  match x with
  | .timeout k' => k' == k
  | .late k' c => k' == k && 4096 < slot + c
  | .none => false
  | .both a b => slotLost a k slot || slotLost b k slot

/-- By how many cycles the `k`-th access overruns its slot. -/
def slotOver (x : SlotEvent) (k slot : Nat) : Nat :=
  match x with
  | .none => 0
  | .timeout k' => if k' = k then 4096 - slot else 0
  | .late k' c => if k' = k then min c (4096 - slot) else 0
  | .both a b => max (slotOver a k slot) (slotOver b k slot)

/-- An access's slot ends: CYC, LATE, and for an overrun its flags and counts (R169). -/
def State.slotEnd (s : State) (e : Fin 4) (x : SlotEvent) (k slot : Nat) : State :=
  let excess := slotOver x k slot
  let s := (s.cycles e (slot + excess)).wrB .YEe_STAT_LATE e (decide (0 < excess))
  let s := if slotLost x k slot then s.flag .YEe_EV_DEV_TMO e else s
  if excess = 0 then s
  else
    let s := (s.flag .YEe_EV_LATE e).tally .YEe_DETLOSS_COUNT e
    (s.wr .YEe_DETLOSS_MAXOVER e (max (s.rd .YEe_DETLOSS_MAXOVER e) (min excess 0xFFFF))).noteSet .YEe_DETLOSS_MAXOVER e
      (min excess 0xFFFF)

/-- read() of R193, as access number `k` of the instruction. -/
def State.yeRead (s : State) (e : Fin 4) (x : SlotEvent) (k a : Nat) : Word × State :=
  let r := if slotLost x k (slotCycles a) then (0, s) else s.devRead (asMaster e) a
  (r.1, r.2.slotEnd e x k (slotCycles a))

/-- write() of R193. -/
def State.yeWrite (s : State) (e : Fin 4) (x : SlotEvent) (k a : Nat) (v : Word) : State :=
  (if slotLost x k (slotCycles a) then s else s.devWrite (asMaster e) a v).slotEnd e x k (slotCycles a)

/-- The byte address of format D (R199). -/
def Engine.devAddr (g : Engine) : DevAddr → Nat
  | .abs w => w.val * 4
  | .idx ra o => (g.reg ra + BitVec.ofNat 64 (o.val * 4)).toNat

/-! ## Values -/

/-- The halves of a register. -/
def lo32 (v : DWord) : Word := v.setWidth 32
def hi32 (v : DWord) : Word := (v >>> 32).setWidth 32

/-- Zero extension to 64 bits. -/
def zx (v : Word) : DWord := v.setWidth 64

/-- Sign extension of an `n`-bit immediate. -/
def sxImm (n v : Nat) : DWord := BitVec.ofInt 64 (toSigned n v)

/-- SAT with `w` bits (R195). -/
def satW (w : Nat) (v : DWord) : DWord := BitVec.ofInt 64 (satSigned w v.toInt)

/-- The condition of a compare (R196). -/
def condHolds (c : Cond) (a b : DWord) : Bool :=
  match c with
  | .eq => a == b
  | .ne => a != b
  | .lt => a.slt b
  | .ge => !a.slt b
  | .ltu => a.ult b
  | .geu => !a.ult b

/-- PLOG (R197). -/
def predEval (f : PredOp) (a b : Bool) : Bool :=
  match f with
  | .and_ => a && b
  | .or_ => a || b
  | .xor_ => xor a b
  | .nor => !(a || b)

/-- MULH: the upper half of the signed product. -/
def mulhi (a b : DWord) : DWord := BitVec.ofInt 64 (a.toInt * b.toInt / (2 : Int) ^ 64)

/-- MEAS.PHASE: the expectation `x`, moved by the wrapped difference of the sample's time (R204, R22). -/
def resolveWrap (v x : DWord) : DWord :=
  if !v.getLsbD 63 then x
  else
    let d : Int := ((v.toNat % 2 ^ 40 : Nat) : Int) - ((x.toNat % 2 ^ 40 : Nat) : Int)
    let d := d % (2 : Int) ^ 40
    let d := if (2 : Int) ^ 39 ≤ d then d - (2 : Int) ^ 40 else d
    x + BitVec.ofInt 64 d

/-- DMEM address of LD and ST (R198), and of the timing instructions. -/
def Engine.memAddr (g : Engine) (ra : Fin 16) (ofs : Nat) : Nat := (g.reg ra + BitVec.ofNat 64 ofs).toNat

/-- Word `i` of a message in DMEM at `q` (R210). -/
def Engine.half (g : Engine) (q i : Nat) : Word :=
  let d := g.dmemAt (q + i / 2)
  if i % 2 = 0 then lo32 d else hi32 d

/-- Word `i` of a message written into DMEM at `q`; the other half stays. -/
def Engine.putHalf (g : Engine) (q i : Nat) (v : Word) : Engine :=
  let d := g.dmemAt (q + i / 2)
  g.dmemPut (q + i / 2) (if i % 2 = 0 then joinPair v (hi32 d) else joinPair (lo32 d) v)

/-! ## Trap checks (R178) -/

/-- The first trap of an access to the byte addresses `as`. -/
def State.devTrap (s : State) (e : Fin 4) (as : List Nat) (write : Bool) : Option Nat :=
  if as.any (fun a => a % 4 ≠ 0) then some trapDevAlign
  else if as.all (fun a => s.window e a write) then none
  else some trapDevPerm

/-- The trap that an instruction meets, the cause higher in the table of R178 first. `ecc`: the DMEM word it reads is
uncorrectable. -/
def State.trapOf (s : State) (e : Fin 4) (i : YeInstr) (ecc : Bool) : Option Nat :=
  let g := s.engines[e]
  match i with
  | .jr ra => if 4095 < (g.reg ra).toNat then some trapPcEnd else none
  | .ld _ ra o => if 1024 ≤ g.memAddr ra o then some trapDmemRange else if ecc then some trapEccDmem else none
  | .st _ ra o => if 1024 ≤ g.memAddr ra o then some trapDmemRange else none
  | .rdd _ a => s.devTrap e [g.devAddr a] false
  | .rddp _ a => s.devTrap e [g.devAddr a, (g.devAddr a + 4) % 2 ^ 64] false
  | .wrd _ a => s.devTrap e [g.devAddr a] true
  | .wrdp _ a => s.devTrap e [(g.devAddr a + 4) % 2 ^ 64, g.devAddr a] true
  | .post _ c ra n =>
    if 1024 ≤ (g.reg ra).toNat + (n.val + 2) / 2 - 1 then some trapDmemRange
    else if ecc then some trapEccDmem
    else if s.boundTo e c then none
    else some trapMbBind
  | .fetch _ c ra n =>
    if 1024 ≤ (g.reg ra).toNat + (n.val + 2) / 2 - 1 then some trapDmemRange
    else if s.boundTo e c then none
    else some trapMbBind
  | .tnow _ _ ra => if 1024 ≤ (g.reg ra).toNat + 2 then some trapDmemRange else none
  | _ => none

/-! ## Effects -/

/-- A general register written. -/
def State.yeSet (s : State) (e : Fin 4) (rd : Fin 16) (v : DWord) : State := s.setYe e ((s.engines[e]).setReg rd v)

/-- The PC moved. -/
def State.yeTo (s : State) (e : Fin 4) (pc : Nat) : State := s.setYe e { s.engines[e] with pc := pc }

/-- The PC on to the next word. -/
def State.yeNext (s : State) (e : Fin 4) : State := s.yeTo e (s.engines[e].pc + 1)

/-- A register result: RD, `n` cycles, the next word. -/
def State.yeResult (s : State) (e : Fin 4) (rd : Fin 16) (v : DWord) (n : Nat) : State := ((s.yeSet e rd v).cycles e n).yeNext e

/-- A predicate result. -/
def State.yePred (s : State) (e pd : Fin 4) (b : Bool) : State :=
  ((s.setYe e ((s.engines[e]).setPred pd b)).cycles e 1).yeNext e

/-- The release of a WAITEV (R173): the pending lines, the predicates of the timers, the watchdog's new start. -/
def State.yeRelease (s : State) (e : Fin 4) (w : Waiting) : State :=
  let got := s.evpend[e] &&& w.mask
  let s := s.clearLines e got
  let g := (List.finRange 4).foldl (fun (g : Engine) (t : Fin 4) =>
    if w.tm.val.testBit t then
      let tm := g.timers[t]
      { g.setPred t tm.pend with timers := g.timers.set t (tm.take s.now) }
    else g) s.engines[e]
  let s := s.setYe e { g with wait := none, wdFrom := s.now }
  ((s.yeSet e w.rd got).yeGo e stRunning).yeNext e

/-- The condition of a WAITEV holds (R173). -/
def State.yeReady (s : State) (e : Fin 4) (w : Waiting) : Bool :=
  (s.evpend[e] &&& w.mask) != 0 || (List.finRange 4).any (fun (t : Fin 4) => w.tm.val.testBit t && (s.engines[e].timers[t]).pend)

/-- A pair read through the engine's window: accesses `k` and `k + 1`. -/
def State.yeReadPair (s : State) (e : Fin 4) (x : SlotEvent) (k a : Nat) : DWord × State :=
  let l := s.yeRead e x k a
  let h := l.2.yeRead e x (k + 1) ((a + 4) % 2 ^ 64)
  (joinPair l.1 h.1, h.2)

/-- A pair written, _HI then _LO. -/
def State.yeWritePair (s : State) (e : Fin 4) (x : SlotEvent) (k a : Nat) (v : DWord) : State :=
  (s.yeWrite e x k ((a + 4) % 2 ^ 64) (hi32 v)).yeWrite e x (k + 1) a (lo32 v)

/-- The status word of R176: RESULT, whether R175 barred the instruction, whether a region was open. -/
def State.specWord (s : State) (p : Fin 4) (barred found : Bool) : DWord :=
  BitVec.ofNat 64 (s.rd .PLn_COMMIT_RESULT p + barred.toNat * 16 + found.toNat * 32)

/-- The region of a plane belongs to another master than the engine (R175). -/
def State.foreign (s : State) (e p : Fin 4) : Bool :=
  match s.planes[p].region with
  | some r => r.owner ≠ some (yeMaster e)
  | none => false

/-- A SPEC instruction: one write of PLn_COMMIT, which leaves PREF alone unless it opens a region, and the status word read in the same slot (R176, R209). -/
def State.spec (s : State) (e : Fin 4) (x : SlotEvent) (rd : Fin 16) (p : Fin 4) (v : Nat) (begin_ : Bool) : State :=
  let barred := s.foreign e p
  let found := begin_ && s.bit .PLn_COMMIT_BUSY p
  let a := Reg.PLn_COMMIT.addr p
  let opens := begin_ && !barred && !found
  let v := if opens then v else v % 16 + s.rd .PLn_COMMIT_PREF p * 16
  let t := s.yeWrite e x 0 a (BitVec.ofNat 32 v)
  (t.yeSet e rd (if slotLost x 0 (slotCycles a) then 0 else t.specWord p barred found)).yeNext e

/-- The words of a POST written to MBn_TX, the first of them access number `k`. -/
def State.postWords (s : State) (e : Fin 4) (x : SlotEvent) (a : Nat) : Nat → List Word → State
  | _, [] => s
  | k, w :: r => (s.yeWrite e x k a w).postWords e x a (k + 1) r

/-- `k` words read from MBn_RX, the first of them access number `j`. -/
def State.fetchWords (s : State) (e : Fin 4) (x : SlotEvent) (a : Nat) : Nat → Nat → List Word × State
  | _, 0 => ([], s)
  | j, k + 1 =>
    let r := s.yeRead e x j a
    let t := r.2.fetchWords e x a (j + 1) k
    (r.1 :: t.1, t.2)

/-- Slots that an instruction idles through. -/
def State.idleSlots (s : State) (e : Fin 4) (n : Nat) : State := s.cycles e (24 * n)

/-- POST (R210). -/
def State.yePost (s : State) (e : Fin 4) (x : SlotEvent) (rd c ra n : Fin 16) : State :=
  let g := s.engines[e]
  let q := (g.reg ra).toNat
  let k := n.val + 1
  let st := s.yeRead e x 0 (Reg.MBn_STAT.addr c)
  if st.1.toNat % 32 < k then ((st.2.idleSlots e k).yeSet e rd 0).yeNext e
  else
    let s := st.2.postWords e x (Reg.MBn_TX.addr c) 1 ((List.range k).map (g.half q))
    (s.yeSet e rd (BitVec.ofNat 64 k)).yeNext e

/-- FETCH (R210). -/
def State.yeFetch (s : State) (e : Fin 4) (x : SlotEvent) (rd c ra n : Fin 16) : State :=
  let q := ((s.engines[e]).reg ra).toNat
  let st := s.yeRead e x 0 (Reg.MBn_STAT.addr c)
  let k := min (n.val + 1) (st.1.toNat / 32 % 32)
  let r := st.2.fetchWords e x (Reg.MBn_RX.addr c) 1 k
  let s := r.2.idleSlots e (n.val + 1 - k)
  let g := (r.1.zipIdx).foldl (fun (g : Engine) w => g.putHalf q w.2 w.1) s.engines[e]
  (((if 0 < k then (s.setYe e g).yeTouched e q else s.setYe e g)).yeSet e rd (BitVec.ofNat 64 k)).yeNext e

/-- TNOW (R211). -/
def State.yeTnow (s : State) (e : Fin 4) (x : SlotEvent) (rd : Fin 16) (p : Fin 4) (ra : Fin 16) : State :=
  let q := ((s.engines[e]).reg ra).toNat
  let a := Reg.TODp_REC.addr p
  let step := fun (acc : List Word × State) (i : Nat) =>
    let r := acc.2.yeRead e x i (a + 4 * i)
    (acc.1 ++ [r.1], r.2)
  let r := (List.range 6).foldl step ([], s)
  let w := fun (i : Nat) => r.1.getD i 0
  let s := r.2
  let g := (List.range 3).foldl (fun (g : Engine) i => g.dmemPut (q + i) (joinPair (w (2 * i)) (w (2 * i + 1)))) s.engines[e]
  (((s.setYe e g).yeTouched e q).yeSet e rd (zx (w 3))).yeNext e

/-- HOP (R207). -/
def State.yeHop (s : State) (e : Fin 4) (x : SlotEvent) (rd k : Fin 16) (p : Fin 4) (ra rb : Fin 16) (op : HopOp)
    (sync asap : Bool) : State :=
  let g := s.engines[e]
  let at_ := g.reg ra
  let ns : Word := if (g.reg rb).toNat < 10 ^ 9 then lo32 (g.reg rb) else 0x3FFFFFFF
  let s :=
    if ra = 0 then s
    else
      let s := s.yeWritePair e x 0 (Reg.SHk_AT_S.addr k) ((at_ &&& 0xFFFFFFFFFFFF))
      s.yeWrite e x 2 (Reg.SHk_AT_NS.addr k) ns
  let b := if ra = 0 then 0 else 3
  let cmd := hopOpCode op + sync.toNat * 8 + asap.toNat * 16 + p.val * 32
  let s := s.yeWrite e x b (Reg.SHk_CMD.addr k) (BitVec.ofNat 32 cmd)
  let r := s.yeRead e x (b + 1) (Reg.SHk_STAT.addr k)
  (r.2.yeSet e rd (zx r.1)).yeNext e

/-- RDS (R203). -/
def State.yeRds (s : State) (e : Fin 4) (sel : Fin 8) : DWord :=
  let g := s.engines[e]
  match sel with
  | 0 => g.cyc
  | 1 => s.evpend[e]
  | 2 => s.evovf[e]
  | 3 => BitVec.ofNat 64 ((List.finRange 4).foldl (fun acc (t : Fin 4) => acc + (g.p[t]).toNat * 2 ^ t.val) 0 + e.val * 256)
  | k => BitVec.ofNat 64 (s.yeRem e (Fin.ofNat 4 (k.val - 4)))

/-- SAT to 48 bits, as STEER and PHSTEP apply it. -/
def sat48 (v : DWord) : DWord := satW 48 v

/-- The word that SELREF writes (R208). -/
def Engine.selWord (g : Engine) : SelSrc → Nat
  | .code c => c.val
  | .reg ra => (g.reg ra).toNat % 32
  | .auto => 31 + 32

/-- What an instruction that meets no trap does. -/
def State.yeEffect (s : State) (e : Fin 4) (i : YeInstr) (x : SlotEvent) : State :=
  let g := s.engines[e]
  let r := g.reg
  match i with
  | .add rd ra rb => s.yeResult e rd (r ra + r rb) 1
  | .sub rd ra rb => s.yeResult e rd (r ra - r rb) 1
  | .and_ rd ra rb => s.yeResult e rd (r ra &&& r rb) 1
  | .or_ rd ra rb => s.yeResult e rd (r ra ||| r rb) 1
  | .xor_ rd ra rb => s.yeResult e rd (r ra ^^^ r rb) 1
  | .shl rd ra rb => s.yeResult e rd (r ra <<< ((r rb).toNat % 64)) 1
  | .shr rd ra rb => s.yeResult e rd (r ra >>> ((r rb).toNat % 64)) 1
  | .sar rd ra rb => s.yeResult e rd ((r ra).sshiftRight ((r rb).toNat % 64)) 1
  | .mul rd ra rb => s.yeResult e rd (r ra * r rb) 3
  | .mulh rd ra rb => s.yeResult e rd (mulhi (r ra) (r rb)) 3
  | .sat rd ra w => s.yeResult e rd (satW (if w = 0 then 64 else w.val) (r ra)) 1
  | .addi rd ra v => s.yeResult e rd (r ra + sxImm 18 v) 1
  | .andi rd ra v => s.yeResult e rd (r ra &&& BitVec.ofNat 64 v) 1
  | .ori rd ra v => s.yeResult e rd (r ra ||| BitVec.ofNat 64 v) 1
  | .xori rd ra v => s.yeResult e rd (r ra ^^^ BitVec.ofNat 64 v) 1
  | .shli rd ra n => s.yeResult e rd (r ra <<< n.val) 1
  | .shri rd ra n => s.yeResult e rd (r ra >>> n.val) 1
  | .sari rd ra n => s.yeResult e rd ((r ra).sshiftRight n.val) 1
  | .li rd v => s.yeResult e rd (sxImm 22 v) 1
  | .lis rd v => s.yeResult e rd ((r rd <<< 16) ||| BitVec.ofNat 64 v) 1
  | .cmp pd cc ra rb => s.yePred e pd (condHolds cc (r ra) (r rb))
  | .cmpi pd cc ra v => s.yePred e pd (condHolds cc (r ra) (sxImm 17 v))
  | .plog pd pa pb fn => s.yePred e pd (predEval fn g.p[pa] g.p[pb])
  | .jmp t => (s.cycles e 1).yeTo e t
  | .bt ps t => (s.cycles e 1).yeTo e (if g.p[ps] then t.val else g.pc + 1)
  | .bf ps t => (s.cycles e 1).yeTo e (if g.p[ps] then g.pc + 1 else t.val)
  | .jal rd t => ((s.yeSet e rd (BitVec.ofNat 64 (g.pc + 1))).cycles e 1).yeTo e t
  | .jr ra => (s.cycles e 1).yeTo e (r ra).toNat
  | .ld rd ra o => s.yeResult e rd (g.dmemAt (g.memAddr ra o)) 1
  | .st rs ra o => ((s.yeDmemWrite e (g.memAddr ra o) (r rs)).cycles e 1).yeNext e
  | .rds rd sel => s.yeResult e rd (s.yeRds e sel) 1
  | .rdd rd a =>
    let v := s.yeRead e x 0 (g.devAddr a)
    (v.2.yeSet e rd (zx v.1)).yeNext e
  | .rddp rd a =>
    let v := s.yeReadPair e x 0 (g.devAddr a)
    (v.2.yeSet e rd v.1).yeNext e
  | .wrd rs a => (s.yeWrite e x 0 (g.devAddr a) (lo32 (r rs))).yeNext e
  | .wrdp rs a => (s.yeWritePair e x 0 (g.devAddr a) (r rs)).yeNext e
  | .waitev rd ra tm =>
    let w : Waiting := ⟨rd, r ra, tm⟩
    if r ra = 0 ∧ tm = 0 then s.yeResult e rd 0 1
    else if s.yeReady e w then (s.cycles e 1).yeRelease e w
    else ((s.cycles e 1).setYe e { (s.cycles e 1).engines[e] with wait := some w }).yeGo e stWaiting
  | .evpoll rd ra =>
    let got := s.evpend[e] &&& r ra
    (s.clearLines e got).yeResult e rd got 1
  | .tset t ra => ((s.setYe e (s.yeTset g t (r ra) false)).cycles e 1).yeNext e
  | .tsetp t ra => ((s.setYe e (s.yeTset g t (r ra) true)).cycles e 1).yeNext e
  | .tstop t => ((s.setYe e (g.tstop t s.now)).cycles e 1).yeNext e
  | .measStat pd rd n =>
    let v := s.yeRead e x 0 (Reg.INn_MEAS.addr n)
    let good := v.1.getLsbD 17 && !v.1.getLsbD 16
    let s := v.2.yeSet e rd (zx v.1)
    (s.setYe e ((s.engines[e]).setPred pd good)).yeNext e
  | .measFreq rd n =>
    let v := s.yeReadPair e x 0 (Reg.INn_MEAS_FREQ.addr n)
    (v.2.yeSet e rd v.1).yeNext e
  | .measRaw rd n =>
    let v := s.yeReadPair e x 0 (Reg.INn_MEAS_PHASE.addr n)
    (v.2.yeSet e rd v.1).yeNext e
  | .measPhase rd ra n =>
    let v := s.yeReadPair e x 0 (Reg.INn_MEAS_PHASE.addr n)
    (v.2.yeSet e rd (resolveWrap v.1 (r ra))).yeNext e
  | .steer p ra rb =>
    let s := s.yeWrite e x 0 (Reg.PLn_STEER_BOUND.addr p) (lo32 (r rb))
    (s.yeWritePair e x 1 (Reg.PLn_STEER.addr p) (sat48 (r ra))).yeNext e
  | .phstep n ra => (s.yeWritePair e x 0 (Reg.OUTn_PHASE.addr n) (sat48 (r ra))).yeNext e
  | .hop rd k p ra rb op sync asap => s.yeHop e x rd k p ra rb op sync asap
  | .selref p src => (s.yeWrite e x 0 (Reg.PLn_SHADOW_CAND.addr p) (BitVec.ofNat 32 (g.selWord src))).yeNext e
  | .specBegin rd p pref => s.spec e x rd p (1 + pref.val * 16) true
  | .specCommit rd p force => s.spec e x rd p (2 + force.toNat * 8) false
  | .specAbandon rd p => s.spec e x rd p 4 false
  | .post rd c ra n => s.yePost e x rd c ra n
  | .fetch rd c ra n => s.yeFetch e x rd c ra n
  | .tnow rd p ra => s.yeTnow e x rd p ra

/-! ## Instruction boundaries (R179, R181) -/

/-- After an instruction: a STEP halts, a breakpoint at the new PC halts. -/
def State.boundary (s : State) (e : Fin 4) : State :=
  if s.yeState e ≠ stRunning then s
  else if (s.engines[e]).stepping then s.yeHalt e haltStep
  else if s.yeBreak e then s.yeHalt e haltBkpt
  else s

/-- A trap with the fault source that reports it: an uncorrectable IMEM or DMEM word raises FSRC25 beside FSRC23 (R163). -/
def State.trapWith (s : State) (e : Fin 4) (cause : Nat) : State :=
  let s := if cause = trapEccImem || cause = trapEccDmem then s.raise 25 { inst := e } else s
  s.yeTrap e cause

/-- The instruction reads or writes DMEM words. -/
def YeInstr.usesDmem : YeInstr → Bool
  | .ld _ _ _ | .st _ _ _ | .post _ _ _ _ | .fetch _ _ _ _ | .tnow _ _ _ => true
  | _ => false

/-- An instruction whose words decode as `i` issues: its trap, or its effect and the boundary after it. -/
def State.issue (s : State) (e : Fin 4) (i : YeInstr) (x : SlotEvent) (ecc : Bool) : State :=
  match s.trapOf e i ecc with
  | some c => s.trapWith e c
  | none => (if i.usesDmem then s.engineFirst e (fun s => s.yeEffect e i x) else s.yeEffect e i x).boundary e

/-- The engine can issue: it is RUNNING, and YAC is neither gated nor held in reset. -/
def State.yeLive (s : State) (e : Fin 4) : Bool :=
  s.yeState e == stRunning && s.boot.supplies && !s.gated islYac && !s.heldRst islYac

/-- The instruction at PC; none past word 4095 and for an undefined encoding. -/
def State.atPc (s : State) (e : Fin 4) : Option YeInstr :=
  let g := s.engines[e]
  if g.pc < 4096 then yeDecode (g.imemAt g.pc) else none

/-- An enabled breakpoint at the PC halts the engine before the instruction issues, unless it is being stepped (R181). -/
def State.breaks (s : State) (e : Fin 4) : Bool := s.yeLive e && !(s.engines[e]).stepping && s.yeBreak e

/-- The engine runs the instruction `i`, which stands at its PC. -/
def State.yeInstr (s : State) (e : Fin 4) (i : YeInstr) (x : SlotEvent) (ecc : Bool) : State :=
  if s.breaks e then s.yeHalt e haltBkpt
  else if s.yeLive e && s.atPc e == some i then s.issue e i x ecc
  else s

/-- A word that cannot be executed stands at the PC. -/
def State.noWord (s : State) (e : Fin 4) : State :=
  s.yeTrap e (if (s.engines[e]).pc < 4096 then trapIllegal else trapPcEnd)

/-- The engine runs whatever stands at its PC, with what a row says of one of its device accesses and of uncorrectable
errors (R163). -/
def State.yeAny (s : State) (e : Fin 4) (x : SlotEvent) (ecc : EccAt) : State :=
  if s.breaks e then s.yeHalt e haltBkpt
  else if !s.yeLive e then s
  else if ecc = .imem && (s.engines[e]).pc < 4096 then s.trapWith e trapEccImem
  else
    match s.atPc e with
    | some i => s.issue e i x (ecc == .dmem)
    | none => s.noWord e

/-- Slots that an instruction occupies (R194), and so the accesses that it makes at most. -/
def YeInstr.slots : YeInstr → Nat
  | .rdd _ _ | .wrd _ _ | .measStat _ _ _ | .selref _ _ | .specBegin _ _ _ | .specCommit _ _ _ | .specAbandon _ _ => 1
  | .rddp _ _ | .wrdp _ _ | .measFreq _ _ | .measRaw _ _ | .measPhase _ _ _ | .phstep _ _ => 2
  | .steer _ _ _ => 3
  | .hop _ _ _ ra _ _ _ _ => if ra = 0 then 2 else 5
  | .post _ _ _ n | .fetch _ _ _ n => n.val + 2
  | .tnow _ _ _ => 6
  | _ => 0

/-- A device instruction at PC whose access `k` overruns its slot or is never answered, as `x` says, with what befalls its
other accesses (R169). -/
def State.yeOverrun (s : State) (e : Fin 4) (k : SlotAt) (x : SlotEvent) : State :=
  match s.atPc e with
  | some i => if k.k < i.slots then s.yeAny e (.both x k.more) .none else s
  | none => s

/-- A word that cannot be executed is fetched: an uncorrectable IMEM word, an undefined encoding, or a PC past word 4095
(R163, R178, R192). -/
def State.undefined (s : State) (e : Fin 4) (ecc : Bool) : State :=
  if s.breaks e then s.yeHalt e haltBkpt
  else if !s.yeLive e then s
  else
    let pc := (s.engines[e]).pc
    if ecc && pc < 4096 then s.trapWith e trapEccImem
    else
      match s.atPc e with
      | some _ => s
      | none => s.noWord e

/-- A waiting WAITEV releases after `idle` cycles of waiting (R173). -/
def State.waitRelease (s : State) (e : Fin 4) (idle : Nat) : State :=
  if s.yeState e ≠ stWaiting || s.gated islYac || s.heldRst islYac then s
  else
    match (s.engines[e]).wait with
    | some w => if s.yeReady e w then ((s.cycles e idle).yeRelease e w).boundary e else s
    | none => s

/-- The watchdog (R179): its count has reached YEe_WDOG at an instruction boundary; a trap of the instruction there takes
precedence. -/
def State.watchdog (s : State) (e : Fin 4) : State :=
  let us := s.rd .YEe_WDOG e
  if us = 0 || !s.yeLive e || s.now < (s.engines[e]).wdFrom + us * 1000000 then s
  else
    match s.atPc e with
    | none => s.noWord e
    | some i =>
      match s.trapOf e i false with
      | some c => s.yeTrap e c
      | none => s.yeTrap e trapWdog

/-- STEP (R181, R187): one instruction from HALTED or TRAPPED, or from RESET where START would not be refused, with what befalls
its accesses (R169) and its words (R163). -/
def State.yeStep (s : State) (e : Fin 4) (x : SlotEvent) (ecc : EccAt) : State :=
  let st := s.yeState e
  let go := fun (s : State) =>
    let s := (s.setYe e { s.engines[e] with stepping := true, wait := none, wdFrom := s.now, restartAt := none }).yeGo e stRunning
    s.yeAny e x ecc
  if st = stReset then
    if s.yeMayStart e then go (s.yeTo e (s.rd .YEe_ENTRY e)) else s.flag .YEe_EV_START_REJ e
  else if st = stHalted || st = stTrapped then
    let d := s.fresh
    go (d.2.cycles e (Config.idleCycles d.1))
  else s

end Sys2Proof.Machine
end

