-- ==== Sys2Proof/Machine/Master.lean ====
section
/-!
DEFINITION. Accesses of the masters to the whole map (R164, R182, R386, R387): the engines' control register and memories
beside the registers of Machine/Bus.lean.
-/
namespace Sys2Proof.Machine

/-! ## YEe_CTRL (R181, R182, R187) -/

/-- A write of YEe_CTRL: NOSLEEP, then RESET over HALT over STEP over START, then VERIFY from RESET or HALTED. `x` and `ecc`:
what the instruction that it steps meets. -/
def State.yeCtrl (s : State) (e : Fin 4) (v : Word) (x : SlotEvent) (ecc : EccAt) : State :=
  let b := fun (i : Nat) => v.toNat.testBit i
  let s := s.wrB .YEe_CTRL_NOSLEEP e (b 5)
  let s :=
    if b 3 then s.yeReset e
    else if b 1 then s.yeHaltCmd e
    else if b 2 then s.yeStep e x ecc
    else if b 0 then
      let d := s.fresh
      d.2.yeStart e (Config.idleCycles d.1)
    else s
  if b 4 && (s.yeState e == stReset || s.yeState e == stHalted) then s.yeVerify e else s

/-! ## The engines' memories (R164) -/

/-- Where an address lies in an engine's memories: the engine, whether it is DMEM, and the word of 32 bits. -/
def yeMem (a : Nat) : Option (Fin 4 × Bool × Nat) :=
  if a < 0x100000 || 0x200000 ≤ a then none
  else
    let e : Fin 4 := Fin.ofNat 4 ((a - 0x100000) / 0x40000)
    let o := (a - 0x100000) % 0x40000
    if 0x10000 ≤ o && o < 0x14000 then some (e, false, (o - 0x10000) / 4)
    else if 0x20000 ≤ o && o < 0x22000 then some (e, true, (o - 0x20000) / 4)
    else none

/-- YAC answers (R9, R377). -/
def State.yacReach (s : State) : Bool := s.reach .YEe_CTRL

/-- A DMEM half read: _LO latches _HI (R8, R164). -/
def State.dmemRead (s : State) (m : Master) (e : Fin 4) (i a : Nat) : Word × State :=
  let d := (s.engines[e]).dmemAt (i / 2)
  if i % 2 = 0 then (lo32 d, s.latchPut m (a + 4) (hi32 d)) else (s.latchGet m a (hi32 d), s)

/-- A DMEM half written: _HI into the master's holding register, _LO commits the pair (R8, R164). -/
def State.dmemStore (s : State) (m : Master) (e : Fin 4) (i : Nat) (v : Word) : State :=
  if i % 2 = 1 then s.putHold m v
  else
    let h := s.takeHold m v
    h.2.yeMasterPut e (i / 2) h.1

/-! ## Accesses by address -/

/-- The part has the master: JTAG debug does not exist on the CL-6416-BL (R375). -/
def State.hasMaster (s : State) (m : Master) : Bool := m != .jtag || !s.isBL

/-- A word read by a master at an address of the map. -/
def State.busRead (s : State) (m : Master) (a : Nat) : Word × State :=
  if !s.hasMaster m then (0, s)
  else
    match yeMem a with
    | some (e, d, i) =>
      if !s.yacReach || !sysMaster m then (0, s)
      else if d then s.dmemRead m e i (a / 4 * 4)
      else ((s.engines[e]).imemAt i, s)
    | none => s.devRead m a

/-- A word written by a master at an address of the map. -/
def State.busWrite (s : State) (m : Master) (a : Nat) (v : Word) : State :=
  if !s.hasMaster m then s
  else
    match yeMem a with
    | some (e, d, i) =>
      if !s.yacReach || !sysMaster m then s
      else if d then s.dmemStore m e i v
      else s.yeImemWrite e i v
    | none =>
      match locate a with
      | some (.YEe_CTRL, n, _) => if s.yacReach then s.yeCtrl (Fin.ofNat 4 n) v .none .none else s
      | _ => s.devWrite m a v

/-- A write of YEe_CTRL whose STEP may meet an overrun or an uncorrectable error. -/
def State.ctrlWrite (s : State) (m : Master) (e : Fin 4) (v : Word) (x : SlotEvent) (ecc : EccAt) : State :=
  if s.hasMaster m && s.yacReach then s.yeCtrl e v x ecc else s

/-- The address is that of a _LO register whose _HI lies four bytes above it (R8). -/
def isPairLo (a : Nat) : Bool :=
  match yeMem a with
  | some (_, d, i) => d && i % 2 == 0
  | none =>
    match locate a with
    | some (.YEe_Gi, _, i) => i % 2 == 0
    | some (r, _, i) => r.place.shape == .pair && i == 0 && r.writable
    | none => false

/-- The burst form: _LO and then its _HI in one request or frame commit whole and leave the holding register alone (R8,
R386). -/
def State.busBurst (s : State) (m : Master) (a : Nat) (lo hi : Word) : State :=
  if !s.hasMaster m then s
  else
    match yeMem a with
    | some (e, d, i) =>
      if d && s.yacReach && sysMaster m then s.yeMasterPut e (i / 2) (joinPair lo hi) else s
    | none =>
      match locate a with
      | some (.YEe_Gi, n, i) =>
        if s.yacReach then s.yePoke (Fin.ofNat 4 n) (fun g => g.setReg (Fin.ofNat 16 (i / 2)) (joinPair lo hi)) else s
      | some (r, n, _) => s.burst m r n lo hi
      | none => s

/-- A read of a master, which keeps the word returned. -/
def State.readAt (s : State) (m : Master) (a : Nat) : State :=
  let x := s.busRead m a
  x.2.ret m x.1

/-- The words of one request or frame written in ascending order from an address, each pair met as _LO, _HI whole (R378,
R386). -/
def State.writeRun (s : State) (m : Master) (a : Nat) : List Word → State
  | [] => s
  | [v] => s.busWrite m a v
  | v :: w :: l =>
    if isPairLo a then (s.busBurst m a v w).writeRun m (a + 8) l else (s.busWrite m a v).writeRun m (a + 4) (w :: l)

/-- The words of one request read in ascending order from an address, and the state after them. -/
def State.readRun (s : State) (m : Master) (a : Nat) : Nat → List Word × State
  | 0 => ([], s)
  | k + 1 =>
    let x := s.busRead m a
    let t := (x.2.ret m x.1).readRun m (a + 4) k
    (x.1 :: t.1, t.2)

/-- A command register of a named register written: master 11 is absent on the CL-6416-BL. -/
def State.regWrite (s : State) (m : Master) (r : Reg) (n : Nat) (v : Word) : State :=
  if s.hasMaster m then s.access m r n 0 v else s

/-- A named register read. -/
def State.regRead (s : State) (m : Master) (r : Reg) (n i : Nat) : State :=
  if s.hasMaster m then s.readReg m r n i else s

end Sys2Proof.Machine
end

