-- ==== Sys2Proof/Machine/Hif.lean ====
section
/-!
DEFINITION. The host interface (R376 to R386): BAR0 requests, the SPI port, MSI-X, configuration space.
-/
namespace Sys2Proof.Machine

/-! ## Writes that the SPI port holds (R384, R385) -/

/-- The held writes changed. -/
def State.setHeld (s : State) (l : List (Nat × List Word)) : State := { s with hif := { s.hif with spiHeld := l } }

/-- Words held. -/
def State.heldWords (s : State) : Nat := s.hif.spiHeld.foldl (fun k u => k + u.2.length) 0

/-- The oldest `k` held writes performed. -/
def State.spiPerform (s : State) : Nat → State
  | 0 => s
  | k + 1 =>
    match s.hif.spiHeld with
    | [] => s
    | u :: r => ((s.setHeld r).writeRun .spi u.1 u.2).spiPerform k

/-- What every command but an SPI frame begins with: the stamps whose instant has come are taken (R139), and the writes that
the SPI port still holds have been performed. -/
def State.enter (s : State) (t : Nat) : State :=
  let s := (s.begin t).stampsDue
  s.spiPerform s.hif.spiHeld.length

/-- FERR. -/
def State.setFerr (s : State) (b : Bool) : State := { s with hif := { s.hif with ferr := b } }

/-- An error of a frame: FERR, and FSRC38 with capture (R385, R309). -/
def State.spiErr (s : State) (access : Fin 4) (a : Nat) : State :=
  (s.setFerr true).raiseReact 38 { cap := some ⟨2, access, BitVec.ofNat 64 a⟩ }

/-- The highest address of the map (R385). -/
def lastWord : Nat := 0x3FFFFC

/-- The last held write of this frame takes the _HI word that follows its _LO. -/
def joinHeld (l : List (Nat × List Word)) (v : Word) : List (Nat × List Word) :=
  match l with
  | [] => []
  | [(a, ws)] => [(a, ws ++ [v])]
  | u :: r => u :: joinHeld r v

/-- The data words of a WRITE frame from address `a`, each with the number of held writes performed before it arrives.
`lo`: the word before was a _LO whose _HI lies at `a`, and it waits for the end of this one. -/
def State.spiTake (s : State) (a : Nat) (lo : Bool) : List (Word × Nat) → State
  | [] => s
  | (v, k) :: l =>
    let s := s.spiPerform (min k (s.hif.spiHeld.length - lo.toNat))
    if lastWord < a then s.spiErr 1 a
    else if 16 ≤ s.heldWords then (s.spiErr 1 a).spiTake (a + 4) false l
    else if lo then (s.setHeld (joinHeld s.hif.spiHeld v)).spiTake (a + 4) false l
    else (s.setHeld (s.hif.spiHeld ++ [(a, [v])])).spiTake (a + 4) (isPairLo a) l

/-- A frame with another command byte than READ and STATUS (R384, R385); `cut`: SPI_CS_N rises within the word after
`words`. -/
def State.spiWrite (s : State) (cmd : Byte) (addr : Word) (words : List (Word × Nat)) (cut : Bool) : State :=
  if !s.boot.supplies || cmd = 0x0B || cmd = 0x05 then s
  else if cmd ≠ 0x02 then
    let d := s.fresh
    d.2.spiErr (Config.badFrame d.1).1 (Config.badFrame d.1).2
  else if addr.toNat % 4 ≠ 0 then s.spiErr 1 addr.toNat
  else
    let s := s.spiTake addr.toNat false words
    if cut then s.spiErr 1 (addr.toNat + 4 * words.length) else s

/-- A READ frame of `n` words (R384, R385). -/
def State.spiRead (s : State) (addr : Word) (n : Nat) (ending : SpiEnd) : State :=
  if !s.boot.supplies then s
  else
    let s := s.spiPerform s.hif.spiHeld.length
    let a := addr.toNat
    if a % 4 ≠ 0 then s.spiErr 0 a
    else
      let k := min n ((lastWord + 4 - a) / 4)
      let r := s.readRun .spi a k
      let s := r.2.send (.spi r.1)
      if k < n then s.spiErr 0 (a + 4 * k)
      else match ending with
        | .whole => s
        | .stalled => s.setFerr true
        | .cut => s.spiErr 0 (a + 4 * n)

/-- INT_N is asserted (R382). -/
def State.intN (s : State) : Bool := s.rd .INT_STAT &&& s.rd .INT_SPI_EN != 0

/-- A STATUS frame, by which `done` held writes have been performed. -/
def State.spiStatus (s : State) (done : Nat) : State :=
  if !s.boot.supplies then s
  else
    let s := s.spiPerform (min done s.hif.spiHeld.length)
    let b : Nat := (!s.hif.spiHeld.isEmpty).toNat + s.hif.ferr.toNat * 2 + s.intN.toNat * 4
    (s.send (.spiStatus (BitVec.ofNat 8 b))).setFerr false

/-! ## PCIe (R376 to R380) -/

/-- The link serves requests. -/
def State.pcieServes (s : State) : Bool := s.hif.up && s.hifReach

/-- The link trains (R377). -/
def State.linkUp (s : State) : State := if s.hifReach then { s with hif := { s.hif with up := true } } else s

/-- An unsupported request of the host (R378). -/
def State.pcieBad (s : State) (access : Fin 4) (a : Nat) : State :=
  s.raiseReact 36 { cap := some ⟨1, access, BitVec.ofNat 64 a⟩ }

/-- A memory read of `n` DW at an offset in BAR0. -/
def State.pcieRead (s : State) (a n : Nat) (lock : Bool) : State :=
  if !s.pcieServes then s
  else if 16 < n || lock then (s.pcieBad 0 a).send .unsupported
  else
    let r := s.readRun .pcie a n
    r.2.send (.completion r.1)

/-- A memory write at an offset in BAR0, each DW with its byte enables. -/
def State.pcieWrite (s : State) (a : Nat) (data : List (Word × Fin 16)) (lock : Bool) : State :=
  if !s.pcieServes then s
  else if 16 < data.length || lock || data.any (fun x => x.2 ≠ 15) then s.pcieBad 1 a
  else s.writeRun .pcie a (data.map Prod.fst)

/-- A reset of the host link (R380). A link-down counts from DL_Up only. -/
def State.hostReset (s : State) (k : HifReset) : State :=
  match k with
  | .linkDown => if s.hif.up then s.hifReset true else s
  | .flr => if s.pcieServes then s.hifReset false else s
  | .perst | .hotReset | .island => s.hifReset true

/-- Configuration space written: Bus Master Enable, the power state, MSI-X Enable and Function Mask. -/
def State.configWrite (s : State) (busMaster d3 msixOn msixMask : Bool) : State :=
  if !s.pcieServes then s
  else
    let x := { s.hif with busMaster := busMaster, d3 := d3, msixOn := msixOn, msixMask := msixMask }
    ({ s with hif := x } : State).flushMsix

/-! ## MSI-X (R382) -/

/-- The message of a vector whose INT_STAT bit has risen while enabled. -/
def State.msixDue (s : State) (v : Fin 64) : State :=
  if s.msiDue.toNat.testBit v.val then
    let s : State := { s with msiDue := s.msiDue ^^^ BitVec.ofNat 64 (2 ^ v.val) }
    s.sendMsix v
  else s

/-- A master unmasks a vector. -/
def State.unmask (s : State) (m : Master) (v : Fin 64) : State := s.busWrite m (0x200C + 16 * v.val) 0

end Sys2Proof.Machine
end

