-- ==== Sys2Proof/Machine/Pins.lean ====
section
/-!
DEFINITION. What follows from the rest of the state at the end of every command: the pins (R310, R382, R406), CLK_STAT.TB_ROSC
(R325), what configuration space presents (R376), the count of shed outputs (R340); and the answer of a command.
-/
namespace Sys2Proof.Machine

/-! ## Pins -/

/-- Start-up has passed its step 2. -/
def State.pastStep2 (s : State) : Bool := s.boot.supplies && s.rd .DEV_STATE_TIMING != 0

/-- FAULT_N is asserted (R310). -/
def State.faultPin (s : State) : Bool :=
  s.boot.supplies && (s.rd .DEV_STATE_TIMING == 0 || decide (s.rd .FLT_CFG_PIN_LVL ≤ s.rd .FLT_LEVEL_LEVEL))

/-- Alarm output `a` is asserted (R310). -/
def State.alarmOn (s : State) (a : Nat) : Bool :=
  s.bit .FLT_ALMa_CFG_EN a &&
    (s.rd .FLT_STATUS &&& s.rd .FLT_ALMa_MASK a != 0 || decide (s.rd .FLT_ALMa_CFG_LVL a ≤ s.rd .FLT_LEVEL_LEVEL))

/-- A driven level. -/
def driven (b : Bool) : GpioLevel := if b then .high else .low

/-- The level of GPIO `g` (R406). -/
def State.gpioPin (s : State) (g : Fin 16) : GpioLevel :=
  if !s.pastStep2 then .hiZ
  else match s.rd .GPIO_FUNCg_FUNC g with
    | 1 => driven (s.alarmOn 0 == s.bit .FLT_ALMa_CFG_POL 0)
    | 2 => driven (s.alarmOn 1 == s.bit .FLT_ALMa_CFG_POL 1)
    | 3 => driven (s.alarmOn 2 == s.bit .FLT_ALMa_CFG_POL 2)
    | 4 => driven (s.alarmOn 3 == s.bit .FLT_ALMa_CFG_POL 3)
    | 5 => driven (s.bit .LZn_STAT_ACTIVE 0)
    | 6 => driven (s.bit .LZn_STAT_ACTIVE 1)
    | 7 => driven (s.bit .LZn_STAT_ACTIVE 2)
    | 8 => driven (s.bit .LZn_STAT_ACTIVE 3)
    | 9 => .low
    | 10 => .high
    | _ => .hiZ

/-- What output `n` shows at its balls (R126 to R129): nothing while its format is OFF, before its first edge and while it is
stopped or waits; while squelched, up to the edge at which it resumes, what OUTn_CFG.SQ says. -/
def State.outPad (s : State) (n : Fin 64) : OutPad :=
  let o := s.outs[n]
  let now : Rat := (s.now : Rat)
  let d := match o.driverNext with
    | some (d, some t) => if t ≤ now then d else o.driver
    | _ => o.driver
  if !s.boot.supplies || !s.outOn n || !o.startedAt.any (· ≤ now) || d.fmt = 0 then .hiZ
  else if s.run n = 3 && o.sqAt ≤ now || now < o.driveFrom then (if s.bit .OUTn_CFG_SQ n then .hiZ else .low)
  else .driven d (s.outHigh n != (d.pol != 0))

/-- What configuration space presents while the link is up (R376); the Subsystem ID tells the variants apart, and a part whose
OTP check failed presents that of the CL-6416-BL (R2, R3, R364). -/
def State.pciIdentity (s : State) : Option PciIdentity :=
  if s.hif.up then some
    { vendor := 0x1F47, device := 0x6416, revision := 0xB1, classCode := 0x088000, subVendor := 0x1F47
      subsystem := if s.isBL then 2 else 1, serial := Config.uid.setWidth 64, functions := 1
      bar0 := ⟨64, false, 0x400000⟩, bars := Vector.replicate 5 0, interruptPin := 0
      caps := [.powerManagement, .express, .msix, .errorReporting, .serialNumber]
      vectors := 64, table := 0x2000, pba := 0x3000, payload := [128, 256, 512], readRequest := 4096
      l0s := false, l1 := true, flr := true, widths := [4, 2, 1], rates := [160, 80, 50, 25]
      busMaster := s.hif.busMaster, d3 := s.hif.d3, msixOn := s.hif.msixOn, msixMask := s.hif.msixMask }
  else none

/-- The pins that follow from the state; ALIVE keeps its level while it runs and is held low otherwise. -/
def State.pinsNow (s : State) : Pins where
  faultN := s.faultPin
  alive := s.pins.alive && s.aliveRuns
  intN := s.boot.supplies && s.intN
  gpio := Vector.ofFn s.gpioPin
  outs := Vector.ofFn s.outPad
  pci := s.pciIdentity

/-! ## What follows at the end of a command -/

/-- The timebase runs from ROSC_A: SYS has fallen back and neither APLL is LOCKED (R325). -/
def State.timebaseRosc (s : State) : Bool := s.bitOf .CLK_STAT_FB 0 0 && !s.apllLocked 0 && !s.apllLocked 1

/-- Outputs shed now (R340). -/
def State.shedCount (s : State) : Nat := ((List.range 64).filter (fun n => s.bit .OUTn_STAT_SHED n)).length

/-- A plane's bound is unbounded from now on (R325). -/
def State.unbound (s : State) (p : Fin 4) : State :=
  if s.rd .TEBp_TOTAL p = 0xFFFFFFFF then s else s.showTotal p 0xFFFFFFFF

/-- Everything that follows from the rest of the state. -/
def State.settle (s : State) : State :=
  let s := s.wrB .CLK_STAT_TB_ROSC 0 s.timebaseRosc
  let s := if s.timebaseRosc then s.forAll 4 (fun s p => s.unbound p) else s
  let s := s.wr .SHED_STATE_SHED3_CNT 0 s.shedCount
  { s with pins := s.pinsNow }

/-- What a command answers. -/
abbrev Answer := Host.Outcome State Fault Refusal

/-- The answer of a command that found the state `s` and made it `t`: settled, with the queue as it was. -/
def finish (s t : State) : Answer := .next { t.settle with pending := s.pending }

end Sys2Proof.Machine
end

