-- ==== Sys2Proof/Machine/Rows.lean ====
section
/-!
DEFINITION. How the operands of a row name registers and spell command words, and the rows whose effect is not one access or
one operation of a block.
-/
namespace Sys2Proof.Machine

/-! ## Command words -/

/-- The word in which the given fields hold the given values. -/
def cmdWord (l : List (Field × Nat)) : Word := BitVec.ofNat 32 (l.foldl (fun acc x => acc + x.2 * 2 ^ x.1.info.lo) 0)

/-- A word with one field replaced. -/
def withField (f : Field) (x : Nat) (v : Word) : Word :=
  BitVec.ofNat 32 (v.toNat - fieldOf f v * 2 ^ f.info.lo + x * 2 ^ f.info.lo)

/-- A command of SHk_CMD. -/
def sheafWord (op : Nat) (sync asap : Bool) (pl : Fin 4) : Word :=
  cmdWord [(.SHk_CMD_OP, op), (.SHk_CMD_SYNC, sync.toNat), (.SHk_CMD_ASAP, asap.toNat), (.SHk_CMD_PL, pl.val)]

/-- A command of YEe_CTRL with NOSLEEP as it is to be. -/
def yeWord (f : Field) (nosleep : Bool) : Word := cmdWord [(f, 1), (.YEe_CTRL_NOSLEEP, nosleep.toNat)]

/-! ## Registers that an operand names -/

/-- A measurement status register and its instance. -/
def statusReg (r : MeasReg) : Reg × Nat :=
  match r with
  | .inp n => (.INn_MEAS, n)
  | .atom => (.ATOM_MEAS, 0)
  | .plane p => (.PLn_UPD, p)
  | .bank b => (.OBb_BTMEAS, b)
  | .link n => (.LZn_MEAS, n)

/-- A ratio register of an output, active or shadow. -/
def ratioReg (shadow : Bool) (r : RatioReg) : Reg :=
  match r, shadow with
  | .int, false => .OUTn_INT
  | .num, false => .OUTn_NUM
  | .den, false => .OUTn_DEN
  | .int, true => .OUTn_S_INT
  | .num, true => .OUTn_S_NUM
  | .den, true => .OUTn_S_DEN

/-- The counters that a read clears. -/
def tokCounterReg (c : TokCounter) : Reg :=
  match c with
  | .kcWait => .TOK_KC_WAIT
  | .errs => .TOK_ERRS
def evrCounterReg (c : EvrCounter) : Reg :=
  match c with
  | .dropTrace => .EVR_DROP_TRACE
  | .mergeLog => .EVR_MERGE_LOG
  | .mergeAlarm => .EVR_MERGE_ALARM

/-- Byte address of an IMEM word, and of a DMEM word's _LO register (R164, R191). -/
def imemAddr (e : Fin 4) (a : Fin 4096) : Nat := 0x110000 + e.val * 0x40000 + a.val * 4
def dmemAddr (e : Fin 4) (a : Fin 1024) : Nat := 0x120000 + e.val * 0x40000 + a.val * 8

/-- The gateable islands by the operand of the gating rows: YAC, MGT, TOK, LNZ. -/
def gateCode (i : Fin 4) : Nat := gateable.getD i.val 0

/-! ## Rows made of several accesses -/

/-- The restart of an engine after a trap (R180). An engine that runs leaves YAC ungated (R185). -/
def State.trapRestart (s : State) (e : Fin 4) : State :=
  let t := s.yeRestart e
  if t.yeState e == stRunning then t.wake islYac else t

/-- A gate closes with the handshake busy: a read in flight completes with zero (R329). -/
def State.forceGate (s : State) (g : ForcedGate) : State :=
  let t := s.gateForce (gateCode g.island)
  match g.reader with
  | some m => if t.gated (gateCode g.island) && !s.gated (gateCode g.island) then t.ret m 0 else t
  | none => t

/-- Half or word `i` of a register written. -/
def State.halfWrite (s : State) (m : Master) (r : Reg) (n i : Nat) (v : Word) : State :=
  if s.hasMaster m then s.access m r n i v else s

/-- A write of REFMUL, N, NUM or DEN (R86); REFMUL lies in APLLx_CTRL, whose other fields keep their values. -/
def State.apllConfig (s : State) (m : Master) (x : Fin 2) (r : ApllCfgReg) (v : Word) : State :=
  match r with
  | .refmul =>
    s.regWrite m .APLLx_CTRL x (withField .APLLx_CTRL_REFMUL (v.toNat % 4) (BitVec.ofNat 32 (s.regVal .APLLx_CTRL x)))
  | .n => s.regWrite m .APLLx_N x v
  | .num => s.regWrite m .APLLx_NUM x v
  | .den => s.regWrite m .APLLx_DEN x v

/-- A trim table entry written (R97). -/
def State.trimWrite (s : State) (m : Master) (x : Fin 2) (e : TrimEntry) (v : Word) : State :=
  match e with
  | .gain b => s.regWrite m .APLLx_GAIN (16 * x.val + b.val) v
  | .tap b j => s.regWrite m .APLLx_TAP (256 * x.val + 16 * b.val + j.val) v

/-- A hop's instant comes: of a sheaf, or an output's immediate one (R121, R124). -/
def State.hopAt (s : State) (h : HopSite) : State :=
  match h with
  | .sheaf k => s.effectSheaf k
  | .out n => s.hopNow n

/-- An access to a DMEM word whose _LO register lies at `a` (R164). -/
def State.dmemAccess (s : State) (m : Master) (a : Nat) (d : DmemAccess) : State :=
  match d with
  | .readLo => s.readAt m a
  | .readHi => s.readAt m (a + 4)
  | .writeHi v => s.busWrite m (a + 4) v
  | .writeLo v => s.busWrite m a v
  | .burst lo hi => s.writeRun m a [lo, hi]

/-- A write of an engine register (R183). -/
def State.pokeReg (s : State) (m : Master) (e : Fin 4) (r : YePoke) : State :=
  match r with
  | .pc v => s.busWrite m (Reg.addr .YEe_PC e) v
  | .gHi i v => s.busWrite m (Reg.addr .YEe_Gi e + 8 * i.val + 4) v
  | .gLo i v => s.busWrite m (Reg.addr .YEe_Gi e + 8 * i.val) v
  | .pred v => s.busWrite m (Reg.addr .YEe_PRED e) v

/-- COMMIT written by master 3; with `cut` the main supplies fail while the capsule commits (R271, R273). -/
def State.commitCapsule (s : State) (m : Master) (cut : CommitCut) : State :=
  match cut with
  | .none => s.regWrite m .GRN_CAP_CTRL 0 (cmdWord [(.GRN_CAP_CTRL_COMMIT, 1)])
  | _ => if m == .keeper && s.reach .GRN_CAP_CTRL then (s.capCommit cut).supplyLoss else s

/-- RESEED written with a CONFIRM; with fewer than five `steps` the main supplies fail after so many of them (R274). -/
def State.reseedBy (s : State) (m : Master) (confirm : Byte) (steps : Fin 6) : State :=
  let v := cmdWord [(.GRN_CTRL_RESEED, 1), (.GRN_CTRL_CONFIRM, confirm.toNat)]
  if steps = 5 then s.regWrite m .GRN_CTRL 0 v
  else if s.hasMaster m && s.reach .GRN_CTRL then (s.grnCtrl m v steps).supplyLoss
  else s

/-- A detector fires, with the reaction of its source (R301, R302). FSRC20 watches a keeper that runs, so in the recovery
service it does not fire (R370). -/
def State.detect (s : State) (src : Fin 64) (d : Detail) : State :=
  if !s.boot.supplies || (src.val = 20 && s.rd .DEV_STATE_KEEPER = kpRecovery) then s
  else s.raiseReact src { d with inst := faultInst src d.inst }

/-- PWR_RAIL read (R346). -/
def State.readRail (s : State) (m : Master) (rail : Fin 3) (mv low : Nat) : State :=
  if s.hasMaster m && s.reach .PWR_RAIL then s.railRead m rail mv low else s

end Sys2Proof.Machine
end

