-- ==== Sys2Proof/Machine/ExecApll.lean ====
section
/-!
DEFINITION. The APLLs (R85 to R104).
-/
namespace Sys2Proof.Machine

/-- APLL_ENABLE (R86). -/
def execApllEnable (t : Nat) (m : Master) (x : Fin 2) (v : Word) (s : State) : Answer :=
  finish s ((s.enter t).regWrite m .APLLx_CTRL x (withField .APLLx_CTRL_EN 1 v))

/-- APLL_DISABLE (R101). -/
def execApllDisable (t : Nat) (m : Master) (x : Fin 2) (v : Word) (s : State) : Answer :=
  finish s ((s.enter t).regWrite m .APLLx_CTRL x (withField .APLLx_CTRL_EN 0 v))

/-- APLL_CONFIG_WRITE (R86). -/
def execApllConfigWrite (t : Nat) (m : Master) (x : Fin 2) (r : ApllCfgReg) (v : Word) (s : State) : Answer :=
  finish s ((s.enter t).apllConfig m x r v)

/-- APLL_RELOCK (R88). -/
def execApllRelock (t : Nat) (m : Master) (x : Fin 2) (v : Word) (s : State) : Answer :=
  finish s ((s.enter t).regWrite m .APLLx_CTRL x (withField .APLLx_CTRL_RELOCK 1 v))

/-- APLL_BANDSEL_DONE (R88). -/
def execApllBandselDone (t : Nat) (x : Fin 2) (s : State) : Answer :=
  finish s ((s.enter t).bandselDone x)

/-- APLL_LOCK_ACHIEVED (R88). -/
def execApllLockAchieved (t : Nat) (x : Fin 2) (s : State) : Answer :=
  finish s ((s.enter t).lockAchieved x)

/-- APLL_LOCK_TIMEOUT (R88). -/
def execApllLockTimeout (t : Nat) (x : Fin 2) (s : State) : Answer :=
  finish s ((s.enter t).lockTimeout x)

/-- APLL_RETRY (R88). -/
def execApllRetry (t : Nat) (x : Fin 2) (s : State) : Answer :=
  finish s ((s.enter t).apllRetry x)

/-- APLL_DEPART (R91). -/
def execApllDepart (t : Nat) (x : Fin 2) (errs : Vector (List Int) 2) (s : State) : Answer :=
  finish s ((s.enter t).apllDepart x errs)

/-- APLL_LOCK_LOST (R91). -/
def execApllLockLost (t : Nat) (x : DetectorErrors) (s : State) : Answer :=
  finish s ((s.enter t).lockLost x.apll x.errs)

/-- APLL_AUTO_RELOCK (R93). -/
def execApllAutoRelock (t : Nat) (x : Fin 2) (s : State) : Answer :=
  finish s ((s.enter t).autoRelock x)

/-- VT_MARGIN_RISE (R90). -/
def execVtMarginRise (t : Nat) (x : Fin 2) (s : State) : Answer :=
  finish s ((s.enter t).vtMargin x)

/-- TRIM_UPDATE (R96). -/
def execTrimUpdate (t : Nat) (x : Fin 2) (tj : Int) (seen : ApllReading) (s : State) : Answer :=
  finish s ((s.enter t).trimUpdate x tj seen.pherr seen.tune)

/-- TRIM_TABLE_WRITE (R97). -/
def execTrimTableWrite (t : Nat) (m : Master) (x : Fin 2) (e : TrimEntry) (v : Word) (s : State) : Answer :=
  finish s ((s.enter t).trimWrite m x e v)

/-- XPH_MEASURE (R98). -/
def execXphMeasure (t : Nat) (xph : Int) (s : State) : Answer :=
  finish s ((s.enter t).xphMeasure xph)

end Sys2Proof.Machine
end

