-- ==== Sys2Proof/Machine/ExecBoot.lean ====
section
/-!
DEFINITION. Board calibration, start-up and the resets (R347 to R374, R392).
-/
namespace Sys2Proof.Machine

/-- CAL_GO (R349). -/
def execCalGo (t : Nat) (m : Master) (v : Word) (s : State) : Answer :=
  finish s ((s.enter t).regWrite m .CAL_CTRL 0 (withField .CAL_CTRL_GO 1 v))

/-- CAL_ABORT (R352). -/
def execCalAbort (t : Nat) (m : Master) (v : Word) (s : State) : Answer :=
  finish s ((s.enter t).regWrite m .CAL_CTRL 0 (withField .CAL_CTRL_ABORT 1 v))

/-- CAL_PHASE_A_END (R351). -/
def execCalPhaseAEnd (t : Nat) (hists : Vector (Vector Nat 32) 25) (s : State) : Answer :=
  finish s ((s.enter t).calPhaseAEnd hists)

/-- CAL_PHASE_ADVANCE (R350). -/
def execCalPhaseAdvance (t : Nat) (d : CalPhase) (s : State) : Answer :=
  finish s ((s.enter t).calAdvance d)

/-- CAL_RUN_END (R350). -/
def execCalRunEnd (t : Nat) (s : State) : Answer :=
  finish s ((s.enter t).calRunEnd)

/-- CAL_APPLY_GO (R356). -/
def execCalApplyGo (t : Nat) (m : Master) (v : Word) (s : State) : Answer :=
  finish s ((s.enter t).regWrite m .CAL_APPLY 0 (withField .CAL_APPLY_GO 1 v))

/-- CAL_REVERT (R358). -/
def execCalRevert (t : Nat) (m : Master) (v : Word) (s : State) : Answer :=
  finish s ((s.enter t).regWrite m .CAL_APPLY 0 (withField .CAL_APPLY_REVERT 1 v))

/-- CAL_IMAGE_WRITE (R355). -/
def execCalImageWrite (t : Nat) (m : Master) (i : Fin 1024) (v : Word) (s : State) : Answer :=
  finish s ((s.enter t).halfWrite m .CAL_IMAGE 0 i v)

/-- SUPPLIES_GOOD (R392). -/
def execSuppliesGood (t : Nat) (s : State) : Answer :=
  finish s ((s.enter t).suppliesGood)

/-- TRIM_LOAD_DONE (R362). -/
def execTrimLoadDone (t : Nat) (otpOk : Bool) (s : State) : Answer :=
  finish s ((s.enter t).trimLoaded otpOk)

/-- BOOTCFG_READ (R365). -/
def execBootcfgRead (t : Nat) (s : State) : Answer :=
  finish s ((s.enter t).bootConfig)

/-- KEEPER_BOOT (R368). -/
def execKeeperBoot (t : Nat) (readA readB : Bool) (s : State) : Answer :=
  finish s ((s.enter t).keeperBoot readA readB)

/-- MAIN_SUPPLY_LOSS (R18). -/
def execMainSupplyLoss (t : Nat) (s : State) : Answer :=
  finish s ((s.enter t).supplyLoss)

/-- SOFT_RESET_WARM (R372). -/
def execSoftResetWarm (t : Nat) (m : Master) (key : Byte) (s : State) : Answer :=
  finish s ((s.enter t).regWrite m .SOFT_RESET 0 (cmdWord [(.SOFT_RESET_WARM, 1), (.SOFT_RESET_KEY, key.toNat)]))

/-- WARM_RESET_RELEASE (R372). -/
def execWarmResetRelease (t : Nat) (s : State) : Answer :=
  finish s ((s.enter t).warmRelease)

/-- SOFT_RESET_COLD (R371). -/
def execSoftResetCold (t : Nat) (m : Master) (key : Byte) (s : State) : Answer :=
  finish s ((s.enter t).regWrite m .SOFT_RESET 0 (cmdWord [(.SOFT_RESET_COLD, 1), (.SOFT_RESET_KEY, key.toNat)]))

/-- SOFT_RESET_RECOVER (R370). -/
def execSoftResetRecover (t : Nat) (m : Master) (key : Byte) (s : State) : Answer :=
  finish s ((s.enter t).regWrite m .SOFT_RESET 0 (cmdWord [(.SOFT_RESET_RECOVER, 1), (.SOFT_RESET_KEY, key.toNat)]))

end Sys2Proof.Machine
end

