-- ==== Sys2Proof/Machine/ExecClock.lean ====
section
/-!
DEFINITION. Clocks, gating, DVFS, power states and shedding (R321 to R346).
-/
namespace Sys2Proof.Machine

/-- ROSC_CROSSCHECK (R322). -/
def execRoscCrosscheck (t : Nat) (count : Nat) (s : State) : Answer :=
  finish s ((s.enter t).roscCross count)

/-- ROSC_XO_MEASURE (R322). -/
def execRoscXoMeasure (t : Nat) (a b : Nat) (s : State) : Answer :=
  finish s ((s.enter t).roscMeasure a b)

/-- MONITOR_WINDOW_END (R323). -/
def execMonitorWindowEnd (t : Nat) (i : Fin 3) (ratio : Rat) (s : State) : Answer :=
  finish s ((s.enter t).monitor i ratio)

/-- CLK_RETURN (R326). -/
def execClkReturn (t : Nat) (m : Master) (v : Word) (s : State) : Answer :=
  finish s ((s.enter t).regWrite m .CLK_CTRL 0 v)

/-- NP_CLOCK_COAST (R327). -/
def execNpClockCoast (t : Nat) (i : Fin 4) (s : State) : Answer :=
  finish s ((s.enter t).coast i)

/-- NP_CLOCK_RELOCK (R327). -/
def execNpClockRelock (t : Nat) (i : Fin 4) (s : State) : Answer :=
  finish s ((s.enter t).relockClk i)

/-- MUX_HANG (R328). -/
def execMuxHang (t : Nat) (i : Fin 4) (s : State) : Answer :=
  finish s ((s.enter t).muxHang i)

/-- GATE_REQUEST (R329). -/
def execGateRequest (t : Nat) (i : Fin 4) (idle : Bool) (s : State) : Answer :=
  finish s ((s.enter t).gateRequest (gateCode i) idle)

/-- GATE_FORCE (R329). -/
def execGateForce (t : Nat) (g : ForcedGate) (s : State) : Answer :=
  finish s ((s.enter t).forceGate g)

/-- ISLAND_WAKE (R337). -/
def execIslandWake (t : Nat) (i : Fin 4) (s : State) : Answer :=
  finish s ((s.enter t).wake (gateCode i))

/-- DVFS_REQUEST (R332). -/
def execDvfsRequest (t : Nat) (m : Master) (v : Word) (s : State) : Answer :=
  finish s ((s.enter t).regWrite m .PWR_MGT_DVFS 0 v)

/-- DVFS_DONE (R332). -/
def execDvfsDone (t : Nat) (tok : Bool) (s : State) : Answer :=
  let u := s.enter t
  finish s (if tok then u.tokDone else u.mgtDone)

/-- POWER_STATE_EVAL (R337). -/
def execPowerStateEval (t : Nat) (s : State) : Answer :=
  finish s ((s.enter t).powerEval)

/-- KEEPER_TIMER_EXPIRE (R336). -/
def execKeeperTimerExpire (t : Nat) (s : State) : Answer :=
  finish s ((s.enter t).ktimerExpire)

/-- SHED_ENTER (R338). -/
def execShedEnter (t : Nat) (rail : Fin 3) (mv : Nat) (s : State) : Answer :=
  finish s ((s.enter t).shedEnter rail mv)

/-- SHED_EXIT (R338). -/
def execShedExit (t : Nat) (core dvs ana : Nat) (s : State) : Answer :=
  finish s ((s.enter t).shedExit core dvs ana)

/-- BROWN_OUT (R342). -/
def execBrownOut (t : Nat) (rail : Fin 3) (mv : Nat) (s : State) : Answer :=
  finish s ((s.enter t).brownOut rail mv)

/-- GPIO_INPUT_CHANGE (R344). -/
def execGpioInputChange (t : Nat) (g : Fin 16) (level : Bool) (s : State) : Answer :=
  finish s ((s.enter t).gpioChange g level)

/-- PWR_RAIL_MIN_READ (R346). -/
def execPwrRailMinRead (t : Nat) (m : Master) (rail : Fin 3) (mv low : Nat) (s : State) : Answer :=
  finish s ((s.enter t).readRail m rail mv low)

end Sys2Proof.Machine
end

