-- ==== Sys2Proof/Machine/ExecFault.lean ====
section
/-!
DEFINITION. The fault collector and the event path (R299 to R320).
-/
namespace Sys2Proof.Machine

/-- FAULT_DETECT (R302). -/
def execFaultDetect (t : Nat) (src : Fin 64) (inst : Byte) (cap : Option BusCapture) (s : State) : Answer :=
  finish s ((s.enter t).detect src { inst := inst.toNat, cap := cap })

/-- REACTION_END (R301). -/
def execReactionEnd (t : Nat) (src : Fin 64) (inst : Byte) (s : State) : Answer :=
  finish s ((s.enter t).reactionEnd src inst.toNat)

/-- MASK_WINDOW_END (R306). -/
def execMaskWindowEnd (t : Nat) (src : Fin 64) (inst : Byte) (s : State) : Answer :=
  finish s ((s.enter t).windowEnd src inst.toNat)

/-- FAULT_GRACE_EXPIRE (R303). -/
def execFaultGraceExpire (t : Nat) (src : Fin 64) (inj : Bool) (s : State) : Answer :=
  finish s ((s.enter t).graceExpire src inj)

/-- FAULT_RECOVERY (R304). -/
def execFaultRecovery (t : Nat) (s : State) : Answer :=
  finish s ((s.enter t).recovery)

/-- FLT_ACK (R305). -/
def execFltAck (t : Nat) (m : Master) (hi : Bool) (v : Word) (s : State) : Answer :=
  finish s ((s.enter t).halfWrite m .FLT_ACK 0 (if hi then 1 else 0) v)

/-- FLT_INJECT (R308). -/
def execFltInject (t : Nat) (m : Master) (v : Word) (s : State) : Answer :=
  finish s ((s.enter t).regWrite m .FLT_INJECT 0 (withField .FLT_INJECT_GO 1 v))

/-- FLT_REARM (R309). -/
def execFltRearm (t : Nat) (m : Master) (s : State) : Answer :=
  finish s ((s.enter t).regWrite m .FLT_FIRST 0 (cmdWord [(.FLT_FIRST_REARM, 1)]))

/-- FLT_SWRAISE (R299). -/
def execFltSwraise (t : Nat) (m : Master) (v : Word) (s : State) : Answer :=
  finish s ((s.enter t).regWrite m .FLT_SWRAISE 0 v)

/-- ALIVE_TOGGLE (R310). -/
def execAliveToggle (t : Nat) (s : State) : Answer :=
  finish s ((s.enter t).aliveToggle)

/-- COAL_HOLD_EXPIRE (R316). -/
def execCoalHoldExpire (t : Nat) (src : Nat) (s : State) : Answer :=
  finish s ((s.enter t).holdEnd src)

/-- GLEANER_MOVE (R317). -/
def execGleanerMove (t : Nat) (ok : Bool) (s : State) : Answer :=
  finish s ((s.enter t).evrMove ok)

/-- EVR_HOST_IRQ_TIMER (R317). -/
def execEvrHostIrqTimer (t : Nat) (s : State) : Answer :=
  finish s ((s.enter t).evrTimer)

/-- EVR_ENTRY_POP (R318). -/
def execEvrEntryPop (t : Nat) (m : Master) (s : State) : Answer :=
  finish s ((s.enter t).regRead m .EVR_ENTRY 0 0)

/-- EVR_COUNTER_READ (R315). -/
def execEvrCounterRead (t : Nat) (m : Master) (c : EvrCounter) (s : State) : Answer :=
  finish s ((s.enter t).regRead m (evrCounterReg c) 0 0)

end Sys2Proof.Machine
end

