-- ==== Sys2Proof/Machine/ExecHost.lean ====
section
/-!
DEFINITION. PCIe, the SPI port and MSI-X (R376 to R386).
-/
namespace Sys2Proof.Machine

/-- HIF_RESET (R380). -/
def execHifReset (t : Nat) (k : HifReset) (s : State) : Answer :=
  finish s ((s.enter t).hostReset k)

/-- PCIE_LINK_UP (R377). -/
def execPcieLinkUp (t : Nat) (s : State) : Answer :=
  finish s ((s.enter t).linkUp)

/-- PCIE_MEM_READ (R378). -/
def execPcieMemRead (t : Nat) (addr n : Nat) (locked : Bool) (s : State) : Answer :=
  finish s ((s.enter t).pcieRead addr n locked)

/-- PCIE_MEM_WRITE (R378). -/
def execPcieMemWrite (t : Nat) (addr : Nat) (data : List (Word × Fin 16)) (locked : Bool) (s : State) : Answer :=
  finish s ((s.enter t).pcieWrite addr data locked)

/-- PCIE_CONFIG_WRITE (R379). -/
def execPcieConfigWrite (t : Nat) (busMaster d3 msixOn msixMask : Bool) (s : State) : Answer :=
  finish s ((s.enter t).configWrite busMaster d3 msixOn msixMask)

/-- SPI_READ (R384). -/
def execSpiRead (t : Nat) (addr : Word) (n : Nat) (ending : SpiEnd) (s : State) : Answer :=
  finish s ((s.begin t).spiRead addr n ending)

/-- SPI_WRITE (R384). -/
def execSpiWrite (t : Nat) (cmd : Byte) (addr : Word) (words : List (Word × Nat)) (cut : Bool) (s : State) : Answer :=
  finish s ((s.begin t).spiWrite cmd addr words cut)

/-- SPI_STATUS (R384). -/
def execSpiStatus (t : Nat) (done : Nat) (s : State) : Answer :=
  finish s ((s.begin t).spiStatus done)

/-- MSIX_SEND (R382). -/
def execMsixSend (t : Nat) (v : Fin 64) (s : State) : Answer :=
  finish s ((s.enter t).msixDue v)

/-- MSIX_UNMASK (R382). -/
def execMsixUnmask (t : Nat) (m : Master) (v : Fin 64) (s : State) : Answer :=
  finish s ((s.enter t).unmask m v)

end Sys2Proof.Machine
end

