-- ==== Sys2Proof/Machine/ExecInput.lean ====
section
/-!
DEFINITION. The reference inputs, the Winnower, XO and ATOM_IN (R19 to R43, R75 to R84).
-/
namespace Sys2Proof.Machine

/-- INPUT_EDGE (R21). -/
def execInputEdge (t : Nat) (n : Fin 16) (s : State) : Answer :=
  let u := s.enter t
  finish s (u.edge n u.now)

/-- IN_CFG_WRITE (R32). -/
def execInCfgWrite (t : Nat) (m : Master) (n : Fin 16) (v : Word) (s : State) : Answer :=
  finish s ((s.enter t).regWrite m .INn_CFG n v)

/-- REANCHOR (R35). -/
def execReanchor (t : Nat) (m : Master) (n : Fin 16) (s : State) : Answer :=
  let u := s.enter t
  finish s (u.regWrite m .INn_CFG n (BitVec.ofNat 32 (u.regVal .INn_CFG n + 2 ^ Field.INn_CFG_REANCHOR.info.lo)))

/-- IN_TYPE_WRITE (R24). -/
def execInTypeWrite (t : Nat) (m : Master) (n : Fin 16) (v : Word) (s : State) : Answer :=
  finish s ((s.enter t).regWrite m .INn_TYPE n v)

/-- IN_DIV_WRITE (R20). -/
def execInDivWrite (t : Nat) (m : Master) (n : Fin 16) (v : Word) (s : State) : Answer :=
  finish s ((s.enter t).regWrite m .INn_DIV n v)

/-- IN_NOM_COMMIT (R408). -/
def execInNomCommit (t : Nat) (m : Master) (n : Fin 16) (lo : Word) (s : State) : Answer :=
  finish s ((s.enter t).regWrite m .INn_NOM n lo)

/-- SWPHASE_COMMIT (R25). -/
def execSwphaseCommit (t : Nat) (m : Master) (n : Fin 16) (lo : Word) (s : State) : Answer :=
  finish s ((s.enter t).regWrite m .INn_SWPHASE n lo)

/-- MEAS_GATE_END (R27). -/
def execMeasGateEnd (t : Nat) (n : Fin 16) (s : State) : Answer :=
  finish s ((s.enter t).gateEnd n)

/-- MEAS_STATUS_READ (R27). -/
def execMeasStatusRead (t : Nat) (m : Master) (r : MeasReg) (s : State) : Answer :=
  finish s ((s.enter t).regRead m (statusReg r).1 (statusReg r).2 0)

/-- ACTIVITY_TIMEOUT (R30). -/
def execActivityTimeout (t : Nat) (n : Fin 16) (s : State) : Answer :=
  finish s ((s.enter t).activityFail n)

/-- DRIFT_OBSERVATION (R36). -/
def execDriftObservation (t : Nat) (n : Fin 16) (s : State) : Answer :=
  finish s ((s.enter t).observe n)

/-- DRIFT_EVAL (R37). -/
def execDriftEval (t : Nat) (n : Fin 16) (w : DriftWindow) (s : State) : Answer :=
  finish s ((s.enter t).driftEval n w)

/-- HOLDOFF_EXPIRE (R31). -/
def execHoldoffExpire (t : Nat) (n : Fin 16) (s : State) : Answer :=
  finish s ((s.enter t).holdoffEnd n)

/-- XO_COARSE_GATE (R39). -/
def execXoCoarseGate (t : Nat) (err : Rat) (s : State) : Answer :=
  finish s ((s.enter t).coarseGate err)

/-- XO_FINE_GATE (R39). -/
def execXoFineGate (t : Nat) (err : Rat) (s : State) : Answer :=
  finish s ((s.enter t).fineGate err)

/-- ATOM_EDGE (R40). -/
def execAtomEdge (t : Nat) (s : State) : Answer :=
  finish s ((s.enter t).atomEdge)

/-- ATOM_GATE_END (R40). -/
def execAtomGateEnd (t : Nat) (s : State) : Answer :=
  finish s ((s.enter t).atomGateEnd)

/-- ATOM_CFG_WRITE (R78). -/
def execAtomCfgWrite (t : Nat) (m : Master) (v : Word) (s : State) : Answer :=
  finish s ((s.enter t).regWrite m .ATOM_CFG 0 v)

/-- ATOM_PRESENT_RISE (R78). -/
def execAtomPresentRise (t : Nat) (s : State) : Answer :=
  finish s ((s.enter t).atomRise)

/-- ATOM_PRESENT_FALL (R78). -/
def execAtomPresentFall (t : Nat) (s : State) : Answer :=
  finish s ((s.enter t).atomFall)

/-- MODEL_LOAD (R82). -/
def execModelLoad (t : Nat) (m : Master) (withClear : Bool) (s : State) : Answer :=
  finish s ((s.enter t).regWrite m .MODEL_CTRL 0 (cmdWord [(.MODEL_CTRL_LOAD, 1), (.MODEL_CTRL_CLEAR, withClear.toNat)]))

/-- MODEL_CLEAR (R83). -/
def execModelClear (t : Nat) (m : Master) (s : State) : Answer :=
  finish s ((s.enter t).regWrite m .MODEL_CTRL 0 (cmdWord [(.MODEL_CTRL_CLEAR, 1)]))

/-- MODEL_AGE_SECOND (R83). -/
def execModelAgeSecond (t : Nat) (s : State) : Answer :=
  finish s ((s.enter t).modelAge)

/-- XO_LOSS (R76). -/
def execXoLoss (t : Nat) (s : State) : Answer :=
  finish s ((s.enter t).xoLoss)

end Sys2Proof.Machine
end

