-- ==== Sys2Proof/Machine/ExecLink.lean ====
section
/-!
DEFINITION. The Lenuz links (R212 to R234).
-/
namespace Sys2Proof.Machine

/-- LZ_FRAME_TX (R215). -/
def execLzFrameTx (t : Nat) (n : Fin 4) (us : Nat) (s : State) : Answer :=
  finish s ((s.enter t).lzSend n us)

/-- LZ_FRAME_RX (R219). -/
def execLzFrameRx (t : Nat) (n : Fin 4) (mark : Nat) (start rest : List Symbol) (s : State) : Answer :=
  finish s ((s.enter t).lzReceive n mark (start ++ rest))

/-- LZ_ALIGN_FOUND (R221). -/
def execLzAlignFound (t : Nat) (n : Fin 4) (s : State) : Answer :=
  finish s ((s.enter t).lzAligned n)

/-- LZ_RTD_MEAN (R221). -/
def execLzRtdMean (t : Nat) (n : Fin 4) (s : State) : Answer :=
  finish s ((s.enter t).lzMean n)

/-- LZ_RX_TIMEOUT (R222). -/
def execLzRxTimeout (t : Nat) (n : Fin 4) (s : State) : Answer :=
  finish s ((s.enter t).lzRxTimeout n)

/-- LZ_CFG_WRITE (R221). -/
def execLzCfgWrite (t : Nat) (m : Master) (n : Fin 4) (v : Word) (s : State) : Answer :=
  finish s ((s.enter t).regWrite m .LZn_CFG n v)

/-- LZ_ACAL_GO (R228). -/
def execLzAcalGo (t : Nat) (m : Master) (n : Fin 4) (v : Word) (s : State) : Answer :=
  finish s ((s.enter t).regWrite m .LZn_ACAL n (withField .LZn_ACAL_GO 1 v))

/-- LZ_ACAL_END (R228). -/
def execLzAcalEnd (t : Nat) (n : Fin 4) (s : State) : Answer :=
  finish s ((s.enter t).lzAcalEnd n)

/-- LZ_TAKEOVER (R231). -/
def execLzTakeover (t : Nat) (n : Fin 4) (s : State) : Answer :=
  finish s ((s.enter t).lzTakeover n)

/-- LZ_ERRCNT_READ (R217). -/
def execLzErrcntRead (t : Nat) (m : Master) (n : Fin 4) (s : State) : Answer :=
  finish s ((s.enter t).regRead m .LZn_ERRCNT n 0)

end Sys2Proof.Machine
end

