-- ==== Sys2Proof/Machine/ExecMailbox.lean ====
section
/-!
DEFINITION. The mailboxes and the keeper (R280 to R298, R370).
-/
namespace Sys2Proof.Machine

/-- MB_TX_WRITE (R285). -/
def execMbTxWrite (t : Nat) (m : Master) (n : Fin 16) (v : Word) (s : State) : Answer :=
  finish s ((s.enter t).regWrite m .MBn_TX n v)

/-- MB_RX_READ (R286). -/
def execMbRxRead (t : Nat) (m : Master) (n : Fin 16) (s : State) : Answer :=
  finish s ((s.enter t).regRead m .MBn_RX n 0)

/-- MB_LOCK_READ (R283). -/
def execMbLockRead (t : Nat) (m : Master) (n : Fin 16) (s : State) : Answer :=
  finish s ((s.enter t).regRead m .MBn_LOCK n 0)

/-- MB_LOCK_WRITE (R283). -/
def execMbLockWrite (t : Nat) (m : Master) (n : Fin 16) (v : Word) (s : State) : Answer :=
  finish s ((s.enter t).regWrite m .MBn_LOCK n v)

/-- MB_BIND_WRITE (R281). -/
def execMbBindWrite (t : Nat) (m : Master) (n : Fin 16) (v : Word) (s : State) : Answer :=
  finish s ((s.enter t).regWrite m .MBn_BIND n v)

/-- MB_ENDRST (R289). -/
def execMbEndrst (t : Nat) (m : Master) (n : Fin 16) (v : Word) (s : State) : Answer :=
  finish s ((s.enter t).regWrite m .MBn_CTRL n (v ||| 1))

/-- MB_TMO_EXPIRE (R288). -/
def execMbTmoExpire (t : Nat) (n : Fin 16) (i : Fin 2) (s : State) : Answer :=
  finish s ((s.enter t).mbTimeout n i)

/-- VERSION (R294). -/
def execVersion (t : Nat) (n : Fin 16) (s : State) : Answer :=
  finish s ((s.enter t).kpVersion n)

/-- GET_CERT (R294). -/
def execGetCert (t : Nat) (n : Fin 16) (s : State) : Answer :=
  finish s ((s.enter t).kpCert n)

/-- ATTEST (R294). -/
def execAttest (t : Nat) (n : Fin 16) (s : State) : Answer :=
  finish s ((s.enter t).kpAttest n)

/-- LOAD_YACOR (R294). -/
def execLoadYacor (t : Nat) (n : Fin 16) (s : State) : Answer :=
  finish s ((s.enter t).kpLoadYacor n)

/-- BOOT_SELECT (R294). -/
def execBootSelect (t : Nat) (n : Fin 16) (s : State) : Answer :=
  finish s ((s.enter t).kpBootSelect n)

/-- FAULT_RECORD (R294). -/
def execFaultRecord (t : Nat) (n : Fin 16) (record : Option (List Word)) (s : State) : Answer :=
  finish s ((s.enter t).kpFaultRecord n record)

/-- KEEPER_LOAD (R294). -/
def execKeeperLoad (t : Nat) (n : Fin 16) (s : State) : Answer :=
  finish s ((s.enter t).kpLoad n)

/-- TELEMETRY (R294). -/
def execTelemetry (t : Nat) (n : Fin 16) (s : State) : Answer :=
  finish s ((s.enter t).kpTelemetry n)

/-- REFIT_NOW (R294). -/
def execRefitNow (t : Nat) (n : Fin 16) (result : List Word) (s : State) : Answer :=
  finish s ((s.enter t).kpRefitNow n result)

/-- LOG_READ (R294). -/
def execLogRead (t : Nat) (n : Fin 16) (words : List Word) (cursor : Word) (s : State) : Answer :=
  finish s ((s.enter t).kpLogRead n words cursor)

/-- UNKNOWN_TYPE (R294). -/
def execUnknownType (t : Nat) (n : Fin 16) (s : State) : Answer :=
  finish s ((s.enter t).kpUnknown n)

/-- FLASH_READ (R370). -/
def execFlashRead (t : Nat) (n : Fin 16) (s : State) : Answer :=
  finish s ((s.enter t).rcRead n)

/-- FLASH_ERASE (R370). -/
def execFlashErase (t : Nat) (n : Fin 16) (s : State) : Answer :=
  finish s ((s.enter t).rcErase n)

/-- FLASH_WRITE (R370). -/
def execFlashWrite (t : Nat) (n : Fin 16) (s : State) : Answer :=
  finish s ((s.enter t).rcWrite n)

/-- RECOVERY_REBOOT (R370). -/
def execRecoveryReboot (t : Nat) (n : Fin 16) (s : State) : Answer :=
  finish s ((s.enter t).rcReboot n)

/-- KEEPER_REFIT (R84). -/
def execKeeperRefit (t : Nat) (s : State) : Answer :=
  finish s ((s.enter t).keeperRefit)

/-- TELEMETRY_SAMPLE (R295). -/
def execTelemetrySample (t : Nat) (tja tjb core dvs ana : Word) (s : State) : Answer :=
  finish s ((s.enter t).keeperSample tja tjb core dvs ana)

/-- KEEPER_LOAD_WINDOW (R296). -/
def execKeeperLoadWindow (t : Nat) (load : Nat) (s : State) : Answer :=
  finish s ((s.enter t).loadWindow load)

/-- KEEPER_BEAT (R297). -/
def execKeeperBeat (t : Nat) (s : State) : Answer :=
  finish s ((s.enter t).keeperBeat)

end Sys2Proof.Machine
end

