-- ==== Sys2Proof/Machine/ExecOutput.lean ====
section
/-!
DEFINITION. The outputs, the banks and the sheafs (R105 to R137).
-/
namespace Sys2Proof.Machine

/-- SWAP_EDGE (R98). -/
def execSwapEdge (t : Nat) (n : Fin 64) (s : State) : Answer :=
  finish s ((s.enter t).swapEdge n)

/-- OUTPUT_EDGE_PLACE (R107). -/
def execOutputEdgePlace (t : Nat) (n : Fin 64) (s : State) : Answer :=
  finish s ((s.enter t).placeEdge n)

/-- OUT_CFG_WRITE (R127). -/
def execOutCfgWrite (t : Nat) (m : Master) (n : Fin 64) (v : Word) (s : State) : Answer :=
  finish s ((s.enter t).regWrite m .OUTn_CFG n v)

/-- OUT_RATIO_WRITE (R106). -/
def execOutRatioWrite (t : Nat) (m : Master) (n : Fin 64) (r : RatioReg) (v : Word) (s : State) : Answer :=
  finish s ((s.enter t).regWrite m (ratioReg false r) n v)

/-- OUT_SHADOW_RATIO_WRITE (R120). -/
def execOutShadowRatioWrite (t : Nat) (m : Master) (n : Fin 64) (r : RatioReg) (v : Word) (s : State) : Answer :=
  finish s ((s.enter t).regWrite m (ratioReg true r) n v)

/-- OUTPUT_START (R128). -/
def execOutputStart (t : Nat) (n : Fin 64) (s : State) : Answer :=
  let u := s.enter t
  finish s (if u.rd .OUTn_STAT_RUN n = 1 && u.outMayStart n then u.startOutput n else u)

/-- PHASE_COMMIT (R113). -/
def execPhaseCommit (t : Nat) (m : Master) (n : Fin 64) (lo : Word) (s : State) : Answer :=
  finish s ((s.enter t).regWrite m .OUTn_PHASE n lo)

/-- OUT_DELAY_WRITE (R113). -/
def execOutDelayWrite (t : Nat) (m : Master) (n : Fin 64) (v : Word) (s : State) : Answer :=
  finish s ((s.enter t).regWrite m .OUTn_DELAY n v)

/-- OUT_SLEW_WRITE (R115). -/
def execOutSlewWrite (t : Nat) (m : Master) (n : Fin 64) (v : Word) (s : State) : Answer :=
  finish s ((s.enter t).regWrite m .OUTn_SLEW n v)

/-- OUT_HOP (R120). -/
def execOutHop (t : Nat) (m : Master) (n : Fin 64) (sync : Bool) (s : State) : Answer :=
  finish s ((s.enter t).regWrite m .OUTn_CMD n (cmdWord [(.OUTn_CMD_HOP, 1), (.OUTn_CMD_SYNC, sync.toNat)]))

/-- OUT_RESTART (R112). -/
def execOutRestart (t : Nat) (m : Master) (n : Fin 64) (s : State) : Answer :=
  finish s ((s.enter t).regWrite m .OUTn_CMD n (cmdWord [(.OUTn_CMD_RESTART, 1)]))

/-- STOPSLEW (R115). -/
def execStopslew (t : Nat) (m : Master) (n : Fin 64) (s : State) : Answer :=
  finish s ((s.enter t).regWrite m .OUTn_CMD n (cmdWord [(.OUTn_CMD_STOPSLEW, 1)]))

/-- OUT_SRC_PL_WRITE (R125). -/
def execOutSrcPlWrite (t : Nat) (m : Master) (n : Fin 64) (v : Word) (s : State) : Answer :=
  finish s ((s.enter t).regWrite m .OUTn_SRC n v)

/-- OUT_SRC_APLL_WRITE (R125). -/
def execOutSrcApllWrite (t : Nat) (m : Master) (n : Fin 64) (v : Word) (s : State) : Answer :=
  finish s ((s.enter t).regWrite m .OUTn_SRC n v)

/-- EDGEADJ_READ (R119). -/
def execEdgeadjRead (t : Nat) (m : Master) (n : Fin 64) (s : State) : Answer :=
  finish s ((s.enter t).regRead m .OUTn_EDGEADJ n 0)

/-- BANK_SUPPLY_CHANGE (R131). -/
def execBankSupplyChange (t : Nat) (b : Fin 8) (level : Fin 4) (s : State) : Answer :=
  finish s ((s.enter t).bankSupply b level)

/-- BANK_SUPPLY_STABLE (R131). -/
def execBankSupplyStable (t : Nat) (b : Fin 8) (s : State) : Answer :=
  finish s ((s.enter t).bankStable b)

/-- SHED3_STEP (R130). -/
def execShed3Step (t : Nat) (s : State) : Answer :=
  finish s ((s.enter t).shed3Step)

/-- BT_GATE_END (R132). -/
def execBtGateEnd (t : Nat) (b : Fin 8) (err : Int) (miss : Nat) (s : State) : Answer :=
  finish s ((s.enter t).btGateEnd b err miss)

/-- BTSEL_WRITE (R132). -/
def execBtselWrite (t : Nat) (m : Master) (b : Fin 8) (v : Word) (s : State) : Answer :=
  finish s ((s.enter t).regWrite m .OBb_BTSEL b v)

/-- SHEAF_MEMBERS_WRITE (R122). -/
def execSheafMembersWrite (t : Nat) (m : Master) (k : Fin 16) (lo : Word) (s : State) : Answer :=
  finish s ((s.enter t).regWrite m .SHk_MEMBERS k lo)

/-- SHEAF_HOP (R123). -/
def execSheafHop (t : Nat) (m : Master) (k : Fin 16) (sync asap : Bool) (pl : Fin 4) (s : State) : Answer :=
  finish s ((s.enter t).regWrite m .SHk_CMD k (sheafWord 1 sync asap pl))

/-- SHEAF_PHASE (R123). -/
def execSheafPhase (t : Nat) (m : Master) (k : Fin 16) (sync asap : Bool) (pl : Fin 4) (s : State) : Answer :=
  finish s ((s.enter t).regWrite m .SHk_CMD k (sheafWord 2 sync asap pl))

/-- SHEAF_HOP_PHASE (R123). -/
def execSheafHopPhase (t : Nat) (m : Master) (k : Fin 16) (sync asap : Bool) (pl : Fin 4) (s : State) : Answer :=
  finish s ((s.enter t).regWrite m .SHk_CMD k (sheafWord 3 sync asap pl))

/-- SHEAF_CANCEL (R123). -/
def execSheafCancel (t : Nat) (m : Master) (k : Fin 16) (pl : Fin 4) (s : State) : Answer :=
  finish s ((s.enter t).regWrite m .SHk_CMD k (sheafWord 4 false false pl))

/-- SHEAF_FIX (R123). -/
def execSheafFix (t : Nat) (k : Fin 16) (s : State) : Answer :=
  finish s ((s.enter t).fixSheaf k)

/-- SHEAF_PLACE (R412). -/
def execSheafPlace (t : Nat) (k : Fin 16) (s : State) : Answer :=
  finish s ((s.enter t).placeSheaf k)

/-- HOP_EFFECTIVE (R121). -/
def execHopEffective (t : Nat) (h : HopSite) (s : State) : Answer :=
  finish s ((s.enter t).hopAt h)

/-- SHEAF_DONE (R123). -/
def execSheafDone (t : Nat) (k : Fin 16) (s : State) : Answer :=
  finish s ((s.enter t).doneSheaf k)

end Sys2Proof.Machine
end

