-- ==== Sys2Proof/Machine/ExecPlane.lean ====
section
/-!
DEFINITION. The timing planes (R44 to R74).
-/
namespace Sys2Proof.Machine

/-- PLANE_TICK (R44). -/
def execPlaneTick (s : State) : Answer :=
  finish s ((s.enter s.now).doTick)

/-- CORRECTION_IN_FORCE (R108). -/
def execCorrectionInForce (s : State) : Answer :=
  finish s ((s.enter s.now).doForce)

/-- PL_CTRL_WRITE (R53). -/
def execPlCtrlWrite (t : Nat) (m : Master) (p : Fin 4) (v : Word) (s : State) : Answer :=
  finish s ((s.enter t).regWrite m .PLn_CTRL p v)

/-- PL_REFSEL_WRITE (R71). -/
def execPlRefselWrite (t : Nat) (m : Master) (p : Fin 4) (v : Word) (s : State) : Answer :=
  finish s ((s.enter t).regWrite m .PLn_REFSEL p v)

/-- SHADOW_CAND_WRITE (R168). -/
def execShadowCandWrite (t : Nat) (m : Master) (p : Fin 4) (v : Word) (s : State) : Answer :=
  finish s ((s.enter t).regWrite m .PLn_SHADOW_CAND p v)

/-- PBO_WRITE (R72). -/
def execPboWrite (t : Nat) (m : Master) (p : Fin 4) (lo : Word) (s : State) : Answer :=
  finish s ((s.enter t).regWrite m .PLn_PBO p lo)

/-- STEER_COMMIT (R56). -/
def execSteerCommit (t : Nat) (m : Master) (p : Fin 4) (lo : Word) (s : State) : Answer :=
  finish s ((s.enter t).regWrite m .PLn_STEER p lo)

/-- HISTORY_RECORD (R58). -/
def execHistoryRecord (t : Nat) (p : Fin 4) (s : State) : Answer :=
  finish s ((s.enter t).historyRecord p)

/-- GROWTH_SECOND (R61). -/
def execGrowthSecond (t : Nat) (p : Fin 4) (s : State) : Answer :=
  finish s ((s.enter t).growthSecond p)

/-- COMMIT_BEGIN (R67). -/
def execCommitBegin (t : Nat) (m : Master) (p : Fin 4) (pref : Fin 32) (s : State) : Answer :=
  finish s ((s.enter t).regWrite m .PLn_COMMIT p (cmdWord [(.PLn_COMMIT_BEGIN, 1), (.PLn_COMMIT_PREF, pref.val)]))

/-- COMMIT_GO (R67). -/
def execCommitGo (t : Nat) (m : Master) (p : Fin 4) (force : Bool) (s : State) : Answer :=
  let u := s.enter t
  finish s (u.regWrite m .PLn_COMMIT p (cmdWord [(.PLn_COMMIT_GO, 1), (.PLn_COMMIT_FORCE, force.toNat), (.PLn_COMMIT_PREF, u.rd .PLn_COMMIT_PREF p)]))

/-- COMMIT_ABANDON (R71). -/
def execCommitAbandon (t : Nat) (m : Master) (p : Fin 4) (s : State) : Answer :=
  let u := s.enter t
  finish s (u.regWrite m .PLn_COMMIT p (cmdWord [(.PLn_COMMIT_ABANDON, 1), (.PLn_COMMIT_PREF, u.rd .PLn_COMMIT_PREF p)]))

end Sys2Proof.Machine
end

