-- ==== Sys2Proof/Machine/ExecReg.lean ====
section
/-!
DEFINITION. Accesses to registers that have no row of their own (R6, R8, R386).
-/
namespace Sys2Proof.Machine

/-- REGISTER_WRITE (R6). -/
def execRegisterWrite (t : Nat) (m : Master) (addr : Nat) (v : Word) (s : State) : Answer :=
  finish s ((s.enter t).busWrite m addr v)

/-- HI_WRITE_HELD (R8). -/
def execHiWriteHeld (t : Nat) (m : Master) (addr : Nat) (v : Word) (s : State) : Answer :=
  finish s ((s.enter t).busWrite m addr v)

/-- LO_WRITE_COMMIT (R8). -/
def execLoWriteCommit (t : Nat) (m : Master) (addr : Nat) (v : Word) (s : State) : Answer :=
  finish s ((s.enter t).busWrite m addr v)

/-- BURST_PAIR_WRITE (R386). -/
def execBurstPairWrite (t : Nat) (m : Master) (addr : Nat) (lo hi : Word) (s : State) : Answer :=
  finish s ((s.enter t).writeRun m addr [lo, hi])

/-- LO_READ_LATCH (R8). -/
def execLoReadLatch (t : Nat) (m : Master) (addr : Nat) (s : State) : Answer :=
  finish s ((s.enter t).readAt m addr)

end Sys2Proof.Machine
end

