-- ==== Sys2Proof/Machine/ExecTod.lean ====
section
/-!
DEFINITION. Time of day, stamps and the time error bound (R138 to R160).
-/
namespace Sys2Proof.Machine

/-- TOD_SET_TICK (R141). -/
def execTodSetTick (t : Nat) (m : Master) (p : Fin 4) (s : State) : Answer :=
  finish s ((s.enter t).regWrite m .TODp_CMD p 1)

/-- TOD_SET_SEC (R141). -/
def execTodSetSec (t : Nat) (m : Master) (p : Fin 4) (s : State) : Answer :=
  finish s ((s.enter t).regWrite m .TODp_CMD p 2)

/-- TOD_ADJ (R141). -/
def execTodAdj (t : Nat) (m : Master) (p : Fin 4) (s : State) : Answer :=
  finish s ((s.enter t).regWrite m .TODp_CMD p 3)

/-- TOD_STEP_APPLY (R143). -/
def execTodStepApply (t : Nat) (p : Fin 4) (s : State) : Answer :=
  finish s ((s.enter t).todApply p)

/-- SECOND_BOUNDARY (R144). -/
def execSecondBoundary (t : Nat) (p : Fin 4) (s : State) : Answer :=
  finish s ((s.enter t).second p)

/-- STAMP_CAPTURE (R149). -/
def execStampCapture (t : Nat) (j : Fin 16) (s : State) : Answer :=
  let u := s.enter t
  finish s (u.stampCapture j u.now)

/-- STAMP_POP (R150). -/
def execStampPop (t : Nat) (m : Master) (j : Fin 16) (s : State) : Answer :=
  finish s ((s.enter t).regRead m .STAMPj_REC j 0)

/-- STAMP_LOST_READ (R150). -/
def execStampLostRead (t : Nat) (m : Master) (j : Fin 16) (s : State) : Answer :=
  finish s ((s.enter t).regRead m .STAMPj_STAT j 0)

/-- STAMP_CFG_WRITE (R149). -/
def execStampCfgWrite (t : Nat) (m : Master) (j : Fin 16) (v : Word) (s : State) : Answer :=
  finish s ((s.enter t).regWrite m .STAMPj_CFG j v)

/-- STAMP_NOW (R151). -/
def execStampNow (t : Nat) (m : Master) (s : State) : Answer :=
  finish s ((s.enter t).regWrite m .STAMP_NOW 0 1)

/-- TOD_REC_READ (R160). -/
def execTodRecRead (t : Nat) (m : Master) (p : Fin 4) (s : State) : Answer :=
  finish s ((s.enter t).regRead m .TODp_REC p 0)

/-- TEB_TOTAL_READ (R160). -/
def execTebTotalRead (t : Nat) (m : Master) (p : Fin 4) (s : State) : Answer :=
  finish s ((s.enter t).regRead m .TEBp_TOTAL p 0)

end Sys2Proof.Machine
end

