-- ==== Sys2Proof/Machine/TokJobs.lean ====
section
/-!
DEFINITION. The jobs of the token engine (R245 to R251). Each runs on a job that has been admitted and on the keys of
its snapshot, and leaves the result that the completion writes.
-/
namespace Sys2Proof.Machine

/-- A string with the bytes at `off` replaced. -/
def splice (l : List Byte) (off : Nat) (x : List Byte) : List Byte := l.take off ++ x ++ l.drop (off + x.length)

/-- A job that fails with a status and no output. -/
def JobResult.fail (status : Nat) (k : Option CacheEntry) : JobResult :=
  ⟨status, [], 0, (k.map (fun e => e.epoch % 65536)).getD 0, (k.map (·.slot)).getD 0xFF⟩

/-- A job that succeeds with an output. -/
def JobResult.done (out : List Byte) (k : Option CacheEntry) : JobResult :=
  ⟨tkOk, out, out.length, (k.map (fun e => e.epoch % 65536)).getD 0, (k.map (·.slot)).getD 0xFF⟩

/-- A job that has its result. -/
def Job.end_ (j : Job) (r : JobResult) : Job := { j with result := some r }

/-- Runs job `tag` where it is of the kind given and unfinished: what it holds afterwards. An uncorrectable error in job memory
gives ECC, its event flag and FSRC31 (R256, R299). -/
def State.runJob (s : State) (tag : Nat) (kind : Fetched → Bool) (ecc : Bool) (work : Job → State → Job × State) : State :=
  match s.job tag with
  | none => s
  | some j =>
    if j.result.isSome || !kind j.inp then s
    else if ecc then ((s.flag .TOK_EV_ECC 0).raise 31).setJob tag (fun j => j.end_ (.fail tkEcc none))
    else
      let x := work j s
      x.2.setJob tag (fun _ => x.1)

/-- Runs a job whose work comes after its stamp (R242). -/
def State.runStamped (s : State) (tag : Nat) (kind : Fetched → Bool) (ecc : Bool)
    (work : Job → TimeRec × Int → State → JobResult) : State :=
  s.runJob tag kind ecc (fun j s => match j.stamp with
    | some r => (j.end_ (work j r s), s)
    | none => (j, s))

/-- A job of a TYPE. -/
def ofType (t : Nat) (d : Fetched) : Bool := d.type == t

/-- An NTS_RESP job of a MODE (R245). -/
def ofMode (m : Nat) (d : Fetched) : Bool := d.type == 1 && leAt d.desc 32 1 == m

/-! ## NOP and STAMP (R251) -/

def State.jobNop (s : State) (tag : Nat) (ecc : Bool) : State :=
  s.runStamped tag (ofType 0) ecc (fun _ _ _ => .done [] none)

/-- The NTP 64-bit timestamp of a stamp, big-endian, and its leap indicator (R153). -/
def ntpBytes (r : TimeRec × Int) : List Byte × Nat :=
  let x := ntpOf r.1 r.2
  (beBytes 4 x.1 ++ beBytes 4 x.2.1, x.2.2)

/-- The 10-byte PTP Timestamp of a record, big-endian (R153). -/
def ptpBytes (r : TimeRec) : List Byte := beBytes 6 r.sec ++ beBytes 4 r.ns

def State.jobStamp (s : State) (tag : Nat) (ecc : Bool) : State :=
  s.runStamped tag (ofType 5) ecc (fun _ r _ =>
    .done (r.1.bytes ++ (ntpBytes r).1 ++ ptpBytes r.1 ++ List.replicate 6 0) none)

/-! ## AES-GCM (R250) -/

def State.jobGcmSeal (s : State) (tag : Nat) (ecc : Bool) : State :=
  s.runStamped tag (ofType 3) ecc (fun j r s =>
    let d := j.inp
    match s.jobKey j d.kslot with
    | none => .fail tkKeyEmpty none
    | some k =>
      let src := if leAt d.desc 48 1 = 1 then splice d.src (leAt d.desc 52 4) r.1.bytes else d.src
      let n := leAt d.desc 44 4
      let x := gcmSeal k.key (slice d.desc 32 12) (src.take n) (src.drop n)
      .done (src.take n ++ x.1 ++ x.2) (some k))

/-- A tag that does not verify leaves the AAD and zeros in place of the plaintext, and gives GCM_TAG. -/
def State.jobGcmOpen (s : State) (tag : Nat) (ecc : Bool) : State :=
  s.runJob tag (ofType 4) ecc (fun j s =>
    let d := j.inp
    match s.jobKey j d.kslot with
    | none => (j.end_ (.fail tkKeyEmpty none), s)
    | some k =>
      let n := leAt d.desc 44 4
      let len := d.textLen
      let aad := d.src.take n
      let x := gcmOpen k.key (slice d.desc 32 12) aad (slice d.src n len) (d.src.drop (n + len))
      if x.2 then (j.end_ (.done (aad ++ x.1) (some k)), s)
      else (j.end_ { JobResult.done (aad ++ List.replicate len 0) (some k) with status := tkGcmTag }, s))

/-! ## PTP authentication (R249) -/

/-- The tlvType of AUTHENTICATION (PRESUMED IEEE 1588-2019: 0x8009). -/
def tlvAuth : List Byte := [0x80, 0x09]

def State.jobPtp (s : State) (tag : Nat) (ecc : Bool) : State :=
  s.runStamped tag (ofType 2) ecc (fun j r s =>
    let d := j.inp
    match s.jobKey j d.kslot with
    | none => .fail tkKeyEmpty none
    | some k =>
      let icv := leAt d.desc 32 2
      let opts := leAt d.desc 34 1
      let mac := fun (m : List Byte) => (hmac k.key (m.take icv)).take 16
      if opts.testBit 2 then
        if mac d.src == slice d.src icv 16 then .done [] (some k) else .fail tkIcvMismatch (some k)
      else
        let m := if opts.testBit 0 then
            splice d.src (icv - 10) (tlvAuth ++ beBytes 2 22 ++ slice d.desc 35 1 ++ [0] ++ beBytes 4 (leAt d.desc 36 4))
          else d.src
        let m := if opts.testBit 1 then splice m (leAt d.desc 40 2) (ptpBytes r.1) else m
        .done (splice m icv (mac m)) (some k))

/-! ## NTS (R245 to R248) -/

/-- A cookie over C2S and S2C under a cookie key, with a fresh nonce (R246). -/
def State.sealCookie (s : State) (k : CacheEntry) (issued : Nat) (keys : List Byte) : List Byte × State :=
  let n := s.nonce
  let id := keyId k.slot k.epoch
  let plain : List Byte := [1, 0] ++ beBytes 2 15 ++ beBytes 4 (issued % 2 ^ 32) ++ keys
  let x := sivSeal k.cookie [id, n.1] plain
  (id ++ n.1 ++ x.1 ++ x.2, n.2)

/-- `n` cookies. -/
def State.sealCookies (s : State) (k : CacheEntry) (issued : Nat) (keys : List Byte) : Nat → List (List Byte) × State
  | 0 => ([], s)
  | n + 1 =>
    let c := s.sealCookie k issued keys
    let r := c.2.sealCookies k issued keys n
    (c.1 :: r.1, r.2)

/-- Root dispersion of a bound in NTP short format (R247, step 8). -/
def rootDispersion (teb : Nat) : Nat :=
  if teb = 0xFFFFFFFF then 0xFFFFFFFF else min 0xFFFFFFFF ((teb * 65536 + 999999999999) / 1000000000000)

/-- The prefix of a response with its stamp (R247, step 8). -/
def stampPrefix (pre : List Byte) (opts : Nat) (r : TimeRec × Int) : List Byte :=
  let x := ntpBytes r
  let p := splice pre 40 x.1
  let p := if opts.testBit 1 then splice p 0 [BitVec.ofNat 8 ((byteAt p 0).toNat % 64 + x.2 * 64)] else p
  if opts.testBit 0 then splice p 8 (beBytes 4 (rootDispersion r.1.w3.toNat)) else p

/-- Extension field types of NTS (PRESUMED RFC 8915: 0x0204 NTS Cookie, 0x0404 NTS Authenticator and Encrypted Extension
Fields). -/
def efCookie : List Byte := [0x02, 0x04]
def efAuth : List Byte := [0x04, 0x04]

/-- The cookie of a request opened and its keys, or the status it fails with (R247, steps 1 to 6). -/
def State.openRequest (s : State) (j : Job) : Nat ⊕ List Byte :=
  let d := j.inp
  let co := leAt d.desc 34 2
  let au := leAt d.desc 36 2
  if !d.cookieOk then .inl tkNtsParse
  else
    let id := beAt d.src co 4
    -- the snapshot holds the key that KEYID names, at its epoch
    match s.jobKey j (id / 2 ^ 24) with
    | none => .inl tkNtsKeyid
    | some k =>
      if id % 2 ^ 24 ≠ k.epoch % 2 ^ 24 then .inl tkNtsKeyid
      else
        let x := sivOpen k.cookie [slice d.src co 4, slice d.src (co + 4) 16] (slice d.src (co + 20) 16) (slice d.src (co + 36) 72)
        if !x.2 then .inl tkNtsCookieAuth
        else if byteAt x.1 0 != 1 || beAt x.1 2 2 != 15 then .inl tkNtsCookieFmt
        else
          let maxAge := s.rd .TOK_NTS_MAXAGE
          if maxAge ≠ 0 && maxAge < (j.admitSec + 2 ^ 32 - beAt x.1 4 4) % 2 ^ 32 then .inl tkNtsCookieOld
          else
            let nl := beAt d.src (au + 4) 2
            let cl := beAt d.src (au + 6) 2
            let ct := slice d.src (au + 8 + (nl + 3) / 4 * 4) cl
            let y := sivOpen (slice x.1 8 32) [d.src.take au, slice d.src (au + 8) nl] (ct.take 16) (ct.drop 16)
            if cl < 16 || !y.2 then .inl tkNtsReqAuth else .inr (slice x.1 8 64)

/-- The slot that seals fresh cookies: the last of the snapshot, which is CUR at admission. -/
def State.sealKey (s : State) (j : Job) : Option CacheEntry :=
  match j.pins.getLast? with
  | some p => s.jobKey j p.1
  | none => none

/-- RESPOND (R247): its key work, steps 1 to 7; and once it is stamped, steps 8 and 9. -/
def State.jobRespond (s : State) (tag : Nat) (ecc : Bool) : State :=
  s.runJob tag (ofMode 0) ecc (fun j s =>
    let d := j.inp
    match j.work, s.sealKey j with
    | none, sk =>
      match s.openRequest j, sk with
      | .inl st, _ => (j.end_ (.fail st none), s)
      | .inr _, none => (j.end_ (.fail tkKeyEmpty none), s)
      | .inr keys, some k =>
        let c := s.sealCookies k j.admitSec keys (leAt d.desc 33 1)
        ({ j with work := some (keys, c.1) }, c.2)
    | some _, none => (j.end_ (.fail tkKeyEmpty none), s)
    | some (keys, cookies), some k =>
      match j.stamp with
      | none => (j, s)
      | some r =>
        let p := stampPrefix d.pre (leAt d.desc 40 1) r
        let n := s.nonce
        let plain := cookies.flatMap (fun x => efCookie ++ beBytes 2 112 ++ x)
        let x := sivSeal (keys.drop 32) [p, n.1] plain
        let ct := x.1 ++ x.2
        let field := efAuth ++ beBytes 2 (8 + 16 + ct.length) ++ beBytes 2 16 ++ beBytes 2 ct.length ++ n.1 ++ ct
        (j.end_ (.done (p ++ field) (some k)), n.2))

/-- KE (R248). -/
def State.jobKe (s : State) (tag : Nat) (ecc : Bool) : State :=
  s.runJob tag (ofMode 1) ecc (fun j s =>
    let d := j.inp
    if d.src.length ≠ 66 then (j.end_ (.fail tkNtsParse none), s)
    else if beAt d.src 0 2 ≠ 15 then (j.end_ (.fail tkNtsCookieFmt none), s)
    else
      match s.sealKey j with
      | none => (j.end_ (.fail tkKeyEmpty none), s)
      | some k =>
        let c := s.sealCookies k j.admitSec (d.src.drop 2) (leAt d.desc 33 1)
        (j.end_ (.done c.1.flatten (some k)), c.2))

end Sys2Proof.Machine
end

