-- ==== Sys2Proof/Machine/ExecToken.lean ====
section
/-!
DEFINITION. The token engine (R235 to R260).
-/
namespace Sys2Proof.Machine

/-- TOK_SQ_DOORBELL (R236). -/
def execTokSqDoorbell (t : Nat) (m : Master) (q : Fin 4) (v : Word) (s : State) : Answer :=
  finish s ((s.enter t).regWrite m .TOK_SQq_TAIL q v)

/-- TOK_DESC_FETCH (R236). -/
def execTokDescFetch (t : Nat) (q : Fin 4) (desc src pre : List Byte) (ok : Bool) (s : State) : Answer :=
  finish s ((s.enter t).tokFetch q ⟨desc, src, pre, ok⟩)

/-- TOK_ADMIT (R236). -/
def execTokAdmit (t : Nat) (q : Fin 4) (tag : Fin 512) (s : State) : Answer :=
  finish s ((s.enter t).tokAdmit q tag)

/-- NOP (R251). -/
def execNop (t : Nat) (tag : Fin 512) (ecc : Bool) (s : State) : Answer :=
  finish s ((s.enter t).jobNop tag ecc)

/-- NTS_RESPOND (R247). -/
def execNtsRespond (t : Nat) (tag : Fin 512) (ecc : Bool) (s : State) : Answer :=
  finish s ((s.enter t).jobRespond tag ecc)

/-- NTS_KE (R248). -/
def execNtsKe (t : Nat) (tag : Fin 512) (ecc : Bool) (s : State) : Answer :=
  finish s ((s.enter t).jobKe tag ecc)

/-- PTP_AUTH (R249). -/
def execPtpAuth (t : Nat) (tag : Fin 512) (ecc : Bool) (s : State) : Answer :=
  finish s ((s.enter t).jobPtp tag ecc)

/-- GCM_SEAL (R250). -/
def execGcmSeal (t : Nat) (tag : Fin 512) (ecc : Bool) (s : State) : Answer :=
  finish s ((s.enter t).jobGcmSeal tag ecc)

/-- GCM_OPEN (R250). -/
def execGcmOpen (t : Nat) (tag : Fin 512) (ecc : Bool) (s : State) : Answer :=
  finish s ((s.enter t).jobGcmOpen tag ecc)

/-- STAMP (R251). -/
def execStamp (t : Nat) (tag : Fin 512) (ecc : Bool) (s : State) : Answer :=
  finish s ((s.enter t).jobStamp tag ecc)

/-- TOK_STAMP_STAGE (R242). -/
def execTokStampStage (t : Nat) (tag : Fin 512) (s : State) : Answer :=
  finish s ((s.enter t).tokStamp tag)

/-- TOK_COMPLETION_WRITE (R241). -/
def execTokCompletionWrite (t : Nat) (tag : Fin 512) (okOut okCpl : Bool) (s : State) : Answer :=
  finish s ((s.enter t).tokComplete tag okOut okCpl)

/-- TOK_CQ_HEAD_WRITE (R237). -/
def execTokCqHeadWrite (t : Nat) (m : Master) (q : Fin 4) (v : Word) (s : State) : Answer :=
  finish s ((s.enter t).regWrite m .TOK_CQq_HEAD q v)

/-- TOK_CQ_IRQ_TIMER (R238). -/
def execTokCqIrqTimer (t : Nat) (q : Fin 4) (s : State) : Answer :=
  finish s ((s.enter t).cqTimer q)

/-- TOK_SQ_DISABLE (R259). -/
def execTokSqDisable (t : Nat) (m : Master) (q : Fin 4) (v : Word) (s : State) : Answer :=
  finish s ((s.enter t).regWrite m .TOK_SQq_CFG q (withField .TOK_SQq_CFG_EN 0 v))

/-- TOK_CQ_DISABLE (R259). -/
def execTokCqDisable (t : Nat) (m : Master) (q : Fin 4) (v : Word) (s : State) : Answer :=
  finish s ((s.enter t).regWrite m .TOK_CQq_CFG q (withField .TOK_CQq_CFG_EN 0 v))

/-- TOK_NTS_KEYS_WRITE (R254). -/
def execTokNtsKeysWrite (t : Nat) (m : Master) (v : Word) (s : State) : Answer :=
  finish s ((s.enter t).regWrite m .TOK_NTS_KEYS 0 v)

/-- TOK_DVFS_STEP (R258). -/
def execTokDvfsStep (t : Nat) (up : Bool) (s : State) : Answer :=
  finish s ((s.enter t).tokDvfs up)

/-- TOK_ENTROPY_FAIL (R252). -/
def execTokEntropyFail (t : Nat) (s : State) : Answer :=
  finish s ((s.enter t).tokEntropyFail)

/-- TOK_COUNTER_READ (R260). -/
def execTokCounterRead (t : Nat) (m : Master) (c : TokCounter) (s : State) : Answer :=
  finish s ((s.enter t).regRead m (tokCounterReg c) 0 0)

/-- ENTROPY_HEALTH_PASS (R252). -/
def execEntropyHealthPass (t : Nat) (s : State) : Answer :=
  finish s ((s.enter t).entropyPass)

end Sys2Proof.Machine
end

