-- ==== Sys2Proof/Machine/ExecVault.lean ====
section
/-!
DEFINITION. The Granary (R261 to R279).
-/
namespace Sys2Proof.Machine

/-- CAPSULE_SUBMIT (R270). -/
def execCapsuleSubmit (t : Nat) (m : Master) (s : State) : Answer :=
  finish s ((s.enter t).regWrite m .GRN_CAP_CTRL 0 (cmdWord [(.GRN_CAP_CTRL_SUBMIT, 1)]))

/-- CAPSULE_STAGED (R270). -/
def execCapsuleStaged (t : Nat) (s : State) : Answer :=
  let u := s.enter t
  finish s (if u.keeperRuns then u.capVerified else u)

/-- CAPSULE_COMMIT (R271). -/
def execCapsuleCommit (t : Nat) (m : Master) (cut : CommitCut) (s : State) : Answer :=
  finish s ((s.enter t).commitCapsule m cut)

/-- GRN_ZEROISE (R276). -/
def execGrnZeroise (t : Nat) (m : Master) (confirm : Byte) (s : State) : Answer :=
  finish s ((s.enter t).regWrite m .GRN_CTRL 0 (cmdWord [(.GRN_CTRL_ZEROISE, 1), (.GRN_CTRL_CONFIRM, confirm.toNat)]))

/-- GRN_RESEED (R274). -/
def execGrnReseed (t : Nat) (m : Master) (ask : ReseedAsk) (s : State) : Answer :=
  finish s ((s.enter t).reseedBy m ask.confirm ask.steps)

/-- TAMPER_DETECT (R275). -/
def execTamperDetect (t : Nat) (seen : TamperReading) (s : State) : Answer :=
  finish s ((s.enter t).tamperNow seen.sensor seen.value)

/-- TAMPER_SAMPLE (R275). -/
def execTamperSample (t : Nat) (readings : Vector Int 7) (s : State) : Answer :=
  finish s ((s.enter t).tamperSample readings)

/-- VBAT_LOSS (R277). -/
def execVbatLoss (t : Nat) (s : State) : Answer :=
  finish s ((s.enter t).vbatLoss)

end Sys2Proof.Machine
end

