-- ==== Sys2Proof/Machine/ExecYacor.lean ====
section
/-!
DEFINITION. The Yacor engines: instructions, events and control (R161 to R211).
-/
namespace Sys2Proof.Machine

/-- ADD (R195). -/
def execAdd (t : Nat) (e : Fin 4) (rd ra rb : Fin 16) (s : State) : Answer :=
  finish s ((s.enter t).yeInstr e (.add rd ra rb) .none false)

/-- SUB (R195). -/
def execSub (t : Nat) (e : Fin 4) (rd ra rb : Fin 16) (s : State) : Answer :=
  finish s ((s.enter t).yeInstr e (.sub rd ra rb) .none false)

/-- AND (R195). -/
def execAnd (t : Nat) (e : Fin 4) (rd ra rb : Fin 16) (s : State) : Answer :=
  finish s ((s.enter t).yeInstr e (.and_ rd ra rb) .none false)

/-- OR (R195). -/
def execOr (t : Nat) (e : Fin 4) (rd ra rb : Fin 16) (s : State) : Answer :=
  finish s ((s.enter t).yeInstr e (.or_ rd ra rb) .none false)

/-- XOR (R195). -/
def execXor (t : Nat) (e : Fin 4) (rd ra rb : Fin 16) (s : State) : Answer :=
  finish s ((s.enter t).yeInstr e (.xor_ rd ra rb) .none false)

/-- SHL (R195). -/
def execShl (t : Nat) (e : Fin 4) (rd ra rb : Fin 16) (s : State) : Answer :=
  finish s ((s.enter t).yeInstr e (.shl rd ra rb) .none false)

/-- SHR (R195). -/
def execShr (t : Nat) (e : Fin 4) (rd ra rb : Fin 16) (s : State) : Answer :=
  finish s ((s.enter t).yeInstr e (.shr rd ra rb) .none false)

/-- SAR (R195). -/
def execSar (t : Nat) (e : Fin 4) (rd ra rb : Fin 16) (s : State) : Answer :=
  finish s ((s.enter t).yeInstr e (.sar rd ra rb) .none false)

/-- MUL (R195). -/
def execMul (t : Nat) (e : Fin 4) (rd ra rb : Fin 16) (s : State) : Answer :=
  finish s ((s.enter t).yeInstr e (.mul rd ra rb) .none false)

/-- MULH (R195). -/
def execMulh (t : Nat) (e : Fin 4) (rd ra rb : Fin 16) (s : State) : Answer :=
  finish s ((s.enter t).yeInstr e (.mulh rd ra rb) .none false)

/-- SAT (R195). -/
def execSat (t : Nat) (e : Fin 4) (rd ra : Fin 16) (w : Fin 64) (s : State) : Answer :=
  finish s ((s.enter t).yeInstr e (.sat rd ra w) .none false)

/-- ADDI (R195). -/
def execAddi (t : Nat) (e : Fin 4) (rd ra : Fin 16) (imm : Fin 262144) (s : State) : Answer :=
  finish s ((s.enter t).yeInstr e (.addi rd ra imm) .none false)

/-- ANDI (R195). -/
def execAndi (t : Nat) (e : Fin 4) (rd ra : Fin 16) (imm : Fin 262144) (s : State) : Answer :=
  finish s ((s.enter t).yeInstr e (.andi rd ra imm) .none false)

/-- ORI (R195). -/
def execOri (t : Nat) (e : Fin 4) (rd ra : Fin 16) (imm : Fin 262144) (s : State) : Answer :=
  finish s ((s.enter t).yeInstr e (.ori rd ra imm) .none false)

/-- XORI (R195). -/
def execXori (t : Nat) (e : Fin 4) (rd ra : Fin 16) (imm : Fin 262144) (s : State) : Answer :=
  finish s ((s.enter t).yeInstr e (.xori rd ra imm) .none false)

/-- SHLI (R195). -/
def execShli (t : Nat) (e : Fin 4) (rd ra : Fin 16) (n : Fin 64) (s : State) : Answer :=
  finish s ((s.enter t).yeInstr e (.shli rd ra n) .none false)

/-- SHRI (R195). -/
def execShri (t : Nat) (e : Fin 4) (rd ra : Fin 16) (n : Fin 64) (s : State) : Answer :=
  finish s ((s.enter t).yeInstr e (.shri rd ra n) .none false)

/-- SARI (R195). -/
def execSari (t : Nat) (e : Fin 4) (rd ra : Fin 16) (n : Fin 64) (s : State) : Answer :=
  finish s ((s.enter t).yeInstr e (.sari rd ra n) .none false)

/-- LI (R195). -/
def execLi (t : Nat) (e : Fin 4) (rd : Fin 16) (imm : Fin 4194304) (s : State) : Answer :=
  finish s ((s.enter t).yeInstr e (.li rd imm) .none false)

/-- LIS (R195). -/
def execLis (t : Nat) (e : Fin 4) (rd : Fin 16) (imm : Fin 65536) (s : State) : Answer :=
  finish s ((s.enter t).yeInstr e (.lis rd imm) .none false)

/-- CMP (R196). -/
def execCmp (t : Nat) (e : Fin 4) (pd : Fin 4) (cc : Cond) (ra rb : Fin 16) (s : State) : Answer :=
  finish s ((s.enter t).yeInstr e (.cmp pd cc ra rb) .none false)

/-- CMPI (R196). -/
def execCmpi (t : Nat) (e : Fin 4) (pd : Fin 4) (cc : Cond) (ra : Fin 16) (imm : Fin 131072) (s : State) : Answer :=
  finish s ((s.enter t).yeInstr e (.cmpi pd cc ra imm) .none false)

/-- PLOG (R197). -/
def execPlog (t : Nat) (e : Fin 4) (pd pa pb : Fin 4) (fn : PredOp) (s : State) : Answer :=
  finish s ((s.enter t).yeInstr e (.plog pd pa pb fn) .none false)

/-- JMP (R197). -/
def execJmp (t : Nat) (e : Fin 4) (tgt : Fin 4096) (s : State) : Answer :=
  finish s ((s.enter t).yeInstr e (.jmp tgt) .none false)

/-- BT (R197). -/
def execBt (t : Nat) (e : Fin 4) (ps : Fin 4) (tgt : Fin 4096) (s : State) : Answer :=
  finish s ((s.enter t).yeInstr e (.bt ps tgt) .none false)

/-- BF (R197). -/
def execBf (t : Nat) (e : Fin 4) (ps : Fin 4) (tgt : Fin 4096) (s : State) : Answer :=
  finish s ((s.enter t).yeInstr e (.bf ps tgt) .none false)

/-- JAL (R197). -/
def execJal (t : Nat) (e : Fin 4) (rd : Fin 16) (tgt : Fin 4096) (s : State) : Answer :=
  finish s ((s.enter t).yeInstr e (.jal rd tgt) .none false)

/-- JR (R197). -/
def execJr (t : Nat) (e : Fin 4) (ra : Fin 16) (s : State) : Answer :=
  finish s ((s.enter t).yeInstr e (.jr ra) .none false)

/-- LD (R198). -/
def execLd (t : Nat) (e : Fin 4) (rd ra : Fin 16) (ofs : Fin 262144) (ecc : Bool) (s : State) : Answer :=
  finish s ((s.enter t).yeInstr e (.ld rd ra ofs) .none ecc)

/-- ST (R198). -/
def execSt (t : Nat) (e : Fin 4) (rs ra : Fin 16) (ofs : Fin 262144) (s : State) : Answer :=
  finish s ((s.enter t).yeInstr e (.st rs ra ofs) .none false)

/-- RDS (R203). -/
def execRds (t : Nat) (e : Fin 4) (rd : Fin 16) (sel : Fin 8) (s : State) : Answer :=
  finish s ((s.enter t).yeInstr e (.rds rd sel) .none false)

/-- RDD (R199). -/
def execRdd (t : Nat) (e : Fin 4) (rd : Fin 16) (a : DevAddr) (s : State) : Answer :=
  finish s ((s.enter t).yeInstr e (.rdd rd a) .none false)

/-- RDDP (R199). -/
def execRddp (t : Nat) (e : Fin 4) (rd : Fin 16) (a : DevAddr) (s : State) : Answer :=
  finish s ((s.enter t).yeInstr e (.rddp rd a) .none false)

/-- WRD (R199). -/
def execWrd (t : Nat) (e : Fin 4) (rs : Fin 16) (a : DevAddr) (s : State) : Answer :=
  finish s ((s.enter t).yeInstr e (.wrd rs a) .none false)

/-- WRDP (R199). -/
def execWrdp (t : Nat) (e : Fin 4) (rs : Fin 16) (a : DevAddr) (s : State) : Answer :=
  finish s ((s.enter t).yeInstr e (.wrdp rs a) .none false)

/-- WAITEV (R173). -/
def execWaitev (t : Nat) (e : Fin 4) (rd ra tm : Fin 16) (s : State) : Answer :=
  finish s ((s.enter t).yeInstr e (.waitev rd ra tm) .none false)

/-- WAITEV_RELEASE (R173). -/
def execWaitevRelease (t : Nat) (e : Fin 4) (idle : Nat) (s : State) : Answer :=
  finish s ((s.enter t).waitRelease e idle)

/-- EVPOLL (R202). -/
def execEvpoll (t : Nat) (e : Fin 4) (rd ra : Fin 16) (s : State) : Answer :=
  finish s ((s.enter t).yeInstr e (.evpoll rd ra) .none false)

/-- TSET (R203). -/
def execTset (t : Nat) (e : Fin 4) (i : Fin 4) (ra : Fin 16) (s : State) : Answer :=
  finish s ((s.enter t).yeInstr e (.tset i ra) .none false)

/-- TSETP (R203). -/
def execTsetp (t : Nat) (e : Fin 4) (i : Fin 4) (ra : Fin 16) (s : State) : Answer :=
  finish s ((s.enter t).yeInstr e (.tsetp i ra) .none false)

/-- TSTOP (R202). -/
def execTstop (t : Nat) (e : Fin 4) (i : Fin 4) (s : State) : Answer :=
  finish s ((s.enter t).yeInstr e (.tstop i) .none false)

/-- MEAS_STAT (R204). -/
def execMeasStat (t : Nat) (e : Fin 4) (pd : Fin 4) (rd n : Fin 16) (s : State) : Answer :=
  finish s ((s.enter t).yeInstr e (.measStat pd rd n) .none false)

/-- MEAS_FREQ (R204). -/
def execMeasFreq (t : Nat) (e : Fin 4) (rd n : Fin 16) (s : State) : Answer :=
  finish s ((s.enter t).yeInstr e (.measFreq rd n) .none false)

/-- MEAS_RAW (R204). -/
def execMeasRaw (t : Nat) (e : Fin 4) (rd n : Fin 16) (s : State) : Answer :=
  finish s ((s.enter t).yeInstr e (.measRaw rd n) .none false)

/-- MEAS_PHASE (R204). -/
def execMeasPhase (t : Nat) (e : Fin 4) (rd ra n : Fin 16) (s : State) : Answer :=
  finish s ((s.enter t).yeInstr e (.measPhase rd ra n) .none false)

/-- STEER (R205). -/
def execSteer (t : Nat) (e : Fin 4) (p : Fin 4) (ra rb : Fin 16) (s : State) : Answer :=
  finish s ((s.enter t).yeInstr e (.steer p ra rb) .none false)

/-- PHSTEP (R206). -/
def execPhstep (t : Nat) (e : Fin 4) (n : Fin 64) (ra : Fin 16) (s : State) : Answer :=
  finish s ((s.enter t).yeInstr e (.phstep n ra) .none false)

/-- HOP (R207). -/
def execHop (t : Nat) (e : Fin 4) (rd k : Fin 16) (p : Fin 4) (ra rb : Fin 16) (op : HopOp) (sync asap : Bool) (s : State) : Answer :=
  finish s ((s.enter t).yeInstr e (.hop rd k p ra rb op sync asap) .none false)

/-- SELREF (R208). -/
def execSelref (t : Nat) (e : Fin 4) (p : Fin 4) (src : SelSrc) (s : State) : Answer :=
  finish s ((s.enter t).yeInstr e (.selref p src) .none false)

/-- SPEC_BEGIN (R209). -/
def execSpecBegin (t : Nat) (e : Fin 4) (rd : Fin 16) (p : Fin 4) (pref : Fin 32) (s : State) : Answer :=
  finish s ((s.enter t).yeInstr e (.specBegin rd p pref) .none false)

/-- SPEC_COMMIT (R209). -/
def execSpecCommit (t : Nat) (e : Fin 4) (rd : Fin 16) (p : Fin 4) (force : Bool) (s : State) : Answer :=
  finish s ((s.enter t).yeInstr e (.specCommit rd p force) .none false)

/-- SPEC_ABANDON (R209). -/
def execSpecAbandon (t : Nat) (e : Fin 4) (rd : Fin 16) (p : Fin 4) (s : State) : Answer :=
  finish s ((s.enter t).yeInstr e (.specAbandon rd p) .none false)

/-- POST (R210). -/
def execPost (t : Nat) (e : Fin 4) (rd c ra n : Fin 16) (ecc : Bool) (s : State) : Answer :=
  finish s ((s.enter t).yeInstr e (.post rd c ra n) .none ecc)

/-- FETCH (R210). -/
def execFetch (t : Nat) (e : Fin 4) (rd c ra n : Fin 16) (s : State) : Answer :=
  finish s ((s.enter t).yeInstr e (.fetch rd c ra n) .none false)

/-- TNOW (R211). -/
def execTnow (t : Nat) (e : Fin 4) (rd : Fin 16) (p : Fin 4) (ra : Fin 16) (s : State) : Answer :=
  finish s ((s.enter t).yeInstr e (.tnow rd p ra) .none false)

/-- UNDEFINED_ENCODING (R192). -/
def execUndefinedEncoding (t : Nat) (e : Fin 4) (ecc : Bool) (s : State) : Answer :=
  finish s ((s.enter t).undefined e ecc)

/-- WATCHDOG_EXPIRE (R179). -/
def execWatchdogExpire (t : Nat) (e : Fin 4) (s : State) : Answer :=
  finish s ((s.enter t).watchdog e)

/-- TRAP_RESTART (R180). -/
def execTrapRestart (t : Nat) (e : Fin 4) (s : State) : Answer :=
  finish s ((s.enter t).trapRestart e)

/-- RSTCNT_CLEAR (R180). -/
def execRstcntClear (t : Nat) (e : Fin 4) (s : State) : Answer :=
  finish s ((s.enter t).yeRstClear e)

/-- TIMER_EXPIRE (R174). -/
def execTimerExpire (t : Nat) (e i : Fin 4) (s : State) : Answer :=
  finish s ((s.enter t).yeTimer e i)

/-- EVENT_LINE_PULSE (R172). -/
def execEventLinePulse (t : Nat) (line : Fin 64) (s : State) : Answer :=
  finish s ((s.enter t).pulse line)

/-- DEV_ACCESS_OVERRUN (R169). -/
def execDevAccessOverrun (t : Nat) (e : Fin 4) (k : SlotAt) (excess : Nat) (s : State) : Answer :=
  finish s ((s.enter t).yeOverrun e k (.late k.k excess))

/-- DEV_ACCESS_TIMEOUT (R169). -/
def execDevAccessTimeout (t : Nat) (e : Fin 4) (k : SlotAt) (s : State) : Answer :=
  finish s ((s.enter t).yeOverrun e k (.timeout k.k))

/-- YE_START (R181). -/
def execYeStart (t : Nat) (m : Master) (e : Fin 4) (nosleep : Bool) (s : State) : Answer :=
  finish s ((s.enter t).busWrite m (Reg.addr .YEe_CTRL e) (yeWord .YEe_CTRL_START nosleep))

/-- YE_HALT (R181). -/
def execYeHalt (t : Nat) (m : Master) (e : Fin 4) (nosleep : Bool) (s : State) : Answer :=
  finish s ((s.enter t).busWrite m (Reg.addr .YEe_CTRL e) (yeWord .YEe_CTRL_HALT nosleep))

/-- YE_STEP (R181). -/
def execYeStep (t : Nat) (m : Master) (e : Fin 4) (run : StepRun) (s : State) : Answer :=
  finish s ((s.enter t).ctrlWrite m e (yeWord .YEe_CTRL_STEP run.nosleep) run.slots run.ecc)

/-- YE_RESET (R162). -/
def execYeReset (t : Nat) (m : Master) (e : Fin 4) (nosleep : Bool) (s : State) : Answer :=
  finish s ((s.enter t).busWrite m (Reg.addr .YEe_CTRL e) (yeWord .YEe_CTRL_RESET nosleep))

/-- YE_VERIFY (R188). -/
def execYeVerify (t : Nat) (m : Master) (e : Fin 4) (nosleep : Bool) (s : State) : Answer :=
  finish s ((s.enter t).busWrite m (Reg.addr .YEe_CTRL e) (yeWord .YEe_CTRL_VERIFY nosleep))

/-- SIG_VERIFY_DONE (R188). -/
def execSigVerifyDone (t : Nat) (e : Fin 4) (s : State) : Answer :=
  let u := s.enter t
  finish s (if u.keeperRuns then u.yeVerified e else u)

/-- IMEM_WRITE (R164). -/
def execImemWrite (t : Nat) (m : Master) (e : Fin 4) (a : Fin 4096) (v : Word) (s : State) : Answer :=
  finish s ((s.enter t).busWrite m (imemAddr e a) v)

/-- DMEM_MASTER_ACCESS (R164). -/
def execDmemMasterAccess (t : Nat) (m : Master) (e : Fin 4) (a : Fin 1024) (d : DmemAccess) (s : State) : Answer :=
  finish s ((s.enter t).dmemAccess m (dmemAddr e a) d)

/-- YE_REG_WRITE (R183). -/
def execYeRegWrite (t : Nat) (m : Master) (e : Fin 4) (r : YePoke) (s : State) : Answer :=
  finish s ((s.enter t).pokeReg m e r)

/-- YE_SWEV (R171). -/
def execYeSwev (t : Nat) (m : Master) (v : Word) (s : State) : Answer :=
  finish s ((s.enter t).regWrite m .YE_SWEV 0 v)

/-- YE_DETLOSS_READ (R169). -/
def execYeDetlossRead (t : Nat) (m : Master) (e : Fin 4) (s : State) : Answer :=
  finish s ((s.enter t).regRead m .YEe_DETLOSS e 0)

end Sys2Proof.Machine
end

