-- ==== Sys2Proof/Machine/Dispatch.lean ====
section
/-!
DEFINITION. The meaning of each command.
-/
namespace Sys2Proof.Machine

/-- The effect of a command on everything but the queue. -/
def exec (i : Instr) (s : State) : Host.Outcome State Fault Refusal :=
  match i with
  | .registerWrite t m addr v => Sys2Proof.Machine.execRegisterWrite t m addr v s
  | .hiWriteHeld t m addr v => Sys2Proof.Machine.execHiWriteHeld t m addr v s
  | .loWriteCommit t m addr v => Sys2Proof.Machine.execLoWriteCommit t m addr v s
  | .burstPairWrite t m addr lo hi => Sys2Proof.Machine.execBurstPairWrite t m addr lo hi s
  | .loReadLatch t m addr => Sys2Proof.Machine.execLoReadLatch t m addr s
  | .inputEdge t n => Sys2Proof.Machine.execInputEdge t n s
  | .inCfgWrite t m n v => Sys2Proof.Machine.execInCfgWrite t m n v s
  | .reanchor t m n => Sys2Proof.Machine.execReanchor t m n s
  | .inTypeWrite t m n v => Sys2Proof.Machine.execInTypeWrite t m n v s
  | .inDivWrite t m n v => Sys2Proof.Machine.execInDivWrite t m n v s
  | .inNomCommit t m n lo => Sys2Proof.Machine.execInNomCommit t m n lo s
  | .swphaseCommit t m n lo => Sys2Proof.Machine.execSwphaseCommit t m n lo s
  | .measGateEnd t n => Sys2Proof.Machine.execMeasGateEnd t n s
  | .measStatusRead t m r => Sys2Proof.Machine.execMeasStatusRead t m r s
  | .activityTimeout t n => Sys2Proof.Machine.execActivityTimeout t n s
  | .driftObservation t n => Sys2Proof.Machine.execDriftObservation t n s
  | .driftEval t n w => Sys2Proof.Machine.execDriftEval t n w s
  | .holdoffExpire t n => Sys2Proof.Machine.execHoldoffExpire t n s
  | .xoCoarseGate t err => Sys2Proof.Machine.execXoCoarseGate t err s
  | .xoFineGate t err => Sys2Proof.Machine.execXoFineGate t err s
  | .atomEdge t => Sys2Proof.Machine.execAtomEdge t s
  | .atomGateEnd t => Sys2Proof.Machine.execAtomGateEnd t s
  | .atomCfgWrite t m v => Sys2Proof.Machine.execAtomCfgWrite t m v s
  | .atomPresentRise t => Sys2Proof.Machine.execAtomPresentRise t s
  | .atomPresentFall t => Sys2Proof.Machine.execAtomPresentFall t s
  | .planeTick => Sys2Proof.Machine.execPlaneTick s
  | .correctionInForce => Sys2Proof.Machine.execCorrectionInForce s
  | .plCtrlWrite t m p v => Sys2Proof.Machine.execPlCtrlWrite t m p v s
  | .plRefselWrite t m p v => Sys2Proof.Machine.execPlRefselWrite t m p v s
  | .shadowCandWrite t m p v => Sys2Proof.Machine.execShadowCandWrite t m p v s
  | .pboWrite t m p lo => Sys2Proof.Machine.execPboWrite t m p lo s
  | .steerCommit t m p lo => Sys2Proof.Machine.execSteerCommit t m p lo s
  | .historyRecord t p => Sys2Proof.Machine.execHistoryRecord t p s
  | .growthSecond t p => Sys2Proof.Machine.execGrowthSecond t p s
  | .commitBegin t m p pref => Sys2Proof.Machine.execCommitBegin t m p pref s
  | .commitGo t m p force => Sys2Proof.Machine.execCommitGo t m p force s
  | .commitAbandon t m p => Sys2Proof.Machine.execCommitAbandon t m p s
  | .modelLoad t m withClear => Sys2Proof.Machine.execModelLoad t m withClear s
  | .modelClear t m => Sys2Proof.Machine.execModelClear t m s
  | .modelAgeSecond t => Sys2Proof.Machine.execModelAgeSecond t s
  | .xoLoss t => Sys2Proof.Machine.execXoLoss t s
  | .apllEnable t m x v => Sys2Proof.Machine.execApllEnable t m x v s
  | .apllDisable t m x v => Sys2Proof.Machine.execApllDisable t m x v s
  | .apllConfigWrite t m x r v => Sys2Proof.Machine.execApllConfigWrite t m x r v s
  | .apllRelock t m x v => Sys2Proof.Machine.execApllRelock t m x v s
  | .apllBandselDone t x => Sys2Proof.Machine.execApllBandselDone t x s
  | .apllLockAchieved t x => Sys2Proof.Machine.execApllLockAchieved t x s
  | .apllLockTimeout t x => Sys2Proof.Machine.execApllLockTimeout t x s
  | .apllRetry t x => Sys2Proof.Machine.execApllRetry t x s
  | .apllDepart t x errs => Sys2Proof.Machine.execApllDepart t x errs s
  | .apllLockLost t x => Sys2Proof.Machine.execApllLockLost t x s
  | .apllAutoRelock t x => Sys2Proof.Machine.execApllAutoRelock t x s
  | .trimUpdate t x tj seen => Sys2Proof.Machine.execTrimUpdate t x tj seen s
  | .trimTableWrite t m x e v => Sys2Proof.Machine.execTrimTableWrite t m x e v s
  | .xphMeasure t xph => Sys2Proof.Machine.execXphMeasure t xph s
  | .swapEdge t n => Sys2Proof.Machine.execSwapEdge t n s
  | .outputEdgePlace t n => Sys2Proof.Machine.execOutputEdgePlace t n s
  | .outCfgWrite t m n v => Sys2Proof.Machine.execOutCfgWrite t m n v s
  | .outRatioWrite t m n r v => Sys2Proof.Machine.execOutRatioWrite t m n r v s
  | .outShadowRatioWrite t m n r v => Sys2Proof.Machine.execOutShadowRatioWrite t m n r v s
  | .outputStart t n => Sys2Proof.Machine.execOutputStart t n s
  | .phaseCommit t m n lo => Sys2Proof.Machine.execPhaseCommit t m n lo s
  | .outDelayWrite t m n v => Sys2Proof.Machine.execOutDelayWrite t m n v s
  | .outSlewWrite t m n v => Sys2Proof.Machine.execOutSlewWrite t m n v s
  | .outHop t m n sync => Sys2Proof.Machine.execOutHop t m n sync s
  | .outRestart t m n => Sys2Proof.Machine.execOutRestart t m n s
  | .stopslew t m n => Sys2Proof.Machine.execStopslew t m n s
  | .outSrcPlWrite t m n v => Sys2Proof.Machine.execOutSrcPlWrite t m n v s
  | .outSrcApllWrite t m n v => Sys2Proof.Machine.execOutSrcApllWrite t m n v s
  | .edgeadjRead t m n => Sys2Proof.Machine.execEdgeadjRead t m n s
  | .bankSupplyChange t b level => Sys2Proof.Machine.execBankSupplyChange t b level s
  | .bankSupplyStable t b => Sys2Proof.Machine.execBankSupplyStable t b s
  | .shed3Step t => Sys2Proof.Machine.execShed3Step t s
  | .btGateEnd t b err miss => Sys2Proof.Machine.execBtGateEnd t b err miss s
  | .btselWrite t m b v => Sys2Proof.Machine.execBtselWrite t m b v s
  | .sheafMembersWrite t m k lo => Sys2Proof.Machine.execSheafMembersWrite t m k lo s
  | .sheafHop t m k sync asap pl => Sys2Proof.Machine.execSheafHop t m k sync asap pl s
  | .sheafPhase t m k sync asap pl => Sys2Proof.Machine.execSheafPhase t m k sync asap pl s
  | .sheafHopPhase t m k sync asap pl => Sys2Proof.Machine.execSheafHopPhase t m k sync asap pl s
  | .sheafCancel t m k pl => Sys2Proof.Machine.execSheafCancel t m k pl s
  | .sheafFix t k => Sys2Proof.Machine.execSheafFix t k s
  | .sheafPlace t k => Sys2Proof.Machine.execSheafPlace t k s
  | .hopEffective t h => Sys2Proof.Machine.execHopEffective t h s
  | .sheafDone t k => Sys2Proof.Machine.execSheafDone t k s
  | .todSetTick t m p => Sys2Proof.Machine.execTodSetTick t m p s
  | .todSetSec t m p => Sys2Proof.Machine.execTodSetSec t m p s
  | .todAdj t m p => Sys2Proof.Machine.execTodAdj t m p s
  | .todStepApply t p => Sys2Proof.Machine.execTodStepApply t p s
  | .secondBoundary t p => Sys2Proof.Machine.execSecondBoundary t p s
  | .stampCapture t j => Sys2Proof.Machine.execStampCapture t j s
  | .stampPop t m j => Sys2Proof.Machine.execStampPop t m j s
  | .stampLostRead t m j => Sys2Proof.Machine.execStampLostRead t m j s
  | .stampCfgWrite t m j v => Sys2Proof.Machine.execStampCfgWrite t m j v s
  | .stampNow t m => Sys2Proof.Machine.execStampNow t m s
  | .todRecRead t m p => Sys2Proof.Machine.execTodRecRead t m p s
  | .tebTotalRead t m p => Sys2Proof.Machine.execTebTotalRead t m p s
  | .add t e rd ra rb => Sys2Proof.Machine.execAdd t e rd ra rb s
  | .sub t e rd ra rb => Sys2Proof.Machine.execSub t e rd ra rb s
  | .and_ t e rd ra rb => Sys2Proof.Machine.execAnd t e rd ra rb s
  | .or_ t e rd ra rb => Sys2Proof.Machine.execOr t e rd ra rb s
  | .xor_ t e rd ra rb => Sys2Proof.Machine.execXor t e rd ra rb s
  | .shl t e rd ra rb => Sys2Proof.Machine.execShl t e rd ra rb s
  | .shr t e rd ra rb => Sys2Proof.Machine.execShr t e rd ra rb s
  | .sar t e rd ra rb => Sys2Proof.Machine.execSar t e rd ra rb s
  | .mul t e rd ra rb => Sys2Proof.Machine.execMul t e rd ra rb s
  | .mulh t e rd ra rb => Sys2Proof.Machine.execMulh t e rd ra rb s
  | .sat t e rd ra w => Sys2Proof.Machine.execSat t e rd ra w s
  | .addi t e rd ra imm => Sys2Proof.Machine.execAddi t e rd ra imm s
  | .andi t e rd ra imm => Sys2Proof.Machine.execAndi t e rd ra imm s
  | .ori t e rd ra imm => Sys2Proof.Machine.execOri t e rd ra imm s
  | .xori t e rd ra imm => Sys2Proof.Machine.execXori t e rd ra imm s
  | .shli t e rd ra n => Sys2Proof.Machine.execShli t e rd ra n s
  | .shri t e rd ra n => Sys2Proof.Machine.execShri t e rd ra n s
  | .sari t e rd ra n => Sys2Proof.Machine.execSari t e rd ra n s
  | .li t e rd imm => Sys2Proof.Machine.execLi t e rd imm s
  | .lis t e rd imm => Sys2Proof.Machine.execLis t e rd imm s
  | .cmp t e pd cc ra rb => Sys2Proof.Machine.execCmp t e pd cc ra rb s
  | .cmpi t e pd cc ra imm => Sys2Proof.Machine.execCmpi t e pd cc ra imm s
  | .plog t e pd pa pb fn => Sys2Proof.Machine.execPlog t e pd pa pb fn s
  | .jmp t e tgt => Sys2Proof.Machine.execJmp t e tgt s
  | .bt t e ps tgt => Sys2Proof.Machine.execBt t e ps tgt s
  | .bf t e ps tgt => Sys2Proof.Machine.execBf t e ps tgt s
  | .jal t e rd tgt => Sys2Proof.Machine.execJal t e rd tgt s
  | .jr t e ra => Sys2Proof.Machine.execJr t e ra s
  | .ld t e rd ra ofs ecc => Sys2Proof.Machine.execLd t e rd ra ofs ecc s
  | .st t e rs ra ofs => Sys2Proof.Machine.execSt t e rs ra ofs s
  | .rds t e rd sel => Sys2Proof.Machine.execRds t e rd sel s
  | .rdd t e rd a => Sys2Proof.Machine.execRdd t e rd a s
  | .rddp t e rd a => Sys2Proof.Machine.execRddp t e rd a s
  | .wrd t e rs a => Sys2Proof.Machine.execWrd t e rs a s
  | .wrdp t e rs a => Sys2Proof.Machine.execWrdp t e rs a s
  | .waitev t e rd ra tm => Sys2Proof.Machine.execWaitev t e rd ra tm s
  | .waitevRelease t e idle => Sys2Proof.Machine.execWaitevRelease t e idle s
  | .evpoll t e rd ra => Sys2Proof.Machine.execEvpoll t e rd ra s
  | .tset t e ix ra => Sys2Proof.Machine.execTset t e ix ra s
  | .tsetp t e ix ra => Sys2Proof.Machine.execTsetp t e ix ra s
  | .tstop t e ix => Sys2Proof.Machine.execTstop t e ix s
  | .measStat t e pd rd n => Sys2Proof.Machine.execMeasStat t e pd rd n s
  | .measFreq t e rd n => Sys2Proof.Machine.execMeasFreq t e rd n s
  | .measRaw t e rd n => Sys2Proof.Machine.execMeasRaw t e rd n s
  | .measPhase t e rd ra n => Sys2Proof.Machine.execMeasPhase t e rd ra n s
  | .steer t e p ra rb => Sys2Proof.Machine.execSteer t e p ra rb s
  | .phstep t e n ra => Sys2Proof.Machine.execPhstep t e n ra s
  | .hop t e rd k p ra rb op sync asap => Sys2Proof.Machine.execHop t e rd k p ra rb op sync asap s
  | .selref t e p src => Sys2Proof.Machine.execSelref t e p src s
  | .specBegin t e rd p pref => Sys2Proof.Machine.execSpecBegin t e rd p pref s
  | .specCommit t e rd p force => Sys2Proof.Machine.execSpecCommit t e rd p force s
  | .specAbandon t e rd p => Sys2Proof.Machine.execSpecAbandon t e rd p s
  | .post t e rd c ra n ecc => Sys2Proof.Machine.execPost t e rd c ra n ecc s
  | .fetch t e rd c ra n => Sys2Proof.Machine.execFetch t e rd c ra n s
  | .tnow t e rd p ra => Sys2Proof.Machine.execTnow t e rd p ra s
  | .watchdogExpire t e => Sys2Proof.Machine.execWatchdogExpire t e s
  | .trapRestart t e => Sys2Proof.Machine.execTrapRestart t e s
  | .rstcntClear t e => Sys2Proof.Machine.execRstcntClear t e s
  | .timerExpire t e ix => Sys2Proof.Machine.execTimerExpire t e ix s
  | .eventLinePulse t line => Sys2Proof.Machine.execEventLinePulse t line s
  | .devAccessOverrun t e k excess => Sys2Proof.Machine.execDevAccessOverrun t e k excess s
  | .devAccessTimeout t e k => Sys2Proof.Machine.execDevAccessTimeout t e k s
  | .yeStart t m e nosleep => Sys2Proof.Machine.execYeStart t m e nosleep s
  | .yeHalt t m e nosleep => Sys2Proof.Machine.execYeHalt t m e nosleep s
  | .yeStep t m e run => Sys2Proof.Machine.execYeStep t m e run s
  | .yeReset t m e nosleep => Sys2Proof.Machine.execYeReset t m e nosleep s
  | .yeVerify t m e nosleep => Sys2Proof.Machine.execYeVerify t m e nosleep s
  | .sigVerifyDone t e => Sys2Proof.Machine.execSigVerifyDone t e s
  | .imemWrite t m e a v => Sys2Proof.Machine.execImemWrite t m e a v s
  | .dmemMasterAccess t m e a d => Sys2Proof.Machine.execDmemMasterAccess t m e a d s
  | .yeRegWrite t m e r => Sys2Proof.Machine.execYeRegWrite t m e r s
  | .yeSwev t m v => Sys2Proof.Machine.execYeSwev t m v s
  | .yeDetlossRead t m e => Sys2Proof.Machine.execYeDetlossRead t m e s
  | .lzFrameTx t n us => Sys2Proof.Machine.execLzFrameTx t n us s
  | .lzFrameRx t n mark start rest => Sys2Proof.Machine.execLzFrameRx t n mark start rest s
  | .lzAlignFound t n => Sys2Proof.Machine.execLzAlignFound t n s
  | .lzRtdMean t n => Sys2Proof.Machine.execLzRtdMean t n s
  | .lzRxTimeout t n => Sys2Proof.Machine.execLzRxTimeout t n s
  | .lzCfgWrite t m n v => Sys2Proof.Machine.execLzCfgWrite t m n v s
  | .lzAcalGo t m n v => Sys2Proof.Machine.execLzAcalGo t m n v s
  | .lzAcalEnd t n => Sys2Proof.Machine.execLzAcalEnd t n s
  | .lzTakeover t n => Sys2Proof.Machine.execLzTakeover t n s
  | .lzErrcntRead t m n => Sys2Proof.Machine.execLzErrcntRead t m n s
  | .tokSqDoorbell t m q v => Sys2Proof.Machine.execTokSqDoorbell t m q v s
  | .tokDescFetch t q desc src pre ok => Sys2Proof.Machine.execTokDescFetch t q desc src pre ok s
  | .tokAdmit t q tag => Sys2Proof.Machine.execTokAdmit t q tag s
  | .nop t tag ecc => Sys2Proof.Machine.execNop t tag ecc s
  | .ntsRespond t tag ecc => Sys2Proof.Machine.execNtsRespond t tag ecc s
  | .ntsKe t tag ecc => Sys2Proof.Machine.execNtsKe t tag ecc s
  | .ptpAuth t tag ecc => Sys2Proof.Machine.execPtpAuth t tag ecc s
  | .gcmSeal t tag ecc => Sys2Proof.Machine.execGcmSeal t tag ecc s
  | .gcmOpen t tag ecc => Sys2Proof.Machine.execGcmOpen t tag ecc s
  | .stamp t tag ecc => Sys2Proof.Machine.execStamp t tag ecc s
  | .tokStampStage t tag => Sys2Proof.Machine.execTokStampStage t tag s
  | .tokCompletionWrite t tag okOut okCpl => Sys2Proof.Machine.execTokCompletionWrite t tag okOut okCpl s
  | .tokCqHeadWrite t m q v => Sys2Proof.Machine.execTokCqHeadWrite t m q v s
  | .tokCqIrqTimer t q => Sys2Proof.Machine.execTokCqIrqTimer t q s
  | .tokSqDisable t m q v => Sys2Proof.Machine.execTokSqDisable t m q v s
  | .tokCqDisable t m q v => Sys2Proof.Machine.execTokCqDisable t m q v s
  | .tokNtsKeysWrite t m v => Sys2Proof.Machine.execTokNtsKeysWrite t m v s
  | .tokDvfsStep t up => Sys2Proof.Machine.execTokDvfsStep t up s
  | .tokEntropyFail t => Sys2Proof.Machine.execTokEntropyFail t s
  | .tokCounterRead t m c => Sys2Proof.Machine.execTokCounterRead t m c s
  | .capsuleSubmit t m => Sys2Proof.Machine.execCapsuleSubmit t m s
  | .capsuleStaged t => Sys2Proof.Machine.execCapsuleStaged t s
  | .capsuleCommit t m cut => Sys2Proof.Machine.execCapsuleCommit t m cut s
  | .grnZeroise t m confirm => Sys2Proof.Machine.execGrnZeroise t m confirm s
  | .grnReseed t m ask => Sys2Proof.Machine.execGrnReseed t m ask s
  | .tamperDetect t seen => Sys2Proof.Machine.execTamperDetect t seen s
  | .tamperSample t readings => Sys2Proof.Machine.execTamperSample t readings s
  | .mbTxWrite t m n v => Sys2Proof.Machine.execMbTxWrite t m n v s
  | .mbRxRead t m n => Sys2Proof.Machine.execMbRxRead t m n s
  | .mbLockRead t m n => Sys2Proof.Machine.execMbLockRead t m n s
  | .mbLockWrite t m n v => Sys2Proof.Machine.execMbLockWrite t m n v s
  | .mbBindWrite t m n v => Sys2Proof.Machine.execMbBindWrite t m n v s
  | .mbEndrst t m n v => Sys2Proof.Machine.execMbEndrst t m n v s
  | .mbTmoExpire t n ix => Sys2Proof.Machine.execMbTmoExpire t n ix s
  | .version t n => Sys2Proof.Machine.execVersion t n s
  | .getCert t n => Sys2Proof.Machine.execGetCert t n s
  | .attest t n => Sys2Proof.Machine.execAttest t n s
  | .loadYacor t n => Sys2Proof.Machine.execLoadYacor t n s
  | .bootSelect t n => Sys2Proof.Machine.execBootSelect t n s
  | .faultRecord t n record => Sys2Proof.Machine.execFaultRecord t n record s
  | .keeperLoad t n => Sys2Proof.Machine.execKeeperLoad t n s
  | .telemetry t n => Sys2Proof.Machine.execTelemetry t n s
  | .refitNow t n result => Sys2Proof.Machine.execRefitNow t n result s
  | .logRead t n words cursor => Sys2Proof.Machine.execLogRead t n words cursor s
  | .unknownType t n => Sys2Proof.Machine.execUnknownType t n s
  | .flashRead t n => Sys2Proof.Machine.execFlashRead t n s
  | .flashErase t n => Sys2Proof.Machine.execFlashErase t n s
  | .flashWrite t n => Sys2Proof.Machine.execFlashWrite t n s
  | .recoveryReboot t n => Sys2Proof.Machine.execRecoveryReboot t n s
  | .keeperRefit t => Sys2Proof.Machine.execKeeperRefit t s
  | .telemetrySample t tja tjb core dvs ana => Sys2Proof.Machine.execTelemetrySample t tja tjb core dvs ana s
  | .keeperLoadWindow t load => Sys2Proof.Machine.execKeeperLoadWindow t load s
  | .keeperBeat t => Sys2Proof.Machine.execKeeperBeat t s
  | .faultDetect t src inst cap => Sys2Proof.Machine.execFaultDetect t src inst cap s
  | .reactionEnd t src inst => Sys2Proof.Machine.execReactionEnd t src inst s
  | .maskWindowEnd t src inst => Sys2Proof.Machine.execMaskWindowEnd t src inst s
  | .faultGraceExpire t src inj => Sys2Proof.Machine.execFaultGraceExpire t src inj s
  | .faultRecovery t => Sys2Proof.Machine.execFaultRecovery t s
  | .fltAck t m hi v => Sys2Proof.Machine.execFltAck t m hi v s
  | .fltInject t m v => Sys2Proof.Machine.execFltInject t m v s
  | .fltRearm t m => Sys2Proof.Machine.execFltRearm t m s
  | .fltSwraise t m v => Sys2Proof.Machine.execFltSwraise t m v s
  | .aliveToggle t => Sys2Proof.Machine.execAliveToggle t s
  | .coalHoldExpire t src => Sys2Proof.Machine.execCoalHoldExpire t src s
  | .gleanerMove t ok => Sys2Proof.Machine.execGleanerMove t ok s
  | .evrHostIrqTimer t => Sys2Proof.Machine.execEvrHostIrqTimer t s
  | .evrEntryPop t m => Sys2Proof.Machine.execEvrEntryPop t m s
  | .evrCounterRead t m c => Sys2Proof.Machine.execEvrCounterRead t m c s
  | .roscCrosscheck t count => Sys2Proof.Machine.execRoscCrosscheck t count s
  | .roscXoMeasure t a b => Sys2Proof.Machine.execRoscXoMeasure t a b s
  | .monitorWindowEnd t ix ratio => Sys2Proof.Machine.execMonitorWindowEnd t ix ratio s
  | .clkReturn t m v => Sys2Proof.Machine.execClkReturn t m v s
  | .npClockCoast t ix => Sys2Proof.Machine.execNpClockCoast t ix s
  | .npClockRelock t ix => Sys2Proof.Machine.execNpClockRelock t ix s
  | .muxHang t ix => Sys2Proof.Machine.execMuxHang t ix s
  | .gateRequest t ix idle => Sys2Proof.Machine.execGateRequest t ix idle s
  | .gateForce t g => Sys2Proof.Machine.execGateForce t g s
  | .islandWake t ix => Sys2Proof.Machine.execIslandWake t ix s
  | .dvfsRequest t m v => Sys2Proof.Machine.execDvfsRequest t m v s
  | .dvfsDone t tok => Sys2Proof.Machine.execDvfsDone t tok s
  | .powerStateEval t => Sys2Proof.Machine.execPowerStateEval t s
  | .keeperTimerExpire t => Sys2Proof.Machine.execKeeperTimerExpire t s
  | .shedEnter t rail mv => Sys2Proof.Machine.execShedEnter t rail mv s
  | .shedExit t core dvs ana => Sys2Proof.Machine.execShedExit t core dvs ana s
  | .brownOut t rail mv => Sys2Proof.Machine.execBrownOut t rail mv s
  | .gpioInputChange t g level => Sys2Proof.Machine.execGpioInputChange t g level s
  | .calGo t m v => Sys2Proof.Machine.execCalGo t m v s
  | .calAbort t m v => Sys2Proof.Machine.execCalAbort t m v s
  | .calPhaseAEnd t hists => Sys2Proof.Machine.execCalPhaseAEnd t hists s
  | .calPhaseAdvance t d => Sys2Proof.Machine.execCalPhaseAdvance t d s
  | .calRunEnd t => Sys2Proof.Machine.execCalRunEnd t s
  | .calApplyGo t m v => Sys2Proof.Machine.execCalApplyGo t m v s
  | .calRevert t m v => Sys2Proof.Machine.execCalRevert t m v s
  | .calImageWrite t m ix v => Sys2Proof.Machine.execCalImageWrite t m ix v s
  | .suppliesGood t => Sys2Proof.Machine.execSuppliesGood t s
  | .trimLoadDone t otpOk => Sys2Proof.Machine.execTrimLoadDone t otpOk s
  | .bootcfgRead t => Sys2Proof.Machine.execBootcfgRead t s
  | .keeperBoot t readA readB => Sys2Proof.Machine.execKeeperBoot t readA readB s
  | .mainSupplyLoss t => Sys2Proof.Machine.execMainSupplyLoss t s
  | .softResetWarm t m key => Sys2Proof.Machine.execSoftResetWarm t m key s
  | .warmResetRelease t => Sys2Proof.Machine.execWarmResetRelease t s
  | .softResetCold t m key => Sys2Proof.Machine.execSoftResetCold t m key s
  | .softResetRecover t m key => Sys2Proof.Machine.execSoftResetRecover t m key s
  | .hifReset t k => Sys2Proof.Machine.execHifReset t k s
  | .pcieLinkUp t => Sys2Proof.Machine.execPcieLinkUp t s
  | .pcieMemRead t addr n locked => Sys2Proof.Machine.execPcieMemRead t addr n locked s
  | .pcieMemWrite t addr data locked => Sys2Proof.Machine.execPcieMemWrite t addr data locked s
  | .spiRead t addr n ending => Sys2Proof.Machine.execSpiRead t addr n ending s
  | .spiWrite t cmd addr words cut => Sys2Proof.Machine.execSpiWrite t cmd addr words cut s
  | .spiStatus t done => Sys2Proof.Machine.execSpiStatus t done s
  | .msixSend t v => Sys2Proof.Machine.execMsixSend t v s
  | .msixUnmask t m v => Sys2Proof.Machine.execMsixUnmask t m v s
  | .pwrRailMinRead t m rail mv low => Sys2Proof.Machine.execPwrRailMinRead t m rail mv low s
  | .undefinedEncoding t e ecc => Sys2Proof.Machine.execUndefinedEncoding t e ecc s
  | .pcieConfigWrite t busMaster d3 msixOn msixMask => Sys2Proof.Machine.execPcieConfigWrite t busMaster d3 msixOn msixMask s
  | .entropyHealthPass t => Sys2Proof.Machine.execEntropyHealthPass t s
  | .vtMarginRise t x => Sys2Proof.Machine.execVtMarginRise t x s
  | .vbatLoss t => Sys2Proof.Machine.execVbatLoss t s

end Sys2Proof.Machine
end

