-- ==== Sys2Proof/Safety.lean ====
section
/-!
DEFINITION. What a safe step and a sound state are, in the terms that statements use.
-/
namespace Sys2Proof.Machine

/-- The step answers a next state: it neither faults nor refuses. -/
def Answer.isNext (o : Host.Outcome State Fault Refusal) : Prop := ∃ t, o = .next t

/-- A step from the state is safe. -/
def State.Safe (s : State) : Prop := Answer.isNext (step s)

/-- The register answers an access of the master: the part has the master, and the register's island answers (R9, R375). -/
def State.answers (s : State) (m : Master) (r : Reg) : Prop := s.hasMaster m = true ∧ s.reach r = true

/-- The pins show what the state says (R126, R129, R310, R376, R382, R406): FAULT_N, INT_N, every GPIO and every output;
ALIVE is low unless it may run; and configuration space presents the part's identity. -/
def State.PinsAgree (s : State) : Prop :=
  s.pins.faultN = s.faultPin ∧ s.pins.intN = (s.boot.supplies && s.intN) ∧ (∀ g : Fin 16, s.pins.gpio[g] = s.gpioPin g) ∧
    (s.pins.alive = true → s.aliveRuns = true) ∧ (∀ n : Fin 64, s.pins.outs[n] = s.outPad n) ∧ s.pins.pci = s.pciIdentity

/-- The status bits that follow from others (R325, R340): TB_ROSC and the count of shed outputs. -/
def State.StatusAgrees (s : State) : Prop :=
  s.bit .CLK_STAT_TB_ROSC = s.timebaseRosc ∧ s.rd .SHED_STATE_SHED3_CNT = s.shedCount

/-! ## Completion and frames -/

/-- The command answers a next state, of which `post` holds. -/
def Completes (c : Instr) (s : State) (post : State → Prop) : Prop := ∃ u, exec c s = .next u ∧ post u

/-- The register fields by which the device reports: INT_STAT, the event path's counts, the fault collector's record. -/
def Field.signal : Field → Bool
  | .INT_STAT | .EVR_MERGE_ALARM | .EVR_MERGE_LOG | .EVR_DROP_TRACE | .FLT_STATUS | .FLT_CONSEQ | .FLT_INJSTAT
  | .FLT_LEVEL_LEVEL | .FLT_FIRST_SRC | .FLT_FIRST_VALID | .FLT_FIRST_OVF | .FLT_FIRST_INJ | .FLT_CAP_INFO_MASTER
  | .FLT_CAP_INFO_ACCESS | .FLT_CAP_INFO_SRC | .FLT_CAP_INFO_VALID | .FLT_CAP_ADDR | .FLT_CAP_TODw | .FLT_PREV_SRC
  | .FLT_PREV_LEVEL | .FLT_PREV_VALID => true
  | _ => false

/-- The register fields that a frame leaves out: those that report, a calibration image's application (an output that stops takes its
element), the two status fields that follow from others, and the bound, which is unbounded as soon as the timebase runs from ROSC_A
(R325). -/
def Field.settles : Field → Bool
  | .CAL_STATE_APPLY | .CAL_EV_APPLIED | .CLK_STAT_TB_ROSC | .SHED_STATE_SHED3_CNT | .TEBp_TOTAL | .TEBp_EV_OVER
  | .TEBp_EV_UNDER => true
  | f => f.signal

/-- A frame: `u` keeps all that `b` holds but for the fields that `may` names, the fields of `Field.settles` and what goes with them: the
reports, the pins, the calibration elements, the queue. -/
structure State.Keeps (b u : State) (may : Field → Nat → Bool) : Prop where
  rest : u = { b with regs := u.regs, faults := u.faults, events := u.events, evpend := u.evpend, evovf := u.evovf, pulsed := u.pulsed
                      sets := u.sets, wakes := u.wakes, msiDue := u.msiDue, cal := u.cal, pins := u.pins, pending := u.pending }
  regs : ∀ f n, may f n = false → f.settles = false → u.rd f n = b.rd f n

/-! ## What a change of a source's grade may touch -/

/-- The register fields that a plane's reaction writes. -/
def Field.reacts : Field → Bool
  | .PLn_COMMIT_RESULT | .PLn_COMMIT_BUSY | .PLn_EV_REGION_END | .PLn_SHADOW_STAT_READY | .PLn_STATE_SHORT_HIST | .PLn_HO_AGE => true
  | f => f.signal

/-- The fields of a plane's registers that its step at a tick writes, or reads and leaves. -/
def Field.ofPlane : Field → Bool
  | .PLn_CTRL_EN | .PLn_CTRL_MODE | .PLn_REFSEL_SRC | .PLn_REFSEL_KEEP | .PLn_BW | .PLn_LOOP_DAMP | .PLn_LOOP_M | .PLn_LOCK_LTHR
  | .PLn_LOCK_LTIME | .PLn_UNLOCK_UTHR | .PLn_UNLOCK_UCNT | .PLn_PBO | .PLn_RSUM | .PLn_STEER | .PLn_HO_AGE | .PLn_STATE_STATE
  | .PLn_STATE_HIST_VALID | .PLn_STATE_ANCHORED | .PLn_STATE_SHORT_HIST | .PLn_STATE_FMAX_HIT | .PLn_STATE_SLOPE_HIT
  | .PLn_STATE_BW_CLAMP | .PLn_UPD_SEQ | .PLn_UPD_VALID | .PLn_SHADOW_STAT_SRC | .PLn_SHADOW_STAT_READY | .PLn_COMMIT_RESULT
  | .PLn_COMMIT_BUSY | .PLn_EV_STATE_CHG | .PLn_EV_REGION_END | .PLn_EV_RECALL | .PLn_EV_LOCK_LOST | .PLn_EV_LIMIT => true
  | _ => false

/-- The fields of an input's registers. -/
def Field.ofInput : Field → Bool
  | .INn_CFG_EN | .INn_CFG_MODE | .INn_CFG_TERM | .INn_CFG_ACBIAS | .INn_CFG_EDGE | .INn_CFG_VTH | .INn_CFG_GLITCH
  | .INn_CFG_PRED_PL | .INn_CFG_REANCHOR | .INn_TYPE | .INn_DIV | .INn_DELAY | .INn_NOM | .INn_DELAY_UNC | .INn_BOUND
  | .INn_WANDER | .INn_NOISE | .INn_LIMITS_FWIN | .INn_LIMITS_PSTEP | .INn_HOLDOFF | .INn_ACT | .INn_MGATE
  | .INn_MAXAGE | .INn_QUAL_GRADE | .INn_QUAL_FREQ_FAIL | .INn_QUAL_STEP_SUSP | .INn_QUAL_STEP_BAD
  | .INn_QUAL_DRIFT_SUSP | .INn_QUAL_DRIFT_BAD | .INn_QUAL_OVERRATE | .INn_QUAL_RECONFIG | .INn_QUAL_CAL
  | .INn_QUAL_HOLDING | .INn_QUAL_PRED_XO | .INn_QUAL_STEPS | .INn_QUAL_NOM_ZERO | .INn_QUAL_EV | .INn_SCORE_S10
  | .INn_SCORE_S100 | .INn_SCORE_S1000 | .INn_SCORE_RDY | .INn_BASE | .INn_DIVERG_10 | .INn_DIVERG_100
  | .INn_DIVERG_1000 | .INn_MEAS_SEQ | .INn_MEAS_VALID | .INn_MEAS_STALE | .INn_MEAS_FREQ | .INn_MEAS_PHASE
  | .INn_SWPHASE => true
  | _ => false

/-- A frame of input `n`: `u` keeps all that `b` holds but for that input and its registers, and the planes' reactions to its grade
(R65 to R71), which leave their loops and correction words alone. -/
structure State.InputKeeps (b u : State) (n : Fin 16) : Prop where
  rest : u = { b with inputs := u.inputs, regs := u.regs, planes := u.planes, draw := u.draw, faults := u.faults
                      events := u.events, evpend := u.evpend, evovf := u.evovf, pulsed := u.pulsed, sets := u.sets, wakes := u.wakes
                      msiDue := u.msiDue, cal := u.cal, pins := u.pins, pending := u.pending }
  others : ∀ k, k ≠ n → u.inputs[k] = b.inputs[k]
  regs : ∀ f k, f.reacts = false → f.settles = false → f.ofInput = false ∨ k ≠ n.val → u.rd f k = b.rd f k
  loops : ∀ p : Fin 4, (u.planes[p]).i = (b.planes[p]).i ∧ (u.planes[p]).w = (b.planes[p]).w ∧ (u.planes[p]).c = (b.planes[p]).c

/-- The fields of an output's registers. -/
def Field.ofOutput : Field → Bool
  | .OUTn_CFG_EN | .OUTn_CFG_FMT | .OUTn_CFG_EDGE | .OUTn_CFG_DRIVE | .OUTn_CFG_MODE | .OUTn_CFG_START | .OUTn_CFG_SQ
  | .OUTn_CFG_PMODE | .OUTn_CFG_STEPWRAP | .OUTn_CFG_TIMEREF | .OUTn_CFG_POL | .OUTn_SRC_APLL | .OUTn_SRC_PL | .OUTn_INT
  | .OUTn_NUM | .OUTn_DEN | .OUTn_S_INT | .OUTn_S_NUM | .OUTn_S_DEN | .OUTn_PHASE | .OUTn_PHASE_NOW | .OUTn_SLEW
  | .OUTn_STAT_RUN | .OUTn_STAT_EARLY | .OUTn_STAT_SHED | .OUTn_STAT_SLEWING | .OUTn_STAT_CATCHUP | .OUTn_STAT_PEND
  | .OUTn_STAT_NOAPLL | .OUTn_STAT_NOSUPPLY | .OUTn_STAT_CFG_ERR | .OUTn_EV_WERR | .OUTn_EV_SRC_REJ | .OUTn_EV_SRC_DISC
  | .OUTn_EV_HOP_DONE | .OUTn_EV_HOP_FAIL | .OUTn_EV_PHASE_DONE | .OUTn_EV_SQUELCH | .OUTn_EV_START | .OUTn_EDGEADJ => true
  | _ => false

/-- A frame of output `n`: `u` keeps all that `b` holds but for that output and its registers. -/
structure State.OutKeeps (b u : State) (n : Fin 64) : Prop where
  rest : State.Keeps b { u with outs := b.outs } (fun f k => f.ofOutput && k == n.val)
  others : ∀ k, k ≠ n → u.outs[k] = b.outs[k]

/-- The next edge of output `n` may have moved, and with it the end of its last high time and what waits for that (R111); nothing else
of the output has changed. -/
def State.Repredicts (b u : State) (n : Fin 64) : Prop :=
  let w := u.outs[n]
  w = { b.outs[n] with pulses := w.pulses, sqAt := w.sqAt, driverNext := w.driverNext }

/-- The fields of a link's registers. -/
def Field.ofLink : Field → Bool
  | .LZn_CFG_EN | .LZn_CFG_ROLE | .LZn_CFG_PL | .LZn_CFG_TXDRV | .LZn_CFG_RXEQ | .LZn_CFG_ALIVE_SEL | .LZn_STAT_STATE
  | .LZn_STAT_SWAPPED | .LZn_STAT_ACTIVE | .LZn_STAT_PEER_ACTIVE | .LZn_STAT_LOOP | .LZn_STAT_RANGE | .LZn_STAT_PEER_ROLE
  | .LZn_EV_STATE_CHG | .LZn_EV_PEER_STEP | .LZn_EV_ACAL_DONE | .LZn_EV_TAKEOVER | .LZn_ERRCNT | .LZn_RTD | .LZn_RTD_SD
  | .LZn_ASYM | .LZn_ASYM_UNC | .LZn_LINKTERM | .LZn_ACAL_RESULT | .LZn_ACAL_GATE => true
  | _ => false

/-- A frame of link `n`: `u` keeps all that `b` holds but for that link and its registers, what has been sent, and the planes'
reactions to its grade, which leave their loops and correction words alone. -/
structure State.LinkKeeps (b u : State) (n : Fin 4) : Prop where
  rest : u = { b with links := u.links, regs := u.regs, sent := u.sent, planes := u.planes, draw := u.draw, faults := u.faults
                      events := u.events, evpend := u.evpend, evovf := u.evovf, pulsed := u.pulsed, sets := u.sets, wakes := u.wakes
                      msiDue := u.msiDue, cal := u.cal, pins := u.pins, pending := u.pending }
  others : ∀ k, k ≠ n → u.links[k] = b.links[k]
  regs : ∀ f k, f.reacts = false → f.settles = false → f.ofLink = false ∨ k ≠ n.val → u.rd f k = b.rd f k
  loops : ∀ p : Fin 4, (u.planes[p]).i = (b.planes[p]).i ∧ (u.planes[p]).w = (b.planes[p]).w ∧ (u.planes[p]).c = (b.planes[p]).c

/-! ## Requests to the keeper -/

/-- A request with header `h` and payload `p` waits whole at the keeper's end `i` of channel `n`, ahead of the words `more`; the keeper, or with
`mode` 2 the recovery service, runs and owes nothing there, and its outbound queue is empty (R291, R292). -/
structure State.Asks (b : State) (n : Fin 16) (mode : Nat) (i : Fin 2) (h : Word) (p more : List Word) : Prop where
  serves : b.rd .DEV_STATE_KEEPER = mode
  runs : b.mcpRuns = true
  stays : mode = 2 → b.keeper.rebooting = none
  bound : b.mbEndOf n 3 = some i
  free : b.keeper.owed[n] = []
  mail : b.inbound n i = h :: p ++ more
  len : p.length = headerLen h
  request : headerReply h = false
  room : (b.mbox[n].out[i]).words = [] ∧ (b.mbox[n].out[i]).build = [] ∧ (b.mbox[n].out[i]).left = 0 ∧ (b.mbox[n].out[i]).drop = 0

/-- The request has been taken, and `q` is the first part of the reply to it, or with `last` all of it (R284, R292): its words with a reply
header stand in the queue toward the requester. -/
structure State.Replied (b u : State) (n : Fin 16) (i : Fin 2) (h : Word) (more : List Word) (q : List Word) (last : Bool) : Prop where
  taken : u.inbound n i = more
  told : ∃ rest, (u.mbox[n].out[i]).words = stampEpoch (replyHeader h q.length) (b.mbox[n].ends[i]).epoch :: q ++ rest ∧
    (last = true → rest = [] ∧ u.keeper.owed[n] = [])

/-- A frame of a request on channel `n`: `u` keeps all that `b` holds but for that channel and what the keeper owes there. -/
structure State.ServeKeeps (b u : State) (n : Fin 16) (may : Field → Nat → Bool) : Prop where
  rest : State.Keeps b { u with mbox := b.mbox, keeper := { u.keeper with owed := b.keeper.owed } } may
  boxes : ∀ k, k ≠ n → u.mbox[k] = b.mbox[k]
  owed : ∀ k, k ≠ n → u.keeper.owed[k] = b.keeper.owed[k]

/-! ## Registers without a behaviour of their own -/

/-- A register of one word whose write does what its fields' access codes say and nothing else (R6). -/
def Reg.plainWord (r : Reg) : Bool :=
  r.place.shape == .word && (match r with
  | .INn_CFG | .INn_TYPE | .INn_DIV | .ATOM_CFG | .MODEL_CTRL | .MODEL_FITAGE | .PLn_CTRL | .PLn_REFSEL
  | .PLn_SHADOW_CAND | .PLn_COMMIT | .APLLx_CTRL | .APLLx_N | .APLLx_NUM | .APLLx_DEN | .APLLx_GAIN | .APLLx_TAP
  | .OUTn_CFG | .OUTn_SRC | .OUTn_NUM | .OUTn_DEN | .OUTn_S_NUM | .OUTn_S_DEN | .OUTn_SLEW | .OUTn_CMD | .OBb_BTSEL
  | .SHk_CMD | .TODp_CMD | .STAMP_NOW | .STAMPj_CFG | .YEe_PC | .YEe_PRED | .YEe_ENTRY | .YEe_SIGLEN | .YE_SWEV
  | .LZn_CFG | .LZn_ACAL | .LZn_ASYM_UNC | .TOK_CTRL | .TOK_DVFS | .TOK_SQq_CFG | .TOK_SQq_TAIL | .TOK_CQq_CFG
  | .TOK_CQq_HEAD | .GRN_CTRL | .GRN_CAP_CTRL | .GRN_PUB_SEL | .MBn_BIND | .MBn_LOCK | .MBn_TX | .MBn_EV | .MBn_CTRL
  | .MBn_TMO | .MB_KEEPER | .FLT_FIRST | .FLT_INJECT | .FLT_SWRAISE | .EVR_COAL | .EVR_HCFG | .EVR_HHEAD | .CLK_CTRL | .PWR_KTIMER
  | .PWR_MGT_DVFS | .CAL_CTRL | .CAL_APPLY | .SOFT_RESET | .YEe_CTRL | .FLT_LVL => false
  | _ => true)

/-- A writable pair whose commit does what its fields' access codes say and nothing else (R6, R8). -/
def Reg.plainPair (r : Reg) : Bool :=
  r.place.shape == .pair && r.writable && (match r with
  | .INn_NOM | .INn_SWPHASE | .MODEL_Y0 | .MODEL_Y1 | .MODEL_Y2 | .PLn_PBO | .PLn_STEER | .OUTn_INT | .OUTn_S_INT
  | .OUTn_PHASE | .OUTn_TPER | .SHk_MEMBERS | .TOK_SQq_BASE | .TOK_CQq_BASE | .EVR_HBASE | .FLT_ACK => false
  | _ => true)

/-- A pair whose read returns the register and does nothing else, but for the latch of its _HI (R8). -/
def Reg.plainRead (r : Reg) : Bool :=
  r.place.shape == .pair && !r.latched && (match r with
  | .INn_MEAS | .ATOM_MEAS | .PLn_UPD | .OBb_BTMEAS | .LZn_MEAS | .TODp_REC | .TEBp_TOTAL | .STAMPj_REC | .EVR_ENTRY
  | .EVR_STAT | .TOK_STAT | .GRN_IDPUBi | .GRN_PUB_SEL | .GRN_PUB_DATAi | .GRN_CAPWIN | .MBn_LOCK | .MBn_RX
  | .MBn_STAT | .MBn_EV | .MBn_CTRL | .FLT_LVLi | .CAL_IMAGE | .YEe_Gi => false
  | _ => true)

/-- What a field holds after a write of `new` to all of it, by its access code (R6); a lock bit that is set keeps an RWL field, and
a W1C bit of `set`, which hardware set in the cycle of the write, stays (R7). -/
structure Acc.Written (a : Acc) (locked : Bool) (set old new u : Nat) : Prop where
  rw : a = .rw ∨ (a = .rwl ∧ locked = false) → u = new
  kept : a = .ro ∨ a = .wo ∨ a = .rc ∨ a = .view ∨ a = .latched ∨ (a = .rwl ∧ locked = true) → u = old
  w1c : a = .w1c → ∀ k, u.testBit k = (old.testBit k && (!new.testBit k || set.testBit k))
  w1s : a = .w1s → ∀ k, u.testBit k = (old.testBit k || new.testBit k)

/-! ## Faults -/

/-- No calibration image is being applied or withdrawn, and SYS runs from its own source, so that neither an output's stop nor the
end of a command raises a fault of its own (R325, R357, R358). -/
def State.Calm (b : State) : Prop := b.rd .CAL_STATE_APPLY ≠ 1 ∧ b.bitOf .CLK_STAT_FB 0 0 = false

/-- The highest level among the open faults that count toward FLT_LEVEL (R302, R308). -/
def State.topLevel (s : State) : Nat := ((s.faults.open_.filter (fun o => !o.inj || o.lvlact)).map (·.level)).foldl max 0

/-- FLT_LEVEL after a change of the open faults: the highest of them; L4 holds until a recovery (R302, R304). -/
def State.Levelled (b u : State) : Prop :=
  u.rd .FLT_LEVEL_LEVEL = (if b.rd .FLT_LEVEL_LEVEL = 4 then 4 else u.topLevel) % 8

/-- The command touched no fault of the collector. -/
def State.NoFault (b u : State) : Prop := u.faults = b.faults ∧ u.rd .FLT_STATUS = b.rd .FLT_STATUS

/-! ## Yacor instructions -/

/-- The engine is to run `i`: it runs, no breakpoint stands at its PC that is still to halt it, `i` stands there, and `i` meets
no trap (R161, R178, R181). -/
def State.CanRun (b : State) (e : Fin 4) (i : YeInstr) : Prop :=
  b.yeLive e = true ∧ b.breaks e = false ∧ b.atPc e = some i ∧ b.trapOf e i false = none

/-- An engine after an instruction of `n` cycles without a device access: the PC at `pc`. -/
def Engine.went (g : Engine) (pc n : Nat) : Engine := { g with pc := pc, cyc := g.cyc + BitVec.ofNat 64 n }

/-- After a register result: RD, the next word, `n` cycles; RD = G0 discards it (R161). -/
def Engine.result (g : Engine) (rd : Fin 16) (v : DWord) (n : Nat) : Engine := (g.setReg rd v).went (g.pc + 1) n

/-- An enabled breakpoint stands at `pc` (R181). -/
def State.breakAt (b : State) (e : Fin 4) (pc : Nat) : Prop := b.bit .YEe_BKPT_EN e = true ∧ b.rd .YEe_BKPT_PC e = pc

/-- Engine `e` ran one instruction and its engine state is `g`: nothing else changed, but that a STEP or a breakpoint at the
new PC halts it (R181). -/
structure State.Ran (b u : State) (e : Fin 4) (g : Engine) : Prop where
  own : u.engines[e] = { g with wait := (u.engines[e]).wait, stepping := (u.engines[e]).stepping }
  others : ∀ k, k ≠ e → u.engines[k] = b.engines[k]
  on : g.stepping = false → ¬ b.breakAt e g.pc →
    u.engines[e] = g ∧ State.Keeps b { u with engines := b.engines } (fun _ _ => false)
  halts : g.stepping = true ∨ b.breakAt e g.pc → u.yeState e = stHalted ∧ (u.engines[e]).wait = none

/-- Engine `e` is `g` after an instruction whose device accesses left the state `a`, but that a halt may end its step (R181). -/
structure State.Moved (a u : State) (e : Fin 4) (g : Engine) : Prop where
  own : u.engines[e] = { g with wait := (u.engines[e]).wait, stepping := (u.engines[e]).stepping }
  others : ∀ k, k ≠ e → u.engines[k] = a.engines[k]

/-- Nothing halts engine `e` after the instruction at its PC: no STEP is in progress and no breakpoint stands at the next word
(R181). -/
def State.RunsOn (b : State) (e : Fin 4) : Prop :=
  (b.engines[e]).stepping = false ∧ ¬ b.breakAt e ((b.engines[e]).pc + 1)

/-- The word that a master's latch holds for an address, 0 where it has latched none (R8, R27). -/
def State.latched (b : State) (m : Master) (a : Nat) : Word := b.latchGet m a 0

/-- A trap of engine `e` now is followed by a restart (R180): the policy is RESTART, and RSTCNT would not exceed MAXRST within 60 s of the
first counted restart. -/
def State.restarts (b : State) (e : Fin 4) : Prop :=
  b.bit .YEe_TRAPCFG_POLICY e = true ∧ b.rd .YEe_TRAPCFG_MAXRST e ≠ 0 ∧
    (b.rd .YEe_STAT_RSTCNT e + 1 ≤ b.rd .YEe_TRAPCFG_MAXRST e ∨ b.rd .YEe_STAT_RSTCNT e = 0 ∨
      (b.engines[e]).firstRestart + 60000000000000 ≤ b.now)

/-- Engine `e` met the trap `cause`: TRAPPED with its cause and PC recorded, TRAP set, FSRC23 recorded unless masked, no effect of the
instruction, and a restart due 1 ms later where the policy has one (R178, R180). -/
structure State.Trapped (b u : State) (e : Fin 4) (cause : Nat) : Prop where
  state : u.yeState e = stTrapped
  cause : u.rd .YEe_TRAP_CAUSE e = cause
  pc : u.rd .YEe_TRAP_PC e = (b.engines[e]).pc % 4096
  flag : u.bit .YEe_EV_TRAP e = true
  fault : b.records 23 = true → u.bitOf .FLT_STATUS 0 23 = true
  own : u.engines[e] = { b.engines[e] with wait := none, stepping := false, trapAt := b.now
                                           restartAt := (u.engines[e]).restartAt }
  restart : b.restarts e → (u.engines[e]).restartAt = some (b.now + 1000000000)
  stays : ¬ b.restarts e → (u.engines[e]).restartAt = none
  others : ∀ k, k ≠ e → u.engines[k] = b.engines[k]

/-- `f` is `r` after the slot of an access that came in time (R169): CYC counts it, LATE reads 0. -/
structure State.Slotted (r f : State) (e : Fin 4) (slot : Nat) : Prop where
  rest : f = { r with regs := f.regs, engines := f.engines }
  regs : ∀ g n, g ≠ .YEe_STAT_LATE ∨ n ≠ e.val → f.rd g n = r.rd g n
  late : f.bit .YEe_STAT_LATE e = false
  own : f.engines[e] = { r.engines[e] with cyc := (r.engines[e]).cyc + BitVec.ofNat 64 slot }
  others : ∀ k, k ≠ e → f.engines[k] = r.engines[k]

/-- A release of a WAITEV at `now`: the mask's pending lines in RD, each timer of the timer mask moved into its predicate, the next
word (R173); a timer that expired in the same YAC cycle stays pending (R174). -/
structure Engine.Released (g h : Engine) (w : Waiting) (lines : DWord) (now : Nat) : Prop where
  got : h.reg w.rd = if w.rd = 0 then 0 else lines &&& w.mask
  regs : ∀ i, i ≠ w.rd → h.reg i = g.reg i
  preds : ∀ t : Fin 4, h.p[t] = if w.tm.val.testBit t then (g.timers[t]).pend else g.p[t]
  pends : ∀ t : Fin 4, (h.timers[t]).pend =
    ((g.timers[t]).pend && (!w.tm.val.testBit t || decide ((g.timers[t]).pendAt / 4000 = now / 4000)))
  pc : h.pc = g.pc + 1
  dmem : h.dmem = g.dmem

end Sys2Proof.Machine
end

