-- ==== Sys2Proof/Certificates/Slice0/Obligations.lean ====
section
/-!
DEFINITION. The statements for the provers: what each command does, from which states, and what it leaves alone; and what holds of
the machine as a whole. `Piece.…` are the parts of a statement that has several.
-/
open Sys2Proof Sys2Proof.Machine

/-! ## The machine as a whole -/

/-- A step takes the command at the front of the queue and runs it with the rest; with nothing waiting the device idles. The queue is
the model's own (entry 1); every command answers and leaves the queue as it finds it. -/
def Obligations.StepRunsTheFront : Prop :=
  (∀ (s : State) (c : Instr) (rest : List Instr), s.pending = c :: rest → step s = exec c { s with pending := rest }) ∧
  (∀ s : State, s.pending = [] → step s = .next s) ∧
  (∀ (s : State) (c : Instr), ∃ u, exec c s = .next u ∧ u.pending = s.pending)

/-- R6, R310, R366, R371, R384: after power-on reset nothing waits, nothing runs, every field has its Reset column, and the pins follow. -/
def Obligations.ResetState : Prop :=
  State.reset.pending = [] ∧ State.reset.PinsAgree ∧ State.reset.StatusAgrees ∧ State.reset.timebase = false ∧
  (∀ f n, f.reset n < 2 ^ f.info.width → State.reset.rd f n = f.reset n) ∧
  State.reset.rd .FLT_CFG_PIN_LVL = 3 ∧ State.reset.rd .FLT_GRACE = 100 ∧ State.reset.rd .FLT_QUIET = 100 ∧
  State.reset.rd .DEV_STATE_TIMING = 0 ∧ State.reset.rd .INT_EN = 0 ∧ State.reset.rd .FLT_LEVEL_LEVEL = 0 ∧
  State.reset.rd .CAL_CTRL_HITS = 20 ∧ State.reset.rd .CAL_CTRL_MAXDEV = 40 ∧
  (∀ e : Fin 4, State.reset.yeState e = stReset) ∧ (∀ n : Fin 64, State.reset.run n = 0) ∧
  (∀ p : Fin 4, State.reset.rd .PLn_STATE_STATE p = 0) ∧ State.reset.hif.spiHeld = [] ∧ State.reset.hif.ferr = false ∧
  State.reset.hif.up = false

/-- R310, R325, R340, R382, R406: whatever the state, a command leaves the pins, TB_ROSC and the count of shed outputs as the rest of the state has
them; so does a step on an empty queue from a state that has them so. -/
def Obligations.PinsAndStatusFollow : Prop :=
  ∀ s u : State, s.PinsAgree → s.StatusAgrees → step s = .next u → u.PinsAgree ∧ u.StatusAgrees

/-- R192 to R194: decoding the word of a Yacor instruction gives that instruction, with every operand at every value its field holds. -/
def Obligations.YacorDecodeEncode : Prop := ∀ i : YeInstr, yeDecode (yeEncode i) = some i

/-- R192 to R194, R208, R209: words written out from the encoding tables decode to the instructions they stand for, and reserved
operation codes decode to none. -/
def Obligations.YacorWords : Prop :=
  yeDecode 0x4DC0001F = some (.li 7 31) ∧ yeDecode 0x65000011 = some (.bt 1 17) ∧ yeDecode 0x10000000 = some (.or_ 0 0 0) ∧
  yeDecode 0x80414002 = some (.rdd 1 (.abs 0x14002)) ∧ yeDecode 0xB4000007 = some (.selref 0 (.code 7)) ∧
  yeDecode 0xBA000003 = some (.specBegin 8 0 3) ∧ yeDecode 0x91500001 = some (.waitev 5 4 1) ∧
  yeDecode 0x00000000 = none ∧ yeDecode 0xFC000000 = none

/-! ## Registers and the address map -/

/-- R387: every word of every register has its own address, apart from the MSI-X table, the PBA and the engines' memories. -/
def Obligations.AddressMap : Prop :=
  ∀ (r : Reg) (n i : Nat), r ≠ .FLT_LVL → n < r.place.count → i < r.place.shape.words →
    let a := r.addr n + 4 * i
    locate a = some (r, n, i) ∧ a % 4 = 0 ∧ a < 0x400000 ∧ yeMem a = none ∧ inTable a = false ∧ inPba a = false

/-- R6 to R9, R386, R387: a word written to a register without a behaviour of its own acts on each field by its access code; a pair is written
through the holding register of its master or whole in a burst, and read through its latch; a gated register reads zero and takes no write.
A W1C bit that hardware set in the cycle of the write stays (R7). -/
def Obligations.RegisterAccess : Prop :=
  ∀ (s : State) (t : Nat) (m : Master) (r : Reg) (n a : Nat) (v w : Word),
    let b := s.enter t
    let hold := (b.mst m).hold
    let own := fun (u : State) (l : List Field) => State.Keeps b { u with masters := b.masters } (fun f k => l.contains f && k == n)
    let quiet := fun (f : Field) => f.settles = false ∨ (f.signal = true ∧ b.Calm)
    let takes := fun (u : State) (x : Nat) => ∀ f ∈ r.fields, quiet f →
      f.info.acc.Written (b.locked f n) (b.setNow f n) (b.rd f n) (x / 2 ^ f.info.lo % 2 ^ f.info.width) (u.rd f n)
    let others := fun (u : State) => ∀ k, k ≠ m.id → u.masters[k] = b.masters[k]
    (yeMem a = none → inTable a = false → inPba a = false → b.hasMaster m = true →
      (locate a = some (r, n, 0) → a = r.addr n → b.reach r = true →
        (r.plainWord = true → Completes (.registerWrite t m a v) s fun u =>
          takes u v.toNat ∧ u.masters = b.masters ∧ own u r.fields) ∧
        (r.plainPair = true → Completes (.loWriteCommit t m a v) s fun u =>
          takes u (joinPair v hold).toNat ∧ (u.mst m).hold = 0 ∧ others u ∧ own u r.fields) ∧
        (r.plainPair = true → Completes (.burstPairWrite t m a v w) s fun u =>
          takes u (joinPair v w).toNat ∧ u.masters = b.masters ∧ own u r.fields) ∧
        (r.plainRead = true → Completes (.loReadLatch t m a) s fun u =>
          (u.mst m).data = BitVec.ofNat 32 (b.shown r n) ∧
          u.latchGet m (a + 4) 0 = BitVec.ofNat 32 (b.shown r n / 2 ^ 32) ∧ others u ∧ own u [])) ∧
      (∀ c, locate c = some (r, n, 1) → c = r.addr n + 4 → yeMem c = none → inTable c = false → inPba c = false → b.reach r = true →
        (r.place.shape = .pair → r.writable = true → Completes (.hiWriteHeld t m c v) s fun u =>
          (u.mst m).hold = v ∧ others u ∧ own u []) ∧
        (r.plainRead = true → Completes (.loReadLatch t m c) s fun u =>
          (u.mst m).data = b.latchGet m c (BitVec.ofNat 32 (b.shown r n / 2 ^ 32)) ∧ others u ∧ own u [])) ∧
      (∀ i, locate a = some (r, n, i) → b.reach r = false → r ≠ .YEe_CTRL →
        (b.holdsWrite r = false → Completes (.registerWrite t m a v) s fun u => b.Keeps u (fun _ _ => false)) ∧
        (b.holdsWrite r = true → Completes (.registerWrite t m a v) s fun u =>
          u.clk.writes = b.clk.writes ++ [(m.id, r.addr n, v)] ∧ State.Keeps b { u with clk := b.clk } (fun _ _ => false)) ∧
        Completes (.loReadLatch t m a) s (fun u => (u.mst m).data = 0 ∧ own u [])) ∧
      (locate a = none → (Completes (.registerWrite t m a v) s fun u => b.Keeps u (fun _ _ => false)) ∧
        Completes (.loReadLatch t m a) s fun u => (u.mst m).data = 0 ∧ own u [])) ∧
    (b.hasMaster m = false → (Completes (.registerWrite t m a v) s fun u => b.Keeps u (fun _ _ => false)) ∧
      Completes (.loReadLatch t m a) s fun u => (u.mst m).data = 0 ∧ own u [])

/-! ## Inputs, XO and ATOM_IN -/

/-- R20, R21, R25, R30, R33, R357: an edge of a running input is counted, and one that comes too soon is no sample and sets OVERRATE;
otherwise it, like a commit of INn_SWPHASE, is one, kept for the planes but in a calibration run, with its TDC's stamp less
INn_DELAY; under a calibration the stamp lies where the bin's measured edges put it. A frame with both. -/
def Obligations.InputSamples : Prop :=
  ∀ (s : State) (t : Nat) (m : Master) (n : Fin 16) (lo : Word),
    let b := s.enter t
    let x := b.inputs[n]
    let judged := b.inType n ≠ .none ∧ b.bit .INn_QUAL_NOM_ZERO n = false
    let kept := fun (u : State) (y : Sample) => (u.inputs[n]).fresh = if b.bit .INn_QUAL_CAL n = true then x.fresh else y :: x.fresh
    let soon := ∃ p, x.prevEdge = some p ∧ (b.now - p) * 21 < 10000000
    (b.inEnabled n = true → b.inType n ≠ .ptpSw → Completes (.inputEdge t n) s fun u =>
      (u.inputs[n]).ecnt = x.ecnt + 1 ∧ (u.inputs[n]).prevEdge = some b.now ∧
      (soon → u.bit .INn_QUAL_OVERRATE n = true ∧ u.rd .INn_QUAL_GRADE n ≤ 1 ∧ (u.inputs[n]).fresh = x.fresh) ∧
      (judged → (u.inputs[n]).absent = false ∧ (u.inputs[n]).actFrom = b.now) ∧
      (judged → ¬ soon → ∃ y, kept u y ∧ y.time = b.tdcTime n b.now - b.rdI .INn_DELAY n ∧ y.ecnt = x.ecnt + 1 ∧ y.offset = none) ∧
      b.InputKeeps u n) ∧
    (b.inEnabled n = false → Completes (.inputEdge t n) s fun u => b.Keeps u (fun _ _ => false)) ∧
    (b.answers m .INn_SWPHASE → b.inEnabled n = true → b.inType n = .ptpSw → judged →
      Completes (.swphaseCommit t m n lo) s fun u =>
        (u.inputs[n]).ecnt = x.ecnt + 1 ∧ (u.inputs[n]).absent = false ∧ (u.mst m).hold = 0 ∧
        (∃ y p, kept u y ∧ y.offset = some ((joinPair lo (b.mst m).hold).toInt, p)) ∧
        State.InputKeeps b { u with masters := b.masters } n) ∧
    (b.calElem n = .trim → b.tdcTime n t = t) ∧
    (∀ edges off, b.calElem n = .tdc edges off →
      let fine := t % 2000
      let code := Config.tdcCode n fine
      let i := code.1 % 32
      let lower : Rat := if i = 0 then 0 else (edges.getD (i - 1) 0 : Nat)
      let at_ : Rat := (lower + ((edges.getD i 0 : Nat) - lower) * code.2) / 16 - (off : Rat) / 64
      at_ - 1 < (b.tdcTime n t : Rat) - ((t - fine : Nat) : Rat) ∧ (b.tdcTime n t : Rat) - ((t - fine : Nat) : Rat) < at_ + 1)

/-- R24, R32, R35: the writes of INn_CFG, INn_TYPE, INn_DIV and INn_NOM set their fields; a changed MODE, EDGE, type, divider or
nominal frequency restarts qualification; INn_TYPE loads its defaults; REANCHOR clears the scores and moves b_n by the latest d₁₀₀₀ over 1000 s. A frame with each. -/
def Obligations.InputConfiguration : Prop :=
  ∀ (s : State) (t : Nat) (m : Master) (n : Fin 16) (v : Word),
    let b := s.enter t
    let nom := (joinPair v (b.mst m).hold).toNat % 2 ^ Field.INn_NOM.info.width
    let restarted := fun (u : State) => u.bit .INn_QUAL_RECONFIG n = true ∧ u.rd .INn_SCORE_S10 n = 0 ∧
      u.rd .INn_SCORE_S100 n = 0 ∧ u.rd .INn_SCORE_S1000 n = 0 ∧ u.rd .INn_QUAL_GRADE n ≤ 1
    (b.answers m .INn_CFG →
      Completes (.inCfgWrite t m n v) s (fun u =>
        (∀ f, f ∈ Reg.INn_CFG.fields → f ≠ .INn_CFG_REANCHOR → u.rd f n = fieldOf f v) ∧
        (u.rd .INn_CFG_MODE n ≠ b.rd .INn_CFG_MODE n ∨ u.rd .INn_CFG_EDGE n ≠ b.rd .INn_CFG_EDGE n → restarted u) ∧
        (b.inEnabled n = true → u.inEnabled n = false → u.rd .INn_QUAL_GRADE n = 0) ∧ b.InputKeeps u n) ∧
      Completes (.reanchor t m n) s (fun u => u.rd .INn_SCORE_S10 n = 0 ∧ u.rd .INn_SCORE_S100 n = 0 ∧
        u.rd .INn_SCORE_S1000 n = 0 ∧ u.bit .INn_QUAL_DRIFT_BAD n = false ∧ u.bit .INn_QUAL_DRIFT_SUSP n = false ∧
        (b.bitOf .INn_SCORE_RDY n 2 = true → u.rd .INn_DIVERG_1000 n = 0 ∧ u.rd .INn_BASE n =
          fitSigned 2 32 (b.rdI .INn_BASE n + roundFree 3 ((b.inputs[n]).div[2] / 1000 * (2 ^ 48 : Nat) / psPerS))) ∧ b.InputKeeps u n)) ∧
    (b.answers m .INn_TYPE → Completes (.inTypeWrite t m n v) s fun u =>
      u.rd .INn_TYPE n = fieldOf .INn_TYPE v ∧ u.bit .INn_QUAL_OVERRATE n = false ∧
      (u.rd .INn_TYPE n ≠ b.rd .INn_TYPE n → restarted u) ∧
      (let d := (u.rd .INn_LIMITS_FWIN n, u.rd .INn_LIMITS_PSTEP n, u.rd .INn_ACT n, u.rd .INn_HOLDOFF n)
       (fieldOf .INn_TYPE v = 1 → d = (1000, 10000, 1500000, 6000)) ∧ (fieldOf .INn_TYPE v = 2 → d = (100, 1000, 0, 1000)) ∧
       (fieldOf .INn_TYPE v = 3 → d = (920, 1000, 0, 1000)) ∧ (fieldOf .INn_TYPE v = 4 → d = (10000, 10000, 0, 10)) ∧
       (fieldOf .INn_TYPE v = 5 → d = (1000, 10000, 4000000, 6000))) ∧ b.InputKeeps u n) ∧
    (b.answers m .INn_DIV → Completes (.inDivWrite t m n v) s fun u =>
      u.rd .INn_DIV n = fieldOf .INn_DIV v ∧ u.bit .INn_QUAL_OVERRATE n = false ∧
      (u.rd .INn_DIV n ≠ b.rd .INn_DIV n → restarted u) ∧ b.InputKeeps u n) ∧
    (b.answers m .INn_NOM → Completes (.inNomCommit t m n v) s fun u =>
      u.rd .INn_NOM n = nom ∧ (u.mst m).hold = 0 ∧ (nom ≠ b.rd .INn_NOM n → restarted u) ∧
      (u.bit .INn_QUAL_NOM_ZERO n = (b.inEnabled n && b.inType n != .none && nom == 0)) ∧
      State.InputKeeps b { u with masters := b.masters } n)

/-- R27, R28, R30, R31, R36: a gate with two samples forms a result with SEQ one higher, of which T2 judges the frequency; an
interval's samples are averaged into one observation; a silent input becomes ABSENT; the hold-off, uninterrupted, ends at GOOD. -/
def Obligations.InputResultsAndGrades : Prop :=
  ∀ (s : State) (t : Nat) (n : Fin 16) (g h : Nat) (x y : Sample) (px py : Rat),
    let b := s.enter t
    let i := b.inputs[n]
    let win : Rat := (b.rd .INn_LIMITS_FWIN n : Rat) / 100000000
    let off := fun (x y : Sample) (px py : Rat) => (py - px) / (y.pred - x.pred)
    let mean := if i.obsCount = 0 then none else some (i.obsSum / (i.obsCount : Rat))
    (b.inEnabled n = true → b.bit .INn_QUAL_NOM_ZERO n = false → i.gateFrom = some g → i.gateFirst = some (x, px) →
      i.gateLast = some (y, py) → g + b.rd .INn_MGATE n * 1000000000 ≤ b.now → x.ecnt < y.ecnt → x.time < y.time →
      x.pred < y.pred → Completes (.measGateEnd t n) s fun u =>
        u.rd .INn_MEAS_SEQ n = (b.rd .INn_MEAS_SEQ n + 1) % 65536 ∧ u.bit .INn_MEAS_VALID n = true ∧
        (u.inputs[n]).measPhase = y.word ∧ (u.inputs[n]).measFreq = BitVec.ofNat 64 (fitSigned 1 64 (roundFree 2
          (((py - px + (y.pred - x.pred)) / ((y.time : Rat) - x.time) - 1) * (2 ^ 48 : Nat)))) ∧
        (win < ratAbs (off x y px py) → u.bit .INn_QUAL_FREQ_FAIL n = true) ∧
        (ratAbs (off x y px py) < win * 8 / 10 → u.bit .INn_QUAL_FREQ_FAIL n = false) ∧
        (win * 8 / 10 ≤ ratAbs (off x y px py) → ratAbs (off x y px py) ≤ win →
          u.bit .INn_QUAL_FREQ_FAIL n = b.bit .INn_QUAL_FREQ_FAIL n) ∧
        (u.inputs[n]).before = b.inResult n ∧ (u.inputs[n]).measAt = b.now ∧ (u.inputs[n]).gateFrom = some b.now ∧
        (u.inputs[n]).gateFirst = none ∧ b.InputKeeps u n) ∧
    (b.inEnabled n = true → b.inType n ≠ .none → b.bit .INn_QUAL_NOM_ZERO n = false → i.obsFrom + b.obsPs n ≤ b.now →
      Completes (.driftObservation t n) s fun u =>
        (u.inputs[n]).obs = (List.replicate (min 20000 ((b.now - i.obsFrom) / b.obsPs n - 1)) none ++ mean :: i.obs).take 20000 ∧
        (u.inputs[n]).obsCount = 0 ∧ (u.inputs[n]).obsFrom = i.obsFrom + (b.now - i.obsFrom) / b.obsPs n * b.obsPs n ∧
        State.Keeps b { u with inputs := b.inputs } (fun _ _ => false) ∧ ∀ k, k ≠ n → u.inputs[k] = b.inputs[k]) ∧
    (b.inEnabled n = true → b.inType n ≠ .none → b.bit .INn_QUAL_NOM_ZERO n = false →
      (i.actFrom : Rat) + b.actPs n ≤ b.now → Completes (.activityTimeout t n) s fun u =>
        (u.inputs[n]).absent = true ∧ u.rd .INn_QUAL_GRADE n = (if b.bit .INn_QUAL_CAL n = true then 1 else 0) ∧
        u.bit .INn_QUAL_HOLDING n = false ∧ b.InputKeeps u n) ∧
    (i.holdFrom = some h → b.inStanding n = 3 → h + b.rd .INn_HOLDOFF n * 10000000000 ≤ b.now →
      Completes (.holdoffExpire t n) s fun u =>
        u.rd .INn_QUAL_GRADE n = 3 ∧ u.bit .INn_QUAL_HOLDING n = false ∧ u.bit .INn_QUAL_RECONFIG n = false ∧
        (u.inputs[n]).holdFrom = none ∧ b.InputKeeps u n)

/-- R37, with R30's standings and R38's exception: at an evaluation, W / 10 after the one before, the score rises by 2 where the
divergence exceeds the allowance and else falls by 1, never below 0 or above 15, and a window that is not ready counts as
passing. A highest score of 12, or a divergence of four allowances, stands at BAD and one of 6 at SUSPECT; between, the
standing stays; at 0 the test passes. -/
def Obligations.DriftScore : Prop :=
  ∀ (s : State) (t : Nat) (n : Fin 16) (w : DriftWindow),
    let b := s.enter t
    let sc := b.rd (winScore w) n
    let ready := b.winIsReady n w
    let exempt := w = .w1000 ∧ b.assist = false
    let above := fun (u : State) => u.allowance n w < ratAbs (u.divergence n w)
    let far := fun (u : State) => ready = true ∧ ¬ exempt ∧ 4 * u.allowance n w < ratAbs (u.divergence n w)
    let top := fun (u : State) => max (u.rd .INn_SCORE_S10 n) (max (u.rd .INn_SCORE_S100 n) (u.rd .INn_SCORE_S1000 n))
    b.inEnabled n = true → b.inType n ≠ .none → b.bit .INn_QUAL_NOM_ZERO n = false →
    (b.inputs[n]).evalAt[winIdx w] + winSecs w * psPerS / 10 ≤ b.now → Completes (.driftEval t n w) s fun u =>
      u.rd (winScore w) n ≤ 15 ∧ u.bitOf .INn_SCORE_RDY n (winReady w) = ready ∧
      (ready = true → ¬ exempt → u.rd (winScore w) n = if above u then min 15 (sc + 2) else sc - 1) ∧
      (ready = false → u.rd (winScore w) n = sc - 1) ∧ (ready = true → exempt → u.rd (winScore w) n = 0) ∧
      (12 ≤ top u ∨ far u → u.bit .INn_QUAL_DRIFT_BAD n = true) ∧
      (6 ≤ top u → u.bit .INn_QUAL_DRIFT_BAD n = true ∨ u.bit .INn_QUAL_DRIFT_SUSP n = true) ∧
      (0 < top u → top u < 12 → ¬ far u → u.bit .INn_QUAL_DRIFT_BAD n = b.bit .INn_QUAL_DRIFT_BAD n ∧
        (top u < 6 → u.bit .INn_QUAL_DRIFT_SUSP n = b.bit .INn_QUAL_DRIFT_SUSP n)) ∧
      (top u = 0 → u.bit .INn_QUAL_DRIFT_BAD n = false ∧ u.bit .INn_QUAL_DRIFT_SUSP n = false) ∧
      (∀ f, f ∈ [Field.INn_SCORE_S10, .INn_SCORE_S100, .INn_SCORE_S1000] → f ≠ winScore w → u.rd f n = b.rd f n) ∧
      b.InputKeeps u n

/-- R27 to R29, R74, R132, R234: a read of a status register returns SEQ, STALE and VALID and latches that result's data for the reading
master; a result formed in the same SYS cycle is not seen, but the one before it; and a result is stale by its own
block's condition of age or state, and any but a link's in a calibration run. -/
def Piece.MeasurementStatus : Prop :=
  ∀ (s : State) (t : Nat) (m : Master) (r : MeasReg),
    let b := s.enter t
    b.answers m (statusReg r).1 → Completes (.measStatusRead t m r) s fun u =>
      let held := fun (q : Reg) (k : Nat) (v : DWord) =>
        u.latched m (q.addr k) = v.setWidth 32 ∧ u.latched m (q.addr k + 4) = (v >>> 32).setWidth 32
      let seen := fun (last before : Result) => if last.valid && last.at_ / cyclePs == b.now / cyclePs then before else last
      let word := fun (x : Result) (old : Prop) (more : Nat) => ∃ stale : Bool,
        (stale = true ↔ old) ∧
        (u.mst m).data = BitVec.ofNat 32 (x.seq + stale.toNat * 65536 + x.valid.toNat * 131072 + more)
      let run := b.bit .CAL_STATE_RUN = true
      let aged := fun (x : Result) (unit reg dflt : Nat) =>
        run ∨ x.valid = true ∧ (if reg = 0 then dflt else reg) * unit < b.now - x.at_
      State.Keeps b { u with masters := b.masters } (fun _ _ => false) ∧
      (∀ k, k ≠ m → u.mst k = b.mst k) ∧
      match r with
      | .inp n =>
        let i := b.inputs[n]
        let x := seen ⟨b.rd .INn_MEAS_SEQ n, b.bit .INn_MEAS_VALID n, i.measAt, i.measFreq, i.measPhase, 0⟩ i.before
        word x (aged x 1000000000 (b.rd .INn_MAXAGE n) (2 * b.rd .INn_MGATE n)) 0 ∧ held .INn_MEAS_FREQ n x.a ∧
          held .INn_MEAS_PHASE n x.b
      | .atom =>
        let a := b.xo
        let x := seen ⟨b.rd .ATOM_MEAS_SEQ, b.bit .ATOM_MEAS_VALID, a.measAt, a.foff, a.phase, 0⟩ a.before
        word x (aged x psPerS (b.rd .ATOM_MAXAGE) (2 * max 1 (min 10000 (b.rd .ATOM_GATE)))) (b.rd .ATOM_MEAS_PRESENT * 262144) ∧
          held .ATOM_FOFF 0 x.a ∧ held .ATOM_PHASE 0 x.b
      | .plane p =>
        let l := b.planes[p]
        let x := seen ⟨b.rd .PLn_UPD_SEQ p, b.bit .PLn_UPD_VALID p, l.lastUpd, BitVec.ofInt 64 l.c, BitVec.ofInt 64 l.updErr,
          BitVec.ofInt 64 l.updOffset⟩ l.before
        word x (run ∨ 4 * b.updPeriod (srcCode (b.rd .PLn_REFSEL_SRC p)) < ((b.now - l.lastUpd : Nat) : Rat)) 0 ∧
          held .PLn_FREQ p x.a ∧ held .PLn_PHASE_ERR p x.b ∧ held .PLn_SHADOW_OFFSET p x.c
      | .bank k =>
        let d := b.banks[k]
        let x := seen ⟨b.rd .OBb_BTMEAS_SEQ k, b.bit .OBb_BTMEAS_VALID k, d.measAt, d.bterr, BitVec.ofNat 64 d.btmiss, 0⟩ d.before
        word x (run ∨ b.run (b.btOut k) ≠ 2) 0 ∧ held .OBb_BTERR k x.a ∧ u.latched m (Reg.addr .OBb_BTMISS k) = x.b.setWidth 32
      | .link l =>
        let k := b.links[l]
        let x := seen (b.lzResult l) k.before
        word x ((x.valid = true ∧ k.measTick + 4 ≤ b.tick) ∨ b.lz l = lzCal) 0 ∧ held .LZn_OFFSET l x.a ∧
          u.latched m (Reg.addr .LZn_PEER_TEB l) = (k.peer.map (·.teb)).getD 0xFFFFFFFF ∧
          u.latched m (Reg.addr .LZn_PEER_PROV l) = (k.peer.map (·.prov)).getD 0

/-- R28, R39, R40, R76, R78, R84, R357: the qualifications of XO, the edges of ATOM_IN at their TDC's stamps, its gates, its presence and ATOM_CFG. -/
def Piece.XoAndAtom : Prop :=
  ∀ (s : State) (t g k : Nat) (err : Rat) (m : Master) (v : Word),
    let b := s.enter t
    let x := b.xo
    let type := b.rd .ATOM_CFG_TYPE
    let there := b.bit .ATOM_MEAS_PRESENT
    let per : Rat := if type = 3 then 1000000000000 else 1000000000
    let points := x.gateEdges.map (fun e => ((e.1 : Rat) * per, (e.2 : Rat) - (e.1 : Rat) * per))
    let slope := fitSigned 5 64 (roundFree 24 (lsSlope points * (2 ^ 60 : Nat)))
    let pps := ∃ a c l, x.atomTimes = a :: c :: l ∧ 1000000000000 - 10000000 ≤ a - c ∧ a - c ≤ 1000000000000 + 10000000 ∧
      (b.now : Int) - a ≤ 1500000000000
    let mhz := ∃ a c d, x.atomTimes[0]? = some a ∧ x.atomTimes[9]? = some c ∧ x.atomTimes[10]? = some d ∧
      10000000000 - 1000000 ≤ a - d ∧ a - d ≤ 10000000000 + 1000000 ∧ (b.now : Int) - c ≤ 10000000000 + 1000000
    let met := (type = 3 ∧ pps) ∨ (type ≠ 0 ∧ type ≠ 3 ∧ mhz)
    (b.bit .XO_MON_LOST = true → Completes (.xoCoarseGate t err) s fun u =>
      u.rd .XO_STAT_COARSE = (if ratAbs err ≤ 2 / 100 then 1 else 2) ∧
      (2 / 100 < ratAbs err → u.bit .XO_MON_LOST = true) ∧
      (ratAbs err ≤ 2 / 100 → b.timebase = true → u.bit .XO_MON_LOST = false)) ∧
    (b.rd .DEV_STATE_TIMING = 2 → b.timebase = false → b.bit .BOOT_STAT_CFG_VALID = true → ratAbs err ≤ 2 / 100 →
      Completes (.xoCoarseGate t err) s fun u =>
        u.timebase = true ∧ u.tick = 0 ∧ u.tick0 = b.now ∧ (u.rd .DEV_STATE_TIMING = 3 ∨ u.rd .DEV_STATE_TIMING = 4) ∧ u.rd .XO_STAT_COARSE = 1) ∧
    (type ≠ 0 → there = true → x.fineFrom = some k → k + (if type = 3 then 1 else 1000) ≤ x.atomCount →
      Completes (.xoFineGate t err) s fun u =>
        u.rd .XO_STAT_FINE = (if ratAbs err ≤ 1 / 100000 then 1 else 2) ∧
        u.rdI .XO_STAT_FINE_ERR 0 = satSigned 16 (roundFree 22 (err * 100000000)) ∧ u.xo = { x with fineFrom := some x.atomCount } ∧
        State.Keeps b { u with xo := b.xo } (fun f _ => f == .XO_STAT_FINE || f == .XO_STAT_FINE_ERR)) ∧
    (type ≠ 0 → Completes (.atomEdge t) s fun u =>
      let z := b.tdcTime 16 b.now
      u.xo.atomCount = x.atomCount + 1 ∧ u.xo.atomLast = some z ∧
      u.xo.atomFirst = some (x.atomFirst.getD z) ∧ u.xo.atomTimes = (z :: x.atomTimes).take 11 ∧
      (x.fineFrom = none → there = true → u.xo.fineFrom = some (x.atomCount + 1)) ∧
      u.xo.gateEdges = (if x.gateFrom.isSome && !x.gateBroken then (x.atomCount + 1, z) :: x.gateEdges else x.gateEdges) ∧
      State.Keeps b { u with xo := b.xo } (fun _ _ => false)) ∧
    (type ≠ 0 → there = true → x.gateFrom = some g → x.gateBroken = false → 2 ≤ x.gateEdges.length →
      g + x.gateLen * 1000000000000 ≤ b.now → Completes (.atomGateEnd t) s fun u =>
        u.rd .ATOM_MEAS_SEQ = (b.rd .ATOM_MEAS_SEQ + 1) % 65536 ∧ u.bit .ATOM_MEAS_VALID = true ∧
        u.xo.foff = BitVec.ofNat 64 slope ∧ u.xo.phase = BitVec.ofInt 64 b.atomPhase ∧ u.xo.before = b.atomResult ∧
        u.xo.gateFrom = some b.now ∧ u.xo.gateEdges = [] ∧ u.xo.measAt = b.now ∧
        u.xo.measMid = g + x.gateLen * 1000000000000 / 2 ∧
        u.keeper.series = (if b.rd .DEV_STATE_KEEPER = 1 ∧ b.rd .XO_STAT_FINE = 1 ∧ b.bit .CAL_STATE_RUN = false
          then (u.xo.measMid, toSigned 64 slope, x.gateLen) :: b.keeper.series else b.keeper.series) ∧
        State.Keeps b { u with xo := b.xo, keeper := { u.keeper with series := b.keeper.series } }
          (fun f _ => f == .ATOM_MEAS_SEQ || f == .ATOM_MEAS_VALID)) ∧
    (x.gateFrom = some g → type ≠ 0 → g + x.gateLen * 1000000000000 ≤ b.now → (x.gateBroken = true ∨ there = false) →
      Completes (.atomGateEnd t) s fun u => u.xo = { x with gateBroken := true } ∧
        State.Keeps b { u with xo := b.xo } (fun _ _ => false)) ∧
    (b.answers m .ATOM_CFG → Completes (.atomCfgWrite t m v) s fun u =>
      (∀ f, f ∈ Reg.ATOM_CFG.fields → u.rd f = fieldOf f v) ∧
      (fieldOf .ATOM_CFG_TYPE v ≠ type → u.xo.atomCount = 0 ∧ u.xo.atomTimes = [] ∧ u.xo.gateEdges = [] ∧
        u.bit .ATOM_MEAS_PRESENT = false ∧ u.bit .ATOM_MEAS_VALID = false ∧
        u.xo.gateFrom = (if fieldOf .ATOM_CFG_TYPE v = 0 then none else some b.now) ∧
        (fieldOf .ATOM_CFG_TYPE v = 0 → u.rd .XO_STAT_FINE = 0)) ∧
      (fieldOf .ATOM_CFG_TYPE v = type → u.xo = x ∧ u.bit .ATOM_MEAS_PRESENT = there)) ∧
    (met → there = false → Completes (.atomPresentRise t) s fun u =>
      u.bit .ATOM_MEAS_PRESENT = true ∧ (∀ k : Fin 4, (u.evpend[k]).getLsbD 51 = true) ∧
      (x.gateBroken = true → u.xo.gateFrom = some b.now ∧ u.xo.gateBroken = false)) ∧
    (there = true → ¬ met → Completes (.atomPresentFall t) s fun u =>
      u.bit .ATOM_MEAS_PRESENT = false ∧ (∀ k : Fin 4, (u.evpend[k]).getLsbD 51 = true) ∧ u.xo.gateBroken = true ∧
      u.xo.fineFrom = none ∧ (b.records 1 = true → u.bitOf .FLT_STATUS 0 1 = true))

/-- Measurement status reads, XO qualification and ATOM_IN: every part holds. -/
def Obligations.MeasurementsXoAndAtom : Prop := Piece.MeasurementStatus ∧ Piece.XoAndAtom

/-! ## Timing planes -/

/-- R44, R56, R139, R154, R156: a tick counts, uses up the fresh samples, holds a disabled plane in FREERUN, and forms each bound as the
saturating sum of its seven terms, unbounded in FREERUN, while XO is lost or while the timebase runs from ROSC_A; each plane takes its
own step of `State.planeStep`, of which the next parts speak; 160 ns later the tick's words come into force at the TODs, whose earlier readings stand for the instants before. -/
def Piece.PlaneTick : Prop :=
  ∀ (s : State) (p : Fin 4),
    let b := s.enter s.now
    let at_ := b.tick0 + b.tick * 8000000 + 160000
    let rosc := fun (u : State) => b.bit .CLK_STAT_TB_ROSC = true ∨ u.bit .CLK_STAT_TB_ROSC = true
    let begun : State := { b with tick := b.tick + 1, due := true, now := max b.now (b.tick0 + (b.tick + 1) * 8000000) }
    let stepped := fun (k : Nat) => ((List.finRange 4).take k).foldl State.planeStep (begun.tickPosts.forAll 4 State.linkTick).modelTick
    (b.timebase = true → Completes .planeTick s fun u =>
      u.tick = b.tick + 1 ∧ u.now = max b.now (b.tick0 + (b.tick + 1) * 8000000) ∧ u.due = true ∧
      (∀ n : Fin 16, (u.inputs[n]).fresh = []) ∧ u.xo.fresh = [] ∧ (∀ n : Fin 4, (u.links[n]).fresh = []) ∧
      (b.bit .PLn_CTRL_EN p = false → u.rd .PLn_STATE_STATE p = 0) ∧
      (∀ q : Fin 4, u.planes[q] = { ((stepped q).planeStep q).planes[q] with
          terms := (u.planes[q]).terms, prov := (u.planes[q]).prov, floorD := (u.planes[q]).floorD } ∧
        ∀ f, f.ofPlane = true → u.rd f q = ((stepped q).planeStep q).rd f q) ∧
      (u.rd .PLn_STATE_STATE p = 0 ∨ b.bit .XO_MON_LOST = true ∨ rosc u →
        u.rd .TEBp_TOTAL p = 0xFFFFFFFF) ∧
      (u.rd .PLn_STATE_STATE p ≠ 0 → b.bit .XO_MON_LOST = false → ¬ rosc u →
        (∀ r i l w g c o, (u.planes[p]).terms = ⟨.ps r, .ps i, .ps l, .ps w, .ps g, .ps c, .ps o⟩ →
          u.rd .TEBp_TOTAL p = min (r + i + l + w + g + c + o) 0xFFFFFFFE) ∧
        ((u.planes[p]).terms.ref = .unbounded ∨ (u.planes[p]).terms.grow = .unbounded ∨ (u.planes[p]).terms.cal = .unbounded →
          u.rd .TEBp_TOTAL p = 0xFFFFFFFF))) ∧
    (b.timebase = true → b.due = true → Completes .correctionInForce s fun u =>
      u.due = false ∧ u.now = max b.now at_ ∧
      ∀ q : Fin 4, (u.tods[q]).word = (b.planes[q]).sent ∧ (u.tods[q]).since = max at_ (b.tods[q]).since ∧
        (u.tods[q]).base = (b.tods[q]).readAt ((max at_ (b.tods[q]).since : Nat) : Rat) ∧
        (u.tods[q]).past = (((b.tods[q]).since, (b.tods[q]).base, (b.tods[q]).word) :: (b.tods[q]).past).take 15 ∧
        (u.planes[q]).c = (b.planes[q]).c) ∧
    (b.timebase = false → Completes .planeTick s fun u => b.Keeps u (fun _ _ => false)) ∧
    (b.timebase = false ∨ b.due = false → Completes .correctionInForce s fun u => b.Keeps u (fun _ _ => false))

/-- R45, R48, R56, R59: the loop's update moves i, v, w and c, and stands still where a limit acts; the holdover word follows the history value,
the model's change since the entry and the rounding carried; the word of STEERED is PLn_STEER within the limits. -/
def Piece.PlaneLoop : Prop :=
  ∀ (b : State) (p : Fin 4) (c : Nat) (e : Rat),
    let x := b.planes[p]
    let fm : Int := ((b.rd .PLn_FMAX p : Rat) / 100000000 * (2 ^ 48 : Nat)).floor
    let sl : Int := ((b.rd .PLn_SLOPE p : Rat) / 100000000000 * (2 ^ 48 : Nat)).floor
    let inBand := fun (n : Int) => max (-fm) (min fm n)
    let word := fun (n : Int) => if b.rd .PLn_SLOPE p = 0 then inBand n else max (x.cEntry - sl) (min (x.cEntry + sl) (inBand n))
    let near := fun (n : Int) (y : Rat) => 2 * ((n : Rat) - y) ≤ 1 ∧ 2 * (y - (n : Rat)) ≤ 1
    let only := fun (u : State) (l : List Field) => (∀ q, q ≠ p → u.planes[q] = b.planes[q]) ∧
      State.Keeps b { u with planes := b.planes } (fun f k => k == p.val && (l.contains f))
    let flags := fun (u : State) (n : Int) => u.bit .PLn_STATE_FMAX_HIT p = decide (inBand n ≠ n) ∧
      u.bit .PLn_STATE_SLOPE_HIT p = decide (word n ≠ inBand n)
    let bw := b.clampBw c (b.rd .PLn_BW p)
    let k := loopCoeffs bw.1 (b.rd .PLn_LOOP_DAMP p) (b.rd .PLn_LOOP_M p) (b.updPeriod c / 1000000000000)
    let i := x.i + k.2.1 * (e / 1000000000000)
    let v := i + k.1 * (e / 1000000000000)
    let w := x.w + k.2.2 * (v - x.w)
    let n := roundNearest 7 (w * (2 ^ 48 : Nat))
    let free := inBand n = n ∧ word n = n
    let u := b.loopUpdate p c e
    let y := (u.planes[p])
    let ho := x.growth.cHist - (b.xo.y - x.growth.yEntry) * (2 ^ 48 : Nat) + x.carry
    let m := roundNearest 10 ho
    let h := b.holdWord p
    let st := b.putWord p (toSigned 48 (b.rd .PLn_STEER p))
    (near n (w * (2 ^ 48 : Nat)) ∧ y.c = word n ∧ flags u n ∧
      y.i = (if free then i else x.i) ∧ y.w = (if free then w else (y.c : Rat) / (2 ^ 48 : Nat)) ∧
      y.errs = (e :: x.errs).take 64 ∧ y.lastUpd = b.now ∧ u.bit .PLn_STATE_BW_CLAMP p = bw.2 ∧
      u.bit .PLn_UPD_VALID p = true ∧ u.rd .PLn_UPD_SEQ p = (b.rd .PLn_UPD_SEQ p + 1) % 2 ^ Field.PLn_UPD_SEQ.info.width ∧
      only u [.PLn_STATE_BW_CLAMP, .PLn_STATE_FMAX_HIT, .PLn_STATE_SLOPE_HIT, .PLn_EV_LIMIT, .PLn_UPD_SEQ, .PLn_UPD_VALID]) ∧
    (near m ho ∧ (h.planes[p]).c = word m ∧ (h.planes[p]).carry = ho - m ∧ flags h m ∧
      only h [.PLn_STATE_FMAX_HIT, .PLn_STATE_SLOPE_HIT, .PLn_EV_LIMIT]) ∧
    ((st.1.planes[p]).c = word (b.rdI .PLn_STEER p) ∧ flags st.1 (b.rdI .PLn_STEER p) ∧
      only st.1 [.PLn_STATE_FMAX_HIT, .PLn_STATE_SLOPE_HIT, .PLn_EV_LIMIT])

/-- R50, R53 to R56, R68, R70: a plane's step at a tick. It takes the transition that comes first, then the update: a disabled plane
is in FREERUN, a forced one in HOLDOVER, MODE = 1 steers; a GOOD source ends FREERUN and STEERED, a lost one LOCKED and
ACQUIRE; the tests of lock and unlock; the swap of a pending commit and the update that closes its window. -/
def Piece.PlaneTransitions : Prop :=
  ∀ (b : State) (p : Fin 4) (r : Region) (x : Snapshot) (e : Rat),
    let u := b.planeStep p
    let o := b.planes[p]
    let y := u.planes[p]
    let st := b.rd .PLn_STATE_STATE p
    let src := srcCode (b.rd .PLn_REFSEL_SRC p)
    let cand := b.rd .PLn_SHADOW_STAT_SRC p
    let res := b.rd .PLn_COMMIT_RESULT p
    let goes := fun (k : Nat) => u.rd .PLn_STATE_STATE p = k
    let run := b.bit .PLn_CTRL_EN p = true ∧ b.forced p = 0 ∧ b.bit .PLn_CTRL_MODE p = false
    let plain := o.region = none ∧ o.refWrite = false ∧ b.committing p = false
    let on := st = 1 ∨ st = 2
    let updated := (b.loopUpdate p src e).planes[p]
    let same := y.i = updated.i ∧ y.w = updated.w ∧ y.c = updated.c
    let settled := b.bit .PLn_CTRL_BLEED p = false ∧ b.bit .PLn_CTRL_AUTOCOMMIT p = false
    let pbo := b.rdI .PLn_PBO p + roundNearest 9 (b.shadowOffset p * 64)
    let d := (b.srcType cand).defaults (b.rd .ATOM_CFG_TYPE == 3)
    (b.bit .PLn_CTRL_EN p = false → goes 0) ∧
    (b.bit .PLn_CTRL_EN p = true → b.forced p ≠ 0 → goes (if st = 0 then 0 else 3)) ∧
    (b.bit .PLn_CTRL_EN p = true → b.forced p = 0 → b.bit .PLn_CTRL_MODE p = true → goes 4) ∧
    (run → st = 0 ∨ st = 4 → b.srcGood p src = true → goes 1) ∧
    (run → st = 0 → b.srcGood p src = false → goes 0 ∧ y.c = o.c) ∧
    (run → st = 4 → b.srcGood p src = false → goes 3) ∧
    (run → plain → on → b.srcHolds p src = false → goes (if b.bit .PLn_STATE_HIST_VALID p then 3 else 0)) ∧
    (run → plain → on → b.srcHolds p src = true → o.acq = none → b.freshErr p src = some e →
      let below := ratAbs e < (b.rd .PLn_LOCK_LTHR p * 10 : Nat) ∧
        o.lockFrom.getD b.now + b.rd .PLn_LOCK_LTIME p * 10000000000 ≤ b.now
      let above := ((b.rd .PLn_UNLOCK_UTHR p * 10 : Nat) : Rat) < ratAbs e ∧ max 1 (b.rd .PLn_UNLOCK_UCNT p) ≤ o.unlockRun + 1
      same ∧ (st = 1 → goes (if below then 2 else 1)) ∧ (st = 2 → goes (if above then 1 else 2))) ∧
    (run → plain → settled → st = 3 → goes 3 ∧ y.c = ((b.holdWord p).planes[p]).c ∧ y.carry = ((b.holdWord p).planes[p]).carry) ∧
    (run → o.region = none → b.committing p = false → o.refWrite = true → on ∨ st = 3 → goes 1 ∧ y.refWrite = false ∧ y.growth.run = false) ∧
    (run → o.region = some r → res = 2 → on ∨ st = 3 → (b.freshErr p cand).isSome = true →
      u.rd .PLn_COMMIT_RESULT p = 3 ∧ u.rd .PLn_REFSEL_SRC p = cand % 32 ∧ goes (if b.bit .PLn_SHADOW_STAT_READY p then 2 else 1) ∧
      u.rd .PLn_RSUM p = (if b.bit .PLn_CTRL_BLEED p then u.rd .PLn_RSUM p
        else min 0xFFFFFFFF (b.rd .PLn_RSUM p + b.swapResidual cand)) ∧
      (b.bit .PLn_CTRL_BLEED p = false → -2 ^ 47 ≤ pbo → pbo < 2 ^ 47 → u.rdI .PLn_PBO p = pbo) ∧
      (b.bit .PLn_REFSEL_KEEP p = false → u.rd .PLn_BW p = d.1 ∧ u.rd .PLn_LOOP_DAMP p = d.2.2.2.1 ∧ u.rd .PLn_LOCK_LTIME p = d.2.2.2.2) ∧
      (b.bit .PLn_REFSEL_KEEP p = true → u.rd .PLn_BW p = b.rd .PLn_BW p ∧ u.rd .PLn_LOOP_DAMP p = b.rd .PLn_LOOP_DAMP p) ∧
      ∃ z, y.snap = some z ∧ z.state = st ∧ z.src = b.rd .PLn_REFSEL_SRC p ∧ z.i = o.i ∧ z.w = o.w ∧ z.c = o.c ∧
        z.pbo = b.rd .PLn_PBO p ∧ z.rsum = b.rd .PLn_RSUM p) ∧
    (run → settled → o.region = some r → res = 3 → on ∨ st = 3 → (b.freshErr p src).isSome = true → o.snap = some x →
      (r.prefBack = true → u.rd .PLn_COMMIT_RESULT p = 8 ∧ y.region = none ∧ u.bit .PLn_EV_RECALL p = true ∧
        u.rd .PLn_REFSEL_SRC p = x.src % 32 ∧ u.rd .PLn_PBO p = x.pbo % 2 ^ 48 ∧ u.rd .PLn_RSUM p = x.rsum % 2 ^ 32 ∧ goes (x.state % 8) ∧
        y.sent = y.c + (if 0 < r.ticks then r.cSnap - r.cSwap else 0) ∧ y.recallTicks = r.ticks - 1 ∧
        (b.freshErr p r.pref = none → x.state = 1 ∨ x.state = 2 → y.i = x.i ∧ y.w = x.w ∧ y.c = x.c)) ∧
      (r.prefBack = false → u.rd .PLn_COMMIT_RESULT p = 4 ∧ y.region = none ∧ u.rd .PLn_REFSEL_SRC p = b.rd .PLn_REFSEL_SRC p))

/-- The plane tick: loops, transitions, words and the time error bound: every part holds. -/
def Obligations.PlaneTick : Prop := Piece.PlaneTick ∧ Piece.PlaneLoop ∧ Piece.PlaneTransitions

/-- R50, R53, R56, R57, R58, R71, R72: the writes of PLn_CTRL, PLn_REFSEL, PLn_PBO and PLn_STEER. Naming the ready candidate commits to
it; any other source is taken at once with its type's defaults unless KEEP is 1, and an open region is preempted. A STEER commit latches its bound and restarts the age and
H in every state. -/
def Obligations.PlaneWrites : Prop :=
  ∀ (s : State) (t : Nat) (m : Master) (p : Fin 4) (v : Word),
    let b := s.enter t
    let wide := joinPair v (b.mst m).hold
    let st := b.rd .PLn_STATE_STATE p
    let new := fieldOf .PLn_REFSEL_SRC v
    let profile := [Field.PLn_BW, .PLn_LOOP_DAMP, .PLn_LOOP_M, .PLn_LOCK_LTHR, .PLn_LOCK_LTIME, .PLn_UNLOCK_UTHR, .PLn_UNLOCK_UCNT]
    let d := (b.srcType (srcCode new)).defaults (b.rd .ATOM_CFG_TYPE == 3)
    let toReady := srcCode new = b.rd .PLn_SHADOW_STAT_SRC p ∧ b.bit .PLn_SHADOW_STAT_READY p = true ∧
      srcCode new ≠ srcCode (b.rd .PLn_REFSEL_SRC p) ∧ (st = 1 ∨ st = 2 ∨ st = 3)
    (b.answers m .PLn_CTRL → Completes (.plCtrlWrite t m p v) s fun u =>
      (∀ f, f ∈ Reg.PLn_CTRL.fields → f.info.acc = .rw → u.rd f p = fieldOf f v) ∧
      (u.bit .PLn_CTRL_EN p = false → (u.planes[p]).hist = [] ∧ u.bit .PLn_STATE_HIST_VALID p = false) ∧
      (b.bit .PLn_CTRL_EN p = false → u.bit .PLn_CTRL_EN p = true →
        (u.planes[p]).anchor = none ∧ (u.planes[p]).everLocked = false ∧ u.bit .PLn_STATE_ANCHORED p = false) ∧
      (∀ q, q ≠ p → u.planes[q] = b.planes[q]) ∧
      State.Keeps b { u with planes := b.planes }
        (fun f n => n == p.val && (Reg.PLn_CTRL.fields.contains f || f == .PLn_STATE_HIST_VALID || f == .PLn_STATE_ANCHORED))) ∧
    (b.answers m .PLn_REFSEL →
      (toReady → Completes (.plRefselWrite t m p v) s fun u =>
        u.rd .PLn_COMMIT_RESULT p = 2 ∧ u.bit .PLn_COMMIT_BUSY p = true ∧ u.rd .PLn_REFSEL_SRC p = b.rd .PLn_REFSEL_SRC p) ∧
      (¬ toReady → Completes (.plRefselWrite t m p v) s fun u =>
        u.rd .PLn_REFSEL_SRC p = new ∧ u.rd .PLn_REFSEL_KEEP p = fieldOf .PLn_REFSEL_KEEP v ∧ (u.planes[p]).refWrite = true ∧
        profile.map (fun f => u.rd f p) = (if fieldOf .PLn_REFSEL_KEEP v = 1 then profile.map (fun f => b.rd f p)
          else [d.1, d.2.2.2.1, 0, 100, d.2.2.2.2, 1000, 4]) ∧ (u.planes[p]).region = none ∧
        ((b.planes[p]).region.isSome = true → u.rd .PLn_COMMIT_RESULT p = 10 ∧ u.bit .PLn_EV_REGION_END p = true))) ∧
    (b.answers m .PLn_PBO → Completes (.pboWrite t m p v) s fun u =>
      u.rd .PLn_PBO p = wide.toNat % 2 ^ Field.PLn_PBO.info.width ∧ u.rd .PLn_RSUM p = 0 ∧ (u.mst m).hold = 0 ∧
      State.Keeps b { u with masters := b.masters } (fun f n => n == p.val && (f == .PLn_PBO || f == .PLn_RSUM))) ∧
    (b.answers m .PLn_STEER → Completes (.steerCommit t m p v) s fun u =>
      u.rd .PLn_STEER p = wide.toNat % 2 ^ 48 ∧ (u.mst m).hold = 0 ∧
      (u.planes[p]).steerBound = some (b.rd .PLn_STEER_BOUND p) ∧ u.rd .PLn_HO_AGE p = 0 ∧
      (u.planes[p]).growth.run = true ∧ (u.planes[p]).growth.since = b.now ∧ (u.planes[p]).growth.h = 0 ∧
      (u.planes[p]).growth.r = (b.rd .PLn_HOY p : Rat) / 1000 ∧
      (u.planes[p]).growth.unb = (b.rd .PLn_HOY p == 0xFFFFFFFF) ∧
      (u.planes[p]).growth.cHist = (b.planes[p]).growth.cHist ∧ (u.planes[p]).growth.entry = (b.planes[p]).growth.entry ∧
      (∀ q, q ≠ p → u.planes[q] = b.planes[q]) ∧
      State.Keeps b { u with masters := b.masters, planes := b.planes }
        (fun f n => n == p.val && (f == .PLn_STEER || f == .PLn_HO_AGE))) ∧
    (∀ a, [RefType.pps, .gnss, .synce, .clock, .ptpSw, .lenuz, .atom].map (fun y => ((y.defaults a).1, (y.defaults a).2.2.2)) =
      [(10, 181, 1000), (1000, 181, 10), (30000, 1280, 10), (500000, 181, 10), (500, 181, 1000), (1000000, 181, 10),
        (10, 181, if a then 1000 else 10)])

/-- R168: a write of PLn_SHADOW_CAND, SELREF's included, is ignored while a commit is pending or in its window, and one that leaves
SRC and AUTO as they are neither restarts the shadow loop nor clears READY. -/
def Obligations.ShadowCandidateWrite : Prop :=
  ∀ (s : State) (t : Nat) (m : Master) (p : Fin 4) (v : Word) (e : Fin 4) (src : SelSrc),
    let b := s.enter t
    let busy := b.rd .PLn_COMMIT_RESULT p = 2 ∨ b.rd .PLn_COMMIT_RESULT p = 3
    let same := fun (w : Word) => fieldOf .PLn_SHADOW_CAND_SRC w = b.rd .PLn_SHADOW_CAND_SRC p ∧
      fieldOf .PLn_SHADOW_CAND_AUTO w = b.rd .PLn_SHADOW_CAND_AUTO p
    let word := BitVec.ofNat 32 ((b.engines[e]).selWord src)
    (b.answers m .PLn_SHADOW_CAND → busy ∨ same v → Completes (.shadowCandWrite t m p v) s fun u =>
      b.Keeps u (fun _ _ => false)) ∧
    (b.answers m .PLn_SHADOW_CAND → ¬ busy → ¬ same v → Completes (.shadowCandWrite t m p v) s fun u =>
      u.rd .PLn_SHADOW_CAND_SRC p = fieldOf .PLn_SHADOW_CAND_SRC v ∧
      u.rd .PLn_SHADOW_CAND_AUTO p = fieldOf .PLn_SHADOW_CAND_AUTO v ∧
      (fieldOf .PLn_SHADOW_CAND_AUTO v = 0 → srcCode (fieldOf .PLn_SHADOW_CAND_SRC v) ≠ b.rd .PLn_SHADOW_STAT_SRC p →
        u.rd .PLn_SHADOW_STAT_SRC p = srcCode (fieldOf .PLn_SHADOW_CAND_SRC v) ∧ u.bit .PLn_SHADOW_STAT_READY p = false)) ∧
    (b.reach .PLn_SHADOW_CAND = true → b.CanRun e (.selref p src) → b.RunsOn e → busy ∨ same word →
      Completes (.selref t e p src) s fun u =>
        State.Keeps b { u with engines := b.engines } (fun f n => f == .YEe_STAT_LATE && n == e.val))

/-- R67, R71, R74, R175: BEGIN opens a region for its master where none is open; GO makes it PENDING where the commit is accepted and
refuses it otherwise; ABANDON closes it before its swap. A master other than 1 to 3 acts only on its own. -/
def Obligations.CommitRegion : Prop :=
  ∀ (s : State) (t : Nat) (m : Master) (p : Fin 4) (pref : Fin 32) (force : Bool) (r : Region),
    let b := s.enter t
    let res := b.rd .PLn_COMMIT_RESULT p
    let src := srcCode (b.rd .PLn_REFSEL_SRC p)
    let may := m = .pcie ∨ m = .spi ∨ m = .keeper ∨ r.owner = some m.id.val
    let closed := fun (u : State) (k : Nat) => u.rd .PLn_COMMIT_RESULT p = k ∧ u.bit .PLn_COMMIT_BUSY p = false ∧
      (u.planes[p]).region = none ∧ u.bit .PLn_EV_REGION_END p = true ∧ ∀ e : Fin 4, (u.evpend[e]).getLsbD (20 + p) = true
    b.answers m .PLn_COMMIT →
    ((b.planes[p]).region = none → Completes (.commitBegin t m p pref) s fun u =>
      u.rd .PLn_COMMIT_RESULT p = 1 ∧ u.bit .PLn_COMMIT_BUSY p = true ∧ u.rd .PLn_COMMIT_PREF p = pref ∧
      ∃ x, (u.planes[p]).region = some x ∧ x.owner = some m.id.val ∧
        x.pref = if srcCode pref = 31 then src else srcCode pref) ∧
    ((b.planes[p]).region = some r → Completes (.commitBegin t m p pref) s fun u =>
      u.planes = b.planes ∧ u.rd .PLn_COMMIT_RESULT p = res) ∧
    ((b.planes[p]).region = some r → may → res = 1 → b.commitAccepted p force = true → Completes (.commitGo t m p force) s fun u =>
      u.rd .PLn_COMMIT_RESULT p = 2 ∧ (u.planes[p]).region.isSome = true) ∧
    ((b.planes[p]).region = some r → may → res ≠ 1 ∨ b.commitAccepted p force = false → Completes (.commitGo t m p force) s fun u =>
      closed u 9) ∧
    ((b.planes[p]).region = none → Completes (.commitGo t m p force) s fun u => u.rd .PLn_COMMIT_RESULT p = 9) ∧
    ((b.planes[p]).region = some r → ¬ may → Completes (.commitGo t m p force) s fun u => b.Keeps u (fun _ _ => false)) ∧
    ((b.planes[p]).region = some r → may → res ≠ 3 → Completes (.commitAbandon t m p) s fun u => closed u 5) ∧
    ((b.planes[p]).region = some r → ¬ may ∨ res = 3 → Completes (.commitAbandon t m p) s fun u => b.Keeps u (fun _ _ => false))

/-- R58, R61, R79, R82, R83: a locked, unlimited plane records its word once per second, H grows by a rate that itself grows, and the
drift model's pending action and age. -/
def Obligations.HistoryGrowthModel : Prop :=
  ∀ (s : State) (t : Nat) (p : Fin 4) (m : Master) (c : Bool),
    let b := s.enter t
    let x := b.planes[p]
    let h := ((b.now, x.c) :: x.hist).take (b.rd .PLn_HO_CFG_AVG p + b.rd .PLn_HO_CFG_GUARD p + 1)
    let d := if b.bit .MODEL_CTRL_APPLIED = false then b.rd .PLn_HOD_XO p
      else if 3600 < b.rd .MODEL_AGE then b.rd .PLn_HOD_DEGR p else b.rd .PLn_HOD_ASSIST p
    let age := min (b.rd .MODEL_AGE + 1) (2 ^ Field.MODEL_AGE.info.width - 1)
    (b.rd .PLn_STATE_STATE p = 2 → b.bit .PLn_STATE_FMAX_HIT p = false → b.bit .PLn_STATE_SLOPE_HIT p = false →
      b.bit .PLn_CTRL_EN p = true → Completes (.historyRecord t p) s fun u =>
        (u.planes[p]).hist = h ∧ (b.rd .PLn_HO_CFG_GUARD p + 1 ≤ h.length → u.bit .PLn_STATE_HIST_VALID p = true) ∧
        State.Keeps b { u with planes := b.planes } (fun f n => f == .PLn_STATE_HIST_VALID && n == p.val)) ∧
    (b.rd .PLn_STATE_STATE p ≠ 2 → Completes (.historyRecord t p) s fun u => b.Keeps u (fun _ _ => false)) ∧
    (x.growth.run = true → d ≠ 0xFFFFFFFF → Completes (.growthSecond t p) s fun u =>
      (u.planes[p]).growth.r = x.growth.r + (d : Rat) / 1000000 ∧
      (u.planes[p]).growth.h = x.growth.h + (u.planes[p]).growth.r ∧ (∀ q, q ≠ p → u.planes[q] = b.planes[q]) ∧
      State.Keeps b { u with planes := b.planes } (fun _ _ => false)) ∧
    (x.growth.run = true → d = 0xFFFFFFFF → Completes (.growthSecond t p) s fun u =>
      (u.planes[p]).growth = { x.growth with unb := true } ∧ (∀ q, q ≠ p → u.planes[q] = b.planes[q]) ∧
      State.Keeps b { u with planes := b.planes } (fun _ _ => false)) ∧
    (b.answers m .MODEL_CTRL →
      (m = .keeper → Completes (.modelLoad t m c) s fun u =>
        u.xo.pend = some (if c then .clear else .load) ∧ u.bit .MODEL_CTRL_PENDING = true ∧
        (b.xo.pend = some .load ∨ c = true → u.bit .MODEL_CTRL_LOAD_LOST = true)) ∧
      (m ≠ .keeper → Completes (.modelLoad t m false) s fun u => u.xo = b.xo) ∧
      (m ≠ .keeper → Completes (.modelLoad t m true) s fun u => u.xo.pend = some .clear ∧ u.bit .MODEL_CTRL_PENDING = true) ∧
      Completes (.modelClear t m) s (fun u => u.xo.pend = some .clear ∧ u.bit .MODEL_CTRL_PENDING = true ∧
        (b.xo.pend = some .load → u.bit .MODEL_CTRL_LOAD_LOST = true))) ∧
    Completes (.modelAgeSecond t) s (fun u => u.rd .MODEL_AGE = age ∧ u.bit .MODEL_CTRL_OLD = decide (3600 < age) ∧
      b.Keeps u (fun f _ => f == .MODEL_AGE || f == .MODEL_CTRL_OLD || f == .PLn_STATE_MODEL_OLD))

/-! ## APLLs -/

/-- R86, R88, R93, R101: EN from 0 to 1 checks the ranges and starts a lock once XO is qualified, EN to 0 stops the APLL, RELOCK
restarts an idle one from LOST or FAIL; REFMUL, N, NUM and DEN are refused with CFG_ERR while EN is 1. -/
def Piece.ApllControl : Prop :=
  ∀ (s : State) (t : Nat) (m : Master) (x : Fin 2) (v : Word),
    let b := s.enter t
    let on := b.bit .APLLx_CTRL_EN x
    let st := b.rd .APLLx_STAT_STATE x
    let cfg := fun (r : ApllCfgReg) => match r with
      | .refmul => (Field.APLLx_CTRL_REFMUL, v.toNat % 4)
      | .n => (.APLLx_N, v.toNat % 128)
      | .num => (.APLLx_NUM, v.toNat)
      | .den => (.APLLx_DEN, v.toNat)
    b.answers m .APLLx_CTRL →
    (on = false → Completes (.apllEnable t m x v) s fun u =>
      u.bit .APLLx_CTRL_EN x = true ∧
      (u.apllCfgOk x = true → b.xoOk = true →
        u.rd .APLLx_STAT_STATE x = 1 ∧ (u.aplls[x]).lockFrom = b.now ∧ (u.aplls[x]).retried = false) ∧
      (u.apllCfgOk x = true → b.xoOk = false → u.rd .APLLx_STAT_STATE x = st) ∧
      (u.apllCfgOk x = false → u.rd .APLLx_STAT_STATE x = 6 ∧ u.bit .APLLx_EV_CFG_ERR x = true)) ∧
    (on = true → Completes (.apllDisable t m x v) s fun u =>
      u.bit .APLLx_CTRL_EN x = false ∧ u.rd .APLLx_STAT_STATE x = 0 ∧ u.bit .APLLx_STAT_VT_MARGIN x = false) ∧
    (on = false → Completes (.apllDisable t m x v) s fun u =>
      u.bit .APLLx_CTRL_EN x = false ∧ u.rd .APLLx_STAT_STATE x = st) ∧
    (∀ r, on = false → Completes (.apllConfigWrite t m x r v) s fun u =>
      u.rd (cfg r).1 x = (cfg r).2 ∧ u.rd .APLLx_STAT_STATE x = st ∧ u.bit .APLLx_CTRL_EN x = false) ∧
    (∀ r, on = true → b.rd (cfg r).1 x ≠ (cfg r).2 ∨ r ≠ .refmul → Completes (.apllConfigWrite t m x r v) s fun u =>
      u.rd (cfg r).1 x = b.rd (cfg r).1 x ∧ u.rd .APLLx_STAT_STATE x = st ∧ u.bit .APLLx_EV_CFG_ERR x = true) ∧
    (on = true → v.getLsbD 0 = true → st = 4 ∨ st = 5 → b.apUsers x = 0 → b.xoOk = true →
      Completes (.apllRelock t m x v) s fun u =>
        u.rd .APLLx_STAT_STATE x = 1 ∧ (u.aplls[x]).lockFrom = b.now ∧ (u.aplls[x]).retried = false)

/-- R88, R90, R91, R93, R171: band search, lock, the first failure and its one retry, departure where the phase error exceeds DEP_THR
at DEP_CNT consecutive cycles, loss at 200 ps at four cycles within 64, the automatic relock and the tuning margin, with their
flags, lines and fault sources. -/
def Piece.ApllStates : Prop :=
  ∀ (s : State) (t : Nat) (x : Fin 2) (errs : List Int) (both : Vector (List Int) 2),
    let b := s.enter t
    let a := b.aplls[x]
    let st := b.rd .APLLx_STAT_STATE x
    let departs := fun (y : Fin 2) (l : List Int) =>
      let k := max 1 (b.rd .APLLx_DEP_DEP_CNT y);
      k ≤ l.length ∧ ∀ e ∈ l.drop (l.length - k), max 1 (b.rd .APLLx_DEP_DEP_THR y) * 16 < e.natAbs
    let loses := 4 ≤ ((errs.drop (errs.length - 64)).filter (fun e => 12800 < e.natAbs)).length
    let line := fun (u : State) => ∀ e : Fin 4, (u.evpend[e]).getLsbD (48 + x) = true
    (st = 1 → b.xoOk = true → Completes (.apllBandselDone t x) s fun u =>
      u.rd .APLLx_STAT_STATE x = 2 ∧ (b.bit .APLLx_CTRL_BANDSEL_MAN x = true → u.rd .APLLx_STAT_BAND x = b.rd .APLLx_CTRL_BAND x) ∧
      State.Keeps b { u with draw := b.draw } (fun f n => n == x.val && (f == .APLLx_STAT_STATE || f == .APLLx_STAT_BAND))) ∧
    (st = 2 → b.xoOk = true → Completes (.apllLockAchieved t x) s fun u =>
      u.rd .APLLx_STAT_STATE x = 3 ∧ u.bit .APLLx_EV_LOCK x = true ∧ line u ∧ (u.aplls[x]).departed = false) ∧
    (st = 1 ∨ st = 2 → a.lockFrom + 2000000000 ≤ b.now → Completes (.apllLockTimeout t x) s fun u =>
      u.rd .APLLx_STAT_STATE x = 5 ∧ u.bit .APLLx_EV_LOST x = true ∧ line u ∧ (u.aplls[x]).failAt = b.now ∧
      (a.retried = true → b.rd .DEV_STATE_ERR ≠ 4 → u.rd .DEV_STATE_ERR = 3) ∧
      (b.records (4 + x) = true → u.bitOf .FLT_STATUS 0 (4 + x) = true)) ∧
    (st = 5 → a.retried = false → a.failAt + 1000000000 ≤ b.now → b.xoOk = true → Completes (.apllRetry t x) s fun u =>
      u.rd .APLLx_STAT_STATE x = 1 ∧ (u.aplls[x]).retried = true ∧ (u.aplls[x]).lockFrom = b.now) ∧
    (st = 5 → a.retried = true → Completes (.apllRetry t x) s fun u => b.Keeps u (fun _ _ => false)) ∧
    (st = 3 → departs x both[x] → Completes (.apllDepart t x both) s fun u =>
      u.rd .APLLx_STAT_STATE x = 3 ∧ (u.aplls[x]).departed = true ∧ u.bit .APLLx_EV_DEPART x = true ∧ line u ∧
      (b.rd .APLLx_STAT_STATE (1 - x : Fin 2) = 3 → departs (1 - x) both[1 - x] → (u.aplls[1 - x]).departed = true ∧
        u.bit .APLLx_EV_DEPART (1 - x : Fin 2) = true) ∧
      (b.records (2 + x) = true → u.bitOf .FLT_STATUS 0 (2 + x) = true)) ∧
    (st ≠ 3 ∨ ¬ departs x both[x] → Completes (.apllDepart t x both) s fun u => b.Keeps u (fun _ _ => false)) ∧
    (st ≠ 3 ∨ ¬ loses → Completes (.apllLockLost t ⟨x, errs⟩) s fun u => b.Keeps u (fun _ _ => false)) ∧
    (st = 3 → loses → Completes (.apllLockLost t ⟨x, errs⟩) s fun u =>
      u.rd .APLLx_STAT_STATE x = 4 ∧ u.bit .APLLx_EV_LOST x = true ∧ line u ∧
      (b.records (4 + x) = true → u.bitOf .FLT_STATUS 0 (4 + x) = true)) ∧
    (st = 4 → b.bit .APLLx_CTRL_AUTO_RELOCK x = true → b.apUsers x = 0 → b.xoOk = true → Completes (.apllAutoRelock t x) s fun u =>
      u.rd .APLLx_STAT_STATE x = 1 ∧ (u.aplls[x]).lockFrom = b.now) ∧
    (st = 3 → b.bit .APLLx_STAT_VT_MARGIN x = false → Completes (.vtMarginRise t x) s fun u =>
      u.bit .APLLx_STAT_VT_MARGIN x = true ∧ u.bit .APLLx_EV_VT_MARGIN x = true ∧
      b.Keeps u (fun f n => n == x.val && (f == .APLLx_STAT_VT_MARGIN || f == .APLLx_EV_VT_MARGIN)))

/-- APLL enabling, configuration, lock, departure and loss: every part holds. -/
def Obligations.ApllControlAndStates : Prop := Piece.ApllControl ∧ Piece.ApllStates

/-- R76, R77, R90, R96 to R98, R103: the millisecond's temperature, error and tuning margin, the corrections' slew, which FREEZE
holds, the trim tables behind FREEZE, the cross-phase monitor, whose two
values are each other's negation, and the loss of XO, which holds the tuning of every APLL that was locking or locked. -/
def Obligations.ApllTrimAndXoLoss : Prop :=
  ∀ (s : State) (t : Nat) (m : Master) (x : Fin 2) (tj xph : Int) (e tune : Nat) (g : Fin 16) (j : Fin 16) (v : Word),
    let b := s.enter t
    let frozen := b.bit .APLLx_TRIM_CTRL_FREEZE x
    let st := b.rd .APLLx_STAT_STATE x
    Completes (.trimUpdate t x tj ⟨e, tune⟩) s (fun u =>
      u.rdI .APLLx_TEMP x = max (-2048) (min 2047 tj) ∧ u.rd .APLLx_PHERR x = min e 0xFFFFFF ∧
      (frozen = true → (u.aplls[x]).gain = (b.aplls[x]).gain ∧ (u.aplls[x]).taps = (b.aplls[x]).taps) ∧
      (frozen = false → b.Calm →
        (u.aplls[x]).gain = slewTo (b.aplls[x]).gain (u.gainTarget x) (u.gainStep x) ∧
        ∀ k : Fin 16, (u.aplls[x]).taps[k] = slewTo (b.aplls[x]).taps[k] (u.tapTarget x k) 1) ∧
      (u.bit .APLLx_STAT_VT_MARGIN x = true ↔ (tune ≤ 100 ∨ 900 ≤ tune) ∧ st ≠ 0 ∧ st ≠ 1 ∧ st ≠ 6) ∧
      (b.bit .APLLx_STAT_VT_MARGIN x = false → u.bit .APLLx_STAT_VT_MARGIN x = true → u.bit .APLLx_EV_VT_MARGIN x = true) ∧
      (b.rdI .APLLx_TEMP 0 ≤ 440 → b.rdI .APLLx_TEMP 1 ≤ 440 → 440 < tj → b.Calm → b.records 15 = true → u.bitOf .FLT_STATUS 0 15 = true)) ∧
    (b.answers m .APLLx_GAIN → frozen = true → Completes (.trimTableWrite t m x (.gain g) v) s fun u =>
      u.rd .APLLx_GAIN (16 * x.val + g.val) = v.toNat % 4096 ∧
      b.Keeps u (fun f n => f == .APLLx_GAIN && n == 16 * x.val + g.val)) ∧
    (b.answers m .APLLx_TAP → frozen = true → Completes (.trimTableWrite t m x (.tap g j) v) s fun u =>
      u.rd .APLLx_TAP (256 * x.val + 16 * g.val + j.val) = v.toNat % 65536 ∧
      b.Keeps u (fun f n => f == .APLLx_TAP && n == 256 * x.val + 16 * g.val + j.val)) ∧
    (b.answers m .APLLx_GAIN → frozen = false → Completes (.trimTableWrite t m x (.gain g) v) s fun u =>
      u.bit .APLLx_TRIM_CTRL_WERR x = true ∧ b.Keeps u (fun f n => f == .APLLx_TRIM_CTRL_WERR && n == x.val)) ∧
    (b.answers m .APLLx_TAP → frozen = false → Completes (.trimTableWrite t m x (.tap g j) v) s fun u =>
      u.bit .APLLx_TRIM_CTRL_WERR x = true ∧ b.Keeps u (fun f n => f == .APLLx_TRIM_CTRL_WERR && n == x.val)) ∧
    (-(2 ^ 63) < xph → xph < 2 ^ 63 → Completes (.xphMeasure t xph) s fun u =>
      u.rdI .APLLx_XPH 0 = xph ∧ u.rdI .APLLx_XPH 1 = -xph ∧ b.Keeps u (fun f _ => f == .APLLx_XPH)) ∧
    (b.timebase = true → b.bit .XO_MON_LOST = false → Completes (.xoLoss t) s fun u =>
      u.bit .XO_MON_LOST = true ∧ (∀ k : Fin 4, (u.evpend[k]).getLsbD 50 = true) ∧
      u.rd .APLLx_STAT_STATE x = (if st = 1 ∨ st = 2 ∨ st = 3 then 7 else st) ∧
      (b.records 0 = true → u.bitOf .FLT_STATUS 0 0 = true))

/-! ## Outputs, banks and sheafs -/

/-- R105, R106, R113, R115, R120, R125, R127 to R129: the writes of an output's configuration, ratios, delay, slope and source, each
with its frame: what a stopped or waiting output takes at once, what a running one takes later, and what it refuses. -/
def Obligations.OutputConfiguration : Prop :=
  ∀ (s : State) (t : Nat) (m : Master) (n : Fin 64) (r : RatioReg) (v : Word),
    let b := s.enter t
    let o := b.outs[n]
    let on := b.outOn n
    let pair := (joinPair v (b.mst m).hold).toNat % 2 ^ 34
    let act := match r with
      | .int => (Field.OUTn_INT, pair) | .num => (.OUTn_NUM, v.toNat) | .den => (.OUTn_DEN, v.toNat)
    let sha := match r with
      | .int => (Field.OUTn_S_INT, pair) | .num => (.OUTn_S_NUM, v.toNat) | .den => (.OUTn_S_DEN, v.toNat)
    let only := fun (u : State) (l : List Field) => State.Keeps b { u with masters := b.masters } (fun f k => l.contains f && k == n.val)
    (b.answers m .OUTn_CFG →
      (on = false → Completes (.outCfgWrite t m n v) s fun u =>
        (∀ f, f ∈ Reg.OUTn_CFG.fields → u.rd f n = fieldOf f v) ∧
        (fieldOf .OUTn_CFG_EN v = 1 → u.run n = 1 ∧ u.bit .OUTn_STAT_CFG_ERR n = !u.outCfgOk n) ∧
        (b.bit .OUTn_CFG_EN n = true → fieldOf .OUTn_CFG_EN v = 0 → u.run n = 0) ∧ b.OutKeeps u n) ∧
      (on = true → b.bit .OUTn_CFG_EN n = true → o.driverNext = none → Completes (.outCfgWrite t m n v) s fun u =>
        (∀ f, f ∈ Reg.OUTn_CFG.fields → f ≠ .OUTn_CFG_MODE → u.rd f n = fieldOf f v) ∧
        u.rd .OUTn_CFG_MODE n = b.rd .OUTn_CFG_MODE n ∧
        (fieldOf .OUTn_CFG_MODE v ≠ b.rd .OUTn_CFG_MODE n → u.bit .OUTn_EV_WERR n = true) ∧
        (fieldOf .OUTn_CFG_EN v = 0 → u.run n = 0 ∧ (u.outs[n]).planeNext = none ∧
          u.rd .OUTn_SRC_PL n = (o.planeNext.map (· % 8)).getD (b.rd .OUTn_SRC_PL n)) ∧
        (fieldOf .OUTn_CFG_EN v = 1 → u.run n = b.run n ∧
          (let d := u.cfgDriver n
           let w := u.outs[n]
           let off := d.fmt = 0 ∧ o.driver.fmt ≠ 0
           (d = o.driver → w.driver = d ∧ w.driverNext = none) ∧
           (d ≠ o.driver → off → b.outHigh n = false → w.driver = d ∧ w.driverNext = none) ∧
           -- the write may move the next edge, and the last falling edge with it
           let falls := fun (x : Option Rat) => if x = o.pulses.head?.map Pulse.fall then w.pulses.head?.map Pulse.fall else x
           (d ≠ o.driver → off → b.outHigh n = true → w.driver = o.driver ∧ w.driverNext = some (d, falls (some (b.highEnd n)))) ∧
           (d ≠ o.driver → ¬ off → w.driver = o.driver ∧ w.driverNext = some (d, falls (b.nextFall n)))) ∧
          (u.slews n = false → o.phi ≠ (b.rdI .OUTn_PHASE n : Rat) → (u.outs[n]).asStep = true)) ∧
        b.OutKeeps u n)) ∧
    (b.answers m .OUTn_INT →
      (on = false → Completes (.outRatioWrite t m n r v) s fun u =>
        u.rd act.1 n = act.2 ∧ u.bit .OUTn_STAT_CFG_ERR n = (b.bit .OUTn_CFG_EN n && !u.outCfgOk n) ∧
        only u [act.1, .OUTn_STAT_CFG_ERR]) ∧
      (on = true → Completes (.outRatioWrite t m n r v) s fun u => u.bit .OUTn_EV_WERR n = true ∧ only u [.OUTn_EV_WERR]) ∧
      (b.bit .OUTn_STAT_PEND n = false → Completes (.outShadowRatioWrite t m n r v) s fun u =>
        u.rd sha.1 n = sha.2 ∧ only u [sha.1]) ∧
      (b.bit .OUTn_STAT_PEND n = true → Completes (.outShadowRatioWrite t m n r v) s fun u =>
        u.bit .OUTn_EV_WERR n = true ∧ only u [.OUTn_EV_WERR])) ∧
    (b.answers m .OUTn_DELAY → Completes (.outDelayWrite t m n v) s fun u =>
      u.rd .OUTn_DELAY n = v.toNat % 2 ^ 24 ∧ only { u with outs := b.outs } [.OUTn_DELAY] ∧ b.Repredicts u n ∧
      ∀ k, k ≠ n → u.outs[k] = b.outs[k]) ∧
    (b.answers m .OUTn_SLEW → Completes (.outSlewWrite t m n v) s fun u =>
      u.rd .OUTn_SLEW n = v.toNat % 2 ^ 24 ∧ (u.outs[n]).phi = o.phi ∧
      (u.outs[n]).asStep = (o.asStep || (!u.slews n && o.phi != (b.rdI .OUTn_PHASE n : Rat))) ∧
      u.bit .OUTn_STAT_SLEWING n = (on && u.slews n && !(u.outs[n]).asStep && o.phi != (b.rdI .OUTn_PHASE n : Rat)) ∧
      State.OutKeeps b { u with masters := b.masters } n) ∧
    (b.answers m .OUTn_SRC → ∀ c, c = Instr.outSrcPlWrite t m n v ∨ c = .outSrcApllWrite t m n v →
      let pl := fieldOf .OUTn_SRC_PL v
      let ap := fieldOf .OUTn_SRC_APLL v
      (on = false → Completes c s fun u => u.rd .OUTn_SRC_PL n = pl ∧ u.rd .OUTn_SRC_APLL n = ap ∧
        only u [.OUTn_SRC_PL, .OUTn_SRC_APLL]) ∧
      (on = true → Completes c s fun u =>
        let w := u.outs[n]
        w.planeNext = (if pl = b.rd .OUTn_SRC_PL n then none else some pl) ∧
        u.rd .OUTn_SRC_PL n = b.rd .OUTn_SRC_PL n ∧ u.rd .OUTn_SRC_APLL n = b.rd .OUTn_SRC_APLL n ∧
        (ap = b.rd .OUTn_SRC_APLL n ∨ o.swap ≠ none → w.swap = o.swap) ∧
        (ap ≠ b.rd .OUTn_SRC_APLL n → ∀ x, o.swap = some x → x.depart = true → u.bit .OUTn_EV_SRC_DISC n = true) ∧
        (ap ≠ b.rd .OUTn_SRC_APLL n → o.swap = none → b.maySwap n = true → o.hop = none →
          w.swap = some ⟨(1 - b.outApll n : Fin 2), false⟩) ∧
        (ap ≠ b.rd .OUTn_SRC_APLL n → o.swap = none → b.maySwap n = false ∨ o.hop ≠ none →
          w.swap = none ∧ u.bit .OUTn_EV_SRC_REJ n = true) ∧
        b.OutKeeps u n))

/-- R112, R113, R115, R119, R120, R128: starting, phase commits, hops, re-anchoring, the end of a slew, and EDGEADJ, each with the
frame of its output. -/
def Obligations.OutputCommands : Prop :=
  ∀ (s : State) (t : Nat) (m : Master) (n : Fin 64) (v : Word) (sync : Bool),
    let b := s.enter t
    let o := b.outs[n]
    let on := b.outOn n
    let pair := (joinPair v (b.mst m).hold).toNat % 2 ^ 48
    let hops := on = true ∧ b.outMode n = 0 ∧ (b.shadowRatio n).valid = true ∧ o.hop = none
    (b.run n = 1 → b.outMayStart n = true → Completes (.outputStart t n) s fun u =>
      u.run n = (if b.noSupply n then 3 else 2) ∧ (b.noSupply n = true → u.bit .OUTn_STAT_NOSUPPLY n = true) ∧
      u.bit .OUTn_STAT_EARLY n = (b.outEarly n && !b.outPlaneLocked n) ∧
      (let w := u.outs[n]
       w.cur = b.anchorTrack n ∧ w.lastRise = none ∧ w.startedAt = none ∧ w.backlog = 0 ∧ w.phi = o.phi ∧
         w.driver = b.cfgDriver n) ∧ b.OutKeeps u n) ∧
    (b.run n ≠ 1 ∨ b.outMayStart n = false → Completes (.outputStart t n) s fun u => b.Keeps u (fun _ _ => false)) ∧
    (b.answers m .OUTn_PHASE → Completes (.phaseCommit t m n v) s fun u =>
      u.rd .OUTn_PHASE n = pair ∧ (u.mst m).hold = 0 ∧ (u.outs[n]).phaseFrom = none ∧
      (on = true → (u.outs[n]).phi = o.phi ∧ (u.outs[n]).asStep = (!b.slews n) ∧
        u.bit .OUTn_STAT_SLEWING n = (b.slews n && o.phi != (u.rdI .OUTn_PHASE n : Rat))) ∧
      (on = false → (u.outs[n]).asStep = false ∧ (u.outs[n]).phi = (u.rdI .OUTn_PHASE n : Rat) ∧ u.rd .OUTn_PHASE_NOW n = pair) ∧
      State.OutKeeps b { u with masters := b.masters } n) ∧
    (b.answers m .OUTn_CMD →
      (hops → Completes (.outHop t m n sync) s fun u =>
        (u.outs[n]).hop = some ⟨b.shadowRatio n, true, sync, none, b.now + 200000, none⟩ ∧ u.bit .OUTn_STAT_PEND n = true ∧
        u.ratio n = b.ratio n ∧ b.OutKeeps u n) ∧
      (¬ hops → Completes (.outHop t m n sync) s fun u =>
        u.bit .OUTn_EV_WERR n = true ∧ b.Keeps u (fun f k => f == .OUTn_EV_WERR && k == n.val)) ∧
      (on = true → b.outMode n = 0 → Completes (.outRestart t m n) s fun u =>
        (o.anchoring = true → (u.outs[n]).cur = b.anchorTrack n ∧ (u.outs[n]).next = o.next) ∧
        (o.anchoring = false → (u.outs[n]).cur = o.cur ∧ (u.outs[n]).next = some (b.anchorTrack n, true)) ∧ b.OutKeeps u n) ∧
      (on = false ∨ b.outMode n ≠ 0 → Completes (.outRestart t m n) s fun u => b.Keeps u (fun _ _ => false)) ∧
      Completes (.stopslew t m n) s (fun u =>
        u.rd .OUTn_PHASE n = b.rd .OUTn_PHASE_NOW n ∧ (u.outs[n]).phi = (b.rdI .OUTn_PHASE_NOW n : Rat) ∧
        u.bit .OUTn_STAT_SLEWING n = false ∧ b.OutKeeps u n)) ∧
    (b.answers m .OUTn_EDGEADJ → Completes (.edgeadjRead t m n) s fun u =>
      (u.mst m).data.toNat = b.rd .OUTn_EDGEADJ n ∧ u.rd .OUTn_EDGEADJ n = b.countNow .OUTn_EDGEADJ n % 2 ^ 16 ∧
      State.Keeps b { u with masters := b.masters } (fun f k => f == .OUTn_EDGEADJ && k == n.val))

/-- R98, R107, R110, R111, R113, R117 to R119, R129: the next rising edge of a RATIO output falls where its phase, offset and delay put it, but never
less than P_min after the one before, and its backlog is the difference; a PPS or TIMED output's at its instant, unless that comes too soon;
each carries its high time. A swap waits for the edge, where it is completed on the other APLL or, its conditions gone, given up. -/
def Obligations.OutputEdges : Prop :=
  ∀ (s : State) (t : Nat) (n : Fin 64),
    let b := s.enter t
    let o := b.outs[n]
    let runs := b.timebase = true ∧ b.outOn n = true ∧ b.bit .OUTn_STAT_NOAPLL n = false ∧ b.edgeDue n = true
    let steady := o.hop = none ∧ o.next = none ∧ o.phaseFrom = none ∧ o.steps = [] ∧ o.corrNext = none ∧ o.phi = (b.rdI .OUTn_PHASE n : Rat)
    let tau := b.placeAt n o.cur
    (runs → b.outMode n = 0 → o.swap = none → steady → Completes (.outputEdgePlace t n) s fun u =>
      let w := u.outs[n]
      (∃ e, w.lastRise = some e ∧ tau ≤ e ∧ w.backlog = e - tau ∧
        (∀ p, o.lastRise = some p → p + b.pMin n o.cur.period ≤ e ∧ (p + b.pMin n o.cur.period ≤ tau → e = tau)) ∧
        (o.lastRise = none → e = tau) ∧ (∃ p l, w.pulses = p :: l ∧ p.rise = e ∧ p.high = b.highTime n o.cur.period) ∧
        u.bit .OUTn_STAT_CATCHUP n = decide (tau < e)) ∧
      w.cur = { o.cur with k := o.cur.k + 1 } ∧ w.anchoring = false ∧
      w.startedAt = (if o.startedAt = none then w.lastRise else o.startedAt) ∧ (o.startedAt = none → u.bit .OUTn_EV_START n = true) ∧
      (b.run n = 3 → b.squelched n = false → u.run n = 2 ∧ some w.driveFrom = w.lastRise) ∧ b.OutKeeps u n) ∧
    (runs → b.outMode n = 1 ∨ b.outMode n = 2 → o.swap = none → steady →
      b.tooSoon n (b.nextInst n (b.nomPeriod n)).2 (b.nomPeriod n) = false → Completes (.outputEdgePlace t n) s fun u =>
        (u.outs[n]).lastRise = some (b.nextInst n (b.nomPeriod n)).2 ∧ (u.outs[n]).backlog = 0 ∧
        (u.outs[n]).instFrom = (b.nextInst n (b.nomPeriod n)).1 + 1 ∧ b.OutKeeps u n) ∧
    (runs → b.outMode n = 1 ∨ b.outMode n = 2 → o.swap = none → steady →
      b.tooSoon n (b.nextInst n (b.nomPeriod n)).2 (b.nomPeriod n) = true → Completes (.outputEdgePlace t n) s fun u =>
        (u.outs[n]).lastRise = o.lastRise ∧ u.rdI .OUTn_EDGEADJ n = satSigned 16 (b.rdI .OUTn_EDGEADJ n - 1) ∧
        (u.outs[n]).instFrom = (b.nextInst n (b.nomPeriod n)).1 + 1 ∧ b.OutKeeps u n) ∧
    (b.edgeDue n = false ∨ b.outOn n = false → o.driverNext = none → Completes (.outputEdgePlace t n) s fun u =>
      b.Keeps u (fun _ _ => false)) ∧
    (runs → o.swap ≠ none → b.maySwap n = false → Completes (.swapEdge t n) s fun u =>
      (u.outs[n]).swap = none ∧ u.rd .OUTn_SRC_APLL n = b.rd .OUTn_SRC_APLL n ∧ b.OutKeeps u n) ∧
    (runs → o.swap ≠ none → b.maySwap n = true → Completes (.swapEdge t n) s fun u =>
      (u.outs[n]).swap = none ∧ u.rd .OUTn_SRC_APLL n = 1 - b.rd .OUTn_SRC_APLL n ∧
      u.bitOf .APLLx_SWAP_DONE (b.outApll n) n = true ∧ u.bit .APLLx_EV_SWAPPED (b.outApll n) = true ∧
      (b.outMode n = 0 → o.hop = none → (b.ratio n).valid = true → b.swapOk n = true →
        (u.ratio n).val = (b.ratio n).val * (b.fVco (1 - b.outApll n) / b.fVco (b.outApll n))) ∧
      (b.bit .CAL_STATE_RUN = true → u.bit .CAL_STATE_RUN = false ∧ u.rd .CAL_STATE_ERR = 2) ∧
      (b.bit .CAL_STATE_RUN = false → ∀ k, k ≠ n → u.outs[k] = b.outs[k])) ∧
    (o.swap = none → Completes (.swapEdge t n) s fun u => b.Keeps u (fun _ _ => false))

/-- R129 to R132: a bank's supply squelches its outputs and resumes them after 1 ms, SHED3 sheds one output at a time, the bank TDC
forms its result and tests it, and OBb_BTSEL restarts its gate. -/
def Obligations.Banks : Prop :=
  ∀ (s : State) (t : Nat) (m : Master) (k : Fin 8) (level : Fin 4) (err : Int) (miss f : Nat) (v : Word),
    let b := s.enter t
    let x := b.banks[k]
    let out := 8 * k.val + b.rd .OBb_BTSEL_SEL k
    let mean := b.bankMean k err
    (Completes (.bankSupplyChange t k level) s fun u =>
      u.rd .OBb_STAT_VLEVEL k = level ∧ u.bit .OBb_STAT_SUPPLY k = (level != 0) ∧
      (b.bit .OBb_STAT_SUPPLY k ≠ (level != 0) → u.bit .OBb_EV_SUPPLY_CHG k = true) ∧
      (level = 0 → (∀ n : Fin 64, n.val / 8 = k.val → b.outOn n = true → u.run n = 3 ∧ u.bit .OUTn_STAT_NOSUPPLY n = true) ∧
        (b.bit .OBb_STAT_SUPPLY k = true → (∃ n : Fin 64, n.val / 8 = k.val ∧ b.bit .OUTn_CFG_EN n = true) →
          b.records 14 = true → u.bitOf .FLT_STATUS 0 14 = true)) ∧
      (level ≠ 0 → b.bit .OBb_STAT_SUPPLY k = false ∨ (x.supplyFrom ≠ none ∧ b.rd .OBb_STAT_VLEVEL k ≠ level) → (u.banks[k]).supplyFrom = some b.now) ∧
      ∀ n : Fin 64, n.val / 8 ≠ k.val → u.run n = b.run n ∧ u.outs[n] = b.outs[n]) ∧
    (x.supplyFrom = some f → f + 1000000000 ≤ b.now → Completes (.bankSupplyStable t k) s fun u =>
      (∀ n : Fin 64, n.val / 8 = k.val → u.bit .OUTn_STAT_NOSUPPLY n = false) ∧ (u.banks[k]).supplyFrom = none ∧
      State.Keeps b { u with banks := b.banks } (fun g n => g == .OUTn_STAT_NOSUPPLY && n / 8 == k.val)) ∧
    (b.clk.shedNext ≤ b.now → Completes (.shed3Step t) s fun u =>
      u.clk.shedNext = b.now + b.shedStepPs ∧
      (3 ≤ b.rd .SHED_STATE_STAGE → ∀ n, b.nextShed = some n → b.outOn n = true → u.bit .OUTn_STAT_SHED n = true ∧ u.run n = 3) ∧
      (b.rd .SHED_STATE_STAGE < 3 → ∀ n, b.nextUnshed = some n → u.bit .OUTn_STAT_SHED n = false)) ∧
    (x.gateFrom = some f → b.bit .OBb_BTSEL_EN k = true → f + max 1 (b.rd .OBb_BTSEL_GATE k) * 1000000000 ≤ b.now →
      Completes (.btGateEnd t k err miss) s fun u =>
        (u.banks[k]).gateFrom = (if b.bit .CAL_STATE_RUN then none else some b.now) ∧
        (b.run out = 2 → b.bit .CAL_STATE_RUN = false →
          u.rd .OBb_BTMEAS_SEQ k = (b.rd .OBb_BTMEAS_SEQ k + 1) % 65536 ∧ u.bit .OBb_BTMEAS_VALID k = true ∧
          (u.banks[k]).before = b.btResult k ∧ (u.banks[k]).measAt = b.now ∧ (u.banks[k]).btmiss = min miss 0xFFFFFFFF ∧
          (-(2 ^ 63) ≤ mean → mean < 2 ^ 63 → (u.banks[k]).bterr.toInt = mean) ∧
          (b.rd .OBb_BTLIM k ≠ 0 → b.rd .OBb_BTLIM k * 64 < mean.natAbs →
            u.bit .OBb_EV_BT_LIMIT k = true ∧ (b.bit .OBb_EV_BT_LIMIT k = false → b.records (50 + k) = true → u.bitOf .FLT_STATUS 0 (50 + k) = true)) ∧
          (0 < miss → u.bit .OBb_EV_BT_MISS k = true ∧ (b.bit .OBb_EV_BT_MISS k = false → b.records (50 + k) = true → u.bitOf .FLT_STATUS 0 (50 + k) = true))) ∧
        (b.run out ≠ 2 ∨ b.bit .CAL_STATE_RUN = true → State.Keeps b { u with banks := b.banks } (fun _ _ => false))) ∧
    (b.answers m .OBb_BTSEL → Completes (.btselWrite t m k v) s fun u =>
      (∀ g, g ∈ Reg.OBb_BTSEL.fields → u.rd g k = fieldOf g v) ∧
      (u.banks[k]).gateFrom = (if fieldOf .OBb_BTSEL_EN v = 1 ∧ b.bit .CAL_STATE_RUN = false then some b.now else none) ∧
      u.bit .OBb_BTMEAS_VALID k = (b.bit .OBb_BTMEAS_VALID k && !(!b.bit .OBb_BTSEL_EN k && fieldOf .OBb_BTSEL_EN v == 1)) ∧
      State.Keeps b { u with banks := b.banks }
        (fun g n => (Reg.OBb_BTSEL.fields.contains g || g == .OBb_BTMEAS_VALID) && n == k.val))

/-- R122, R123, R411: membership, the arming tests in order with the result of the first that fails, what an armed command holds, and
CANCEL. -/
def Piece.SheafArming : Prop :=
  ∀ (s : State) (t : Nat) (m : Master) (k : Fin 16) (lo : Word) (sync asap : Bool) (pl : Fin 4),
    let b := s.enter t
    let v := joinPair lo (b.mst m).hold
    let st := b.rd .SHk_STAT_STATE k
    let other := fun (n : Fin 64) => (List.finRange 16).any (fun j => j != k && b.bitOf .SHk_MEMBERS j n)
    let member := fun (n : Fin 64) => b.bitOf .SHk_MEMBERS k n = true
    let now := b.tod pl b.now
    let at_ : Rat := ((b.rd .SHk_AT_S k * 1000000000 + b.rd .SHk_AT_NS k) * 1000 : Nat)
    let early := now + 2000000 ≤ at_
    let badRatio := ∃ n, member n ∧ b.outMode n = 0 ∧ (b.shadowRatio n).valid = false
    let badPhase := ∃ n, member n ∧
      (b.rdI .OUTn_PHASE n + b.rdI .SHk_DPHASE k < -(2 ^ 47) ∨ 2 ^ 47 ≤ b.rdI .OUTn_PHASE n + b.rdI .SHk_DPHASE k)
    (b.answers m .SHk_MEMBERS → st = 0 → Completes (.sheafMembersWrite t m k lo) s fun u =>
      (∀ n : Fin 64, u.bitOf .SHk_MEMBERS k n = (v.getLsbD n && !other n)) ∧
      u.bit .SHk_STAT_CONFLICT k = (List.finRange 64).any (fun n => v.getLsbD n && other n) ∧
      State.Keeps b { u with masters := b.masters } (fun f n => (f == .SHk_MEMBERS || f == .SHk_STAT_CONFLICT) && n == k.val)) ∧
    (b.answers m .SHk_MEMBERS → st ≠ 0 → Completes (.sheafMembersWrite t m k lo) s fun u =>
      u.bit .SHk_EV_WERR k = true ∧ State.Keeps b { u with masters := b.masters } (fun f n => f == .SHk_EV_WERR && n == k.val)) ∧
    (b.answers m .SHk_CMD → ∀ c op, (c, op) ∈ [(Instr.sheafHop t m k sync asap pl, SheafOp.hop),
        (.sheafPhase t m k sync asap pl, .phase), (.sheafHopPhase t m k sync asap pl, .hopPhase)] →
      let hops := op = .hop ∨ op = .hopPhase
      let moves := op = .phase ∨ op = .hopPhase
      let fails := fun (r : Nat) => Completes c s fun u =>
        u.rd .SHk_STAT_RESULT k = r ∧ b.Keeps u (fun f n => (f == .SHk_STAT_RESULT || f == .SHk_CMD_PL) && n == k.val)
      let sound := st = 0 ∧ b.rd .SHk_MEMBERS k ≠ 0 ∧ b.rd .SHk_AT_NS k < 1000000000
      (st ≠ 0 → fails 6) ∧
      (st = 0 → b.rd .SHk_MEMBERS k = 0 → fails 7) ∧
      (st = 0 → b.rd .SHk_MEMBERS k ≠ 0 → 1000000000 ≤ b.rd .SHk_AT_NS k → fails 10) ∧
      (sound → hops ∧ badRatio → fails 8) ∧
      (sound → ¬ (hops ∧ badRatio) → moves ∧ badPhase → fails 9) ∧
      (sound → ¬ (hops ∧ badRatio) → ¬ (moves ∧ badPhase) → ¬ early → asap = false → fails 5) ∧
      (sound → ¬ (hops ∧ badRatio) → ¬ (moves ∧ badPhase) → early ∨ asap = true → Completes c s fun u =>
        u.rd .SHk_STAT_STATE k = 1 ∧ u.rd .SHk_STAT_RESULT k = 0 ∧ u.rd .SHk_CMD_PL k = pl ∧
        (∃ e, u.sheafs[k] = some ⟨op, sync, pl, e, e, false, [], false, false, []⟩ ∧ (early → e = at_) ∧ (¬ early → e = now + 2000000)) ∧
        (hops → ∀ n, member n → b.outMode n = 0 → u.bit .OUTn_STAT_PEND n = true ∧
          (let h : HopPend := ⟨b.shadowRatio n, true, sync, some k.val, 0, none⟩
           (u.outs[n]).hop = some ((b.outs[n]).hop.getD h) ∧ ((b.outs[n]).hop ≠ none → (u.outs[n]).hopNext = some h))) ∧
        ∀ n, ¬ member n → u.outs[n] = b.outs[n])) ∧
    (b.answers m .SHk_CMD →
      (st = 0 → Completes (.sheafCancel t m k pl) s fun u => b.Keeps u (fun f n => f == .SHk_CMD_PL && n == k.val)) ∧
      (st = 1 → Completes (.sheafCancel t m k pl) s fun u =>
        u.rd .SHk_STAT_STATE k = 0 ∧ u.rd .SHk_STAT_RESULT k = 4 ∧ u.sheafs[k] = none ∧
        ∀ n h, member n → (b.outs[n]).hop = some h → h.sheaf = some k.val →
          (u.outs[n]).hop = none ∧ u.bit .OUTn_STAT_PEND n = false ∧ u.ratio n = b.ratio n) ∧
      (st = 2 → Completes (.sheafCancel t m k pl) s fun u =>
        u.bit .SHk_EV_CANCEL_LATE k = true ∧
        b.Keeps u (fun f n => (f == .SHk_EV_CANCEL_LATE || f == .SHk_CMD_PL) && n == k.val)))

/-- R120, R121, R123, R124, R412: the course of an armed command (FIXED at E − 2 µs, the phase commits at E − 100 ns, the ratios at E,
the result at E + 200 ns) and of an output's immediate hop, after which a SYNC one's aligned edge stands at E + 120 ns and a
CONT one's phase runs on at the new period. -/
def Piece.SheafCourse : Prop :=
  ∀ (s : State) (t : Nat) (k : Fin 16) (j : SheafJob) (n : Fin 64) (h : HopPend),
    let b := s.enter t
    let st := b.rd .SHk_STAT_STATE k
    let now := b.tod (Fin.ofNat 4 j.plane) b.now
    let hops := j.op = .hop ∨ j.op = .hopPhase
    let member := b.bitOf .SHk_MEMBERS k n = true
    let o := b.outs[n]
    let e := b.devInstant (Fin.ofNat 4 j.plane) j.e
    let per := h.ratio.val * b.tVco (b.outApll n)
    let hopped := fun (u : State) =>
      u.bit .OUTn_STAT_PEND n = o.hopNext.isSome ∧ (u.outs[n]).hop = o.hopNext ∧ (u.outs[n]).hopNext = none ∧
      (h.ok = true →
        (u.rd .OUTn_INT n, u.rd .OUTn_NUM n, u.rd .OUTn_DEN n) = (h.ratio.int % 2 ^ 34, h.ratio.num % 2 ^ 32, h.ratio.den % 2 ^ 32) ∧
        u.shadowRatio n = b.ratio n) ∧
      (h.ok = false → u.ratio n = b.ratio n ∧ u.shadowRatio n = b.shadowRatio n)
    (b.timebase = true → b.sheafs[k] = some j →
      (st = 1 → j.e ≤ now + 2000000 → Completes (.sheafFix t k) s fun u =>
        u.rd .SHk_STAT_STATE k = 2 ∧ State.Keeps b { u with outs := b.outs } (fun f i => f == .SHk_STAT_STATE && i == k.val) ∧
        b.Repredicts u n ∧ (¬ member → u.outs[n] = o)) ∧
      (st = 1 → now + 2000000 < j.e → Completes (.sheafFix t k) s fun u => b.Keeps u (fun _ _ => false)) ∧
      (st = 2 → j.placed = false → j.e ≤ now + 100000 → Completes (.sheafPlace t k) s fun u =>
        u.sheafs[k] = some { j with placed := true, phased := if j.op = .hop then [] else (b.members k).map (fun i => i.val) } ∧
        (j.op ≠ .hop → member → n.val ∈ j.phased → u.rd .OUTn_PHASE n = b.rd .OUTn_PHASE n ∧ u.outs[n] = o) ∧
        (j.op ≠ .hop → member → n.val ∉ j.phased →
          u.rdI .OUTn_PHASE n = max (-(2 ^ 47)) (min (2 ^ 47 - 1) (b.rdI .OUTn_PHASE n + b.rdI .SHk_DPHASE k)) ∧
          (b.outOn n = true → (u.outs[n]).phaseFrom =
            some ⟨e, b.rdI .OUTn_PHASE n, o.asStep, j.op == .hopPhase && b.outMode n == 0⟩) ∧
          (b.outOn n = false → (u.outs[n]).phi = (u.rdI .OUTn_PHASE n : Rat))) ∧
        (j.op = .hop ∨ ¬ member → u.rd .OUTn_PHASE n = b.rd .OUTn_PHASE n ∧ u.outs[n] = b.outs[n])) ∧
      (st = 2 → j.placed = true → j.effective = false → j.e ≤ now → hops → Completes (.hopEffective t (.sheaf k)) s fun u =>
        (∃ l, u.sheafs[k] = some { j with effective := true, failed := l } ∧
          (member → (b.outs[n]).hop = some h → h.sheaf = some k.val → (n.val ∈ l ↔ h.ok = false))) ∧
        (member → (b.outs[n]).hop = some h → h.sheaf = some k.val → hopped u) ∧
        (¬ member → u.outs[n] = b.outs[n] ∧ u.ratio n = b.ratio n)) ∧
      (j.effective = true → j.e + 200000 ≤ now → 0 ≤ j.e → Completes (.sheafDone t k) s fun u =>
        u.sheafs[k] = none ∧ u.rd .SHk_STAT_STATE k = 0 ∧
        u.rd .SHk_STAT_RESULT k = (if j.failed ≠ [] then 2 else if j.slipped then 3 else 1) ∧
        (j.e < 2 ^ 87 → u.rd .SHk_DONE_AT_S k = (j.e / 1000000000000).floor.toNat ∧
          u.rd .SHk_DONE_AT_NS k = (j.e / 1000).floor.toNat % 1000000000) ∧
        u.bit .SHk_EV_DONE k = true ∧ (∀ e : Fin 4, (u.evpend[e]).getLsbD (32 + k) = true) ∧
        (hops → member → b.outMode n = 0 →
          if n.val ∈ j.failed then u.bit .OUTn_EV_HOP_FAIL n = true else u.bit .OUTn_EV_HOP_DONE n = true))) ∧
    ((b.outs[n]).hop = some h → h.sheaf = none → h.at_ ≤ b.now → Completes (.hopEffective t (.out n)) s fun u =>
      hopped u ∧ (h.ok = true → b.outOn n = true → h.moved = none →
        (h.sync = true → (u.outs[n]).next = some (⟨0, (h.at_ : Rat) + 120000, per, 0, 0⟩, false)) ∧
        (h.sync = false → o.anchoring = false → (u.outs[n]).cur = { b.carry n o.cur h.at_ with period := per })) ∧
      (if h.ok then u.bit .OUTn_EV_HOP_DONE n = true else u.bit .OUTn_EV_HOP_FAIL n = true) ∧ b.OutKeeps u n)

/-- Sheafs: arming tests and the course of an armed command: every part holds. -/
def Obligations.Sheafs : Prop := Piece.SheafArming ∧ Piece.SheafCourse

/-! ## Time of day and stamps -/

/-- R141 to R144: a TOD command takes its operands and is pending, or is refused; at its effect TODp moves by the step, PBO follows
it while the plane is in ACQUIRE or LOCKED, and STEPPED is set; a second boundary sets SEC and pulses the plane's line. -/
def Obligations.TimeOfDay : Prop :=
  ∀ (s : State) (t : Nat) (m : Master) (p : Fin 4) (c : TodCmd) (tick sec : Nat),
    let b := s.enter t
    let d := b.tods[p]
    let now := b.tod p b.now
    let whole := (now / 1000000000000).floor.toNat
    let step := match c with
      | .setTick x ns => (((x * 1000000000 + ns) * 1000 : Nat) : Rat) - now
      | .setSec x => ((x * 1000000000000 : Nat) : Rat) - (now / 1000000000000).floor * 1000000000000
      | .adj x => (x : Rat) / 64
    let loop := b.rd .PLn_STATE_STATE p = 1 ∨ b.rd .PLn_STATE_STATE p = 2
    let pbo := b.rdI .PLn_PBO p - roundFree 25 (b.stepFor (srcCode (b.rd .PLn_REFSEL_SRC p)) step * 64)
    let fits := -(2 ^ 47) ≤ pbo ∧ pbo < 2 ^ 47
    (b.answers m .TODp_CMD → ∀ x y, (x, y) ∈ [(Instr.todSetTick t m p, TodCmd.setTick (b.rd .TODp_SET_S p) (b.rd .TODp_SET_NS p)),
        (.todSetSec t m p, .setSec (b.rd .TODp_SET_S p)), (.todAdj t m p, .adj (b.rdI .TODp_ADJ p))] →
      let refused := d.cmd ≠ none ∨ (x = .todSetTick t m p ∧ 1000000000 ≤ b.rd .TODp_SET_NS p)
      (refused → Completes x s fun u => u.bit .TODp_EV_REFUSED p = true ∧
        b.Keeps u (fun f n => f == .TODp_EV_REFUSED && n == p.val)) ∧
      (¬ refused → Completes x s fun u => u.tods[p] = { d with cmd := some (y, b.tick, whole) } ∧ u.bit .TODp_STAT_PEND p = true ∧
        (∀ k, k ≠ p → u.tods[k] = b.tods[k]) ∧
        State.Keeps b { u with tods := b.tods } (fun f n => f == .TODp_STAT_PEND && n == p.val))) ∧
    (d.cmd = some (c, tick, sec) → b.cmdDue p c tick sec = true →
      (loop → fits) → Completes (.todStepApply t p) s fun u =>
        u.tod p b.now = now + step ∧ (u.tods[p]).cmd = none ∧ u.bit .TODp_STAT_PEND p = false ∧ u.bit .TODp_EV_STEPPED p = true ∧
        ((∀ x, c ≠ .adj x) → u.bit .TODp_STAT_SEC_VALID p = true) ∧
        u.rdI .PLn_PBO p = (if b.rd .PLn_STATE_STATE p = 1 ∨ b.rd .PLn_STATE_STATE p = 2 then pbo else b.rdI .PLn_PBO p) ∧
        (∀ k, k ≠ p → u.tods[k] = b.tods[k])) ∧
    (d.cmd = some (c, tick, sec) → b.cmdDue p c tick sec = true → loop → ¬ fits → Completes (.todStepApply t p) s fun u =>
      u.tod p b.now = now ∧ (u.tods[p]).cmd = none ∧ u.bit .TODp_STAT_PEND p = false ∧ u.bit .TODp_EV_REFUSED p = true ∧
      u.rd .PLn_PBO p = b.rd .PLn_PBO p) ∧
    (d.cmd = some (c, tick, sec) → b.cmdDue p c tick sec = false → Completes (.todStepApply t p) s fun u =>
      b.Keeps u (fun _ _ => false)) ∧
    (b.timebase = true → d.secDone < whole → Completes (.secondBoundary t p) s fun u =>
      u.bit .TODp_EV_SEC p = true ∧ (∀ e : Fin 4, (u.evpend[e]).getLsbD (24 + p) = true) ∧ (u.tods[p]).secDone = whole ∧
      ((b.utc.leaps.any (fun l => d.lastSec < l.1 && l.1 ≤ whole)) = true → u.bit .TODp_EV_LEAP p = true) ∧ u.tod p b.now = now ∧
      State.Keeps b { u with tods := b.tods, outs := b.outs } (fun f n => (f == .TODp_EV_SEC || f == .TODp_EV_LEAP) && n == p.val) ∧
      (b.cal.waiting = [] → u.outs = b.outs)) ∧
    (b.timebase = false ∨ whole ≤ d.secDone → Completes (.secondBoundary t p) s fun u => b.Keeps u (fun _ _ => false))

/-- R139, R149 to R152, R160: an event of an enabled channel's source is counted, stamped with the record of its instant, or lost; one whose
instant lies ahead waits until it has come; REC0 pops;
LOST is returned and cleared, but for what is counted in that very cycle (R7); EN = 0 flushes. -/
def Piece.Stamps : Prop :=
  ∀ (s : State) (t : Nat) (m : Master) (j : Fin 16) (v : Word) (i : Int) (r : TimeRec) (rest : List TimeRec),
    let b := s.enter t
    let x := b.stamps[j]
    let p := b.stampPlane j
    let src := b.rd .STAMPj_CFG_SRC j
    let div := max 1 (b.rd .STAMPj_CFG_DIV j)
    let instant := (src < 16 ∧ i = b.tdcTime src b.now - b.rdI .INn_DELAY src) ∨ (src = 16 ∧ i = b.tdcTime 16 b.now) ∨
      (17 ≤ src ∧ src ≤ 20 ∧ i = b.now) ∨
      (32 ≤ src ∧ src ≤ 95 ∧ i = (b.now : Int) + b.rdI .OUTn_DELAY (src - 32))
    let full := x.fifo.length ≥ 64 ∨ ∃ l, x.last = some l ∧ i - l < 500000
    let one := fun (u : State) => (∀ k, k ≠ j → u.stamps[k] = b.stamps[k])
    ((s.begin t).hif.spiHeld = [] → ∀ w, w ∈ x.waits → (b.now : Int) < w) ∧
    (b.bit .STAMPj_CFG_EN j = true → b.boot.held = false → instant → (b.now : Int) < i → Completes (.stampCapture t j) s fun u =>
      u.stamps[j] = { x with waits := x.waits ++ [i] } ∧ one u ∧ State.Keeps b { u with stamps := b.stamps } (fun _ _ => false)) ∧
    (b.bit .STAMPj_CFG_EN j = true → b.boot.held = false → instant → i ≤ (b.now : Int) →
      (x.count + 1 < div → Completes (.stampCapture t j) s fun u => u.stamps[j] = { x with count := x.count + 1 } ∧ one u ∧
        State.Keeps b { u with stamps := b.stamps } (fun _ _ => false)) ∧
      (div ≤ x.count + 1 → ¬ full → Completes (.stampCapture t j) s fun u =>
        u.stamps[j] = { x with fifo := x.fifo ++ [b.recordWith p (b.todAt p i) (b.stampBound j).word], count := 0, last := some i } ∧ one u ∧
        State.Keeps b { u with stamps := b.stamps } (fun _ _ => false)) ∧
      (div ≤ x.count + 1 → full → Completes (.stampCapture t j) s fun u =>
        u.stamps[j] = { x with count := 0 } ∧ u.rd .STAMPj_STAT_LOST j = min 65535 (b.rd .STAMPj_STAT_LOST j + 1) ∧
        u.bit .STAMPj_STAT_OVF j = true ∧ one u ∧
        State.Keeps b { u with stamps := b.stamps } (fun f n => (f == .STAMPj_STAT_LOST || f == .STAMPj_STAT_OVF) && n == j.val))) ∧
    (b.bit .STAMPj_CFG_EN j = false ∨ b.boot.held = true ∨ (20 < src ∧ src < 32) ∨ 95 < src → Completes (.stampCapture t j) s fun u =>
      b.Keeps u (fun _ _ => false)) ∧
    (b.answers m .STAMPj_REC →
      (x.fifo = r :: rest → Completes (.stampPop t m j) s fun u =>
        (u.mst m).data = r.w0 ∧ u.stamps[j] = { x with fifo := rest } ∧ one u ∧
        (∀ k, k < 6 → u.latched m (Reg.addr .STAMPj_REC j + 4 * k) = r.words.getD k 0) ∧
        State.Keeps b { u with stamps := b.stamps, masters := b.masters } (fun _ _ => false)) ∧
      (x.fifo = [] → Completes (.stampPop t m j) s fun u => (u.mst m).data.getLsbD 31 = true ∧
        State.Keeps b { u with masters := b.masters } (fun _ _ => false)) ∧
      (x.fifo.length ≤ 64 → Completes (.stampLostRead t m j) s fun u =>
        (u.mst m).data.toNat = x.fifo.length + b.rd .STAMPj_STAT_OVF j * 128 + b.rd .STAMPj_STAT_LOST j * 65536 ∧
        u.rd .STAMPj_STAT_LOST j = b.countNow .STAMPj_STAT_LOST j % 65536 ∧
        State.Keeps b { u with masters := b.masters } (fun f n => f == .STAMPj_STAT_LOST && n == j.val)) ∧
      Completes (.stampCfgWrite t m j v) s (fun u =>
        (∀ f, f ∈ Reg.STAMPj_CFG.fields → u.rd f j = fieldOf f v) ∧
        u.stamps[j] = (if fieldOf .STAMPj_CFG_EN v = 0 then StampState.init else x) ∧ one u ∧
        State.Keeps b { u with stamps := b.stamps } (fun f n => Reg.STAMPj_CFG.fields.contains f && n == j.val)))

/-- R147, R151, R160: STAMP_NOW.GO captures the record of every plane at once; TODp_REC0 returns word 0 of the plane's record and
latches its six words; TEBp_TOTAL returns the bound and latches the seven terms and the provenance. -/
def Piece.TimeReads : Prop :=
  ∀ (s : State) (t : Nat) (m : Master) (p : Fin 4),
    let b := s.enter t
    let x := (b.planes[p]).terms
    let r := b.record p
    b.answers m .TODp_REC →
      Completes (.stampNow t m) s (fun u => (∀ q : Fin 4, u.stampNow[q] = b.record q) ∧
        State.Keeps b { u with stampNow := b.stampNow } (fun _ _ => false)) ∧
      Completes (.todRecRead t m p) s (fun u =>
        (u.mst m).data = r.w0 ∧ (∀ k, k < 6 → u.latched m (Reg.addr .TODp_REC p + 4 * k) = r.words.getD k 0) ∧
        State.Keeps b { u with masters := b.masters } (fun _ _ => false)) ∧
      Completes (.tebTotalRead t m p) s (fun u =>
        (u.mst m).data.toNat = b.rd .TEBp_TOTAL p ∧
        (∀ y, y ∈ [(Reg.TEBp_REF, x.ref), (.TEBp_INP, x.inp), (.TEBp_LOOP, x.loop), (.TEBp_SW, x.sw), (.TEBp_GROW, x.grow),
          (.TEBp_CAL, x.cal), (.TEBp_OUTP, x.outp)] → u.latched m (y.1.addr p) = BitVec.ofNat 32 y.2.word) ∧
        u.latched m (Reg.addr .TEBp_PROV p) = BitVec.ofNat 32 (b.planes[p]).prov ∧
        State.Keeps b { u with masters := b.masters } (fun _ _ => false))

/-- Stamp channels, captured records and coherent time reads: every part holds. -/
def Obligations.StampsAndTimeReads : Prop := Piece.Stamps ∧ Piece.TimeReads

/-! ## Lenuz links -/

/-- R214 to R222, R228, R231: a frame sent on each microsecond, with its claim, its stamp and record, and idle characters in SHED; a
frame received, counted as bad or accepted, with the pairing of its stamps into the round trip and the offset, which in a
pair-swap run goes to a gate. -/
def Obligations.LinkFrames : Prop :=
  ∀ (s : State) (t : Nat) (n : Fin 4) (mark : Nat) (start rest : List Symbol) (y : List Byte) (u2 u3 k j : Nat),
    let b := s.enter t
    let l := b.links[n]
    let st := b.lz n
    let p := b.lzPlane n
    let us := (b.now - b.tick0) / 1000000
    let heard := 2 ≤ st ∧ st ≤ 5
    let body := lzBytes (start ++ rest)
    let w := (List.range 16).map (fun i => BitVec.ofNat 32 (leAt (body.take 64) (4 * i) 4))
    let f := fun (i lo len : Nat) => (w.getD i 0).toNat / 2 ^ lo % 2 ^ len
    let good := body.length = 68 ∧ leAt body 64 4 = (crc32c (body.take 64)).toNat ∧ f 0 28 4 = 1
    let bad := (false :: l.recent).take 16
    let t1 : TimeRec := ⟨w.getD 1 0, w.getD 2 0, w.getD 3 0, w.getD 4 0, w.getD 5 0, w.getD 6 0⟩
    let u1 := (t1.sec * 1000000000 + t1.ns) * 65536 + t1.subns
    let out := unitsPs u2 - unitsPs u1
    let back : Rat := (((echoUnits t1.sec (f 9 0 16) (f 8 0 30) (f 9 16 16) - u3 : Int)) : Rat) * 1000 / 65536
    let pairs := stampOf l.arrivals ((f 0 0 16 + 65535) % 65536) = some u2 ∧ stampOf l.departs (f 7 0 16) = some u3
    let gate := max 10 (min 1000 (b.rd .LZn_ACAL_GATE n))
    let falls := fun (i : Fin 3) => (i = 0 ∧ k < 1000 * gate) ∨ (i = 1 ∧ 1000 * (gate + 1) ≤ k ∧ k < 1000 * (2 * gate + 1)) ∨
      (i = 2 ∧ 1000 * (2 * gate + 2) ≤ k ∧ k < 1000 * (3 * gate + 2))
    let own := b.rd .LZn_ACT_PRIO n
    let id := (Config.uid.setWidth 32 : Word).toNat
    let claim := b.bit .LZn_STAT_ACTIVE n
    let claims := b.rd .LZn_CFG_ROLE n == 2 && !b.bit .LZn_ACT_YIELD n && (match l.peer with
      | none => claim
      | some q =>
        if claim then !(st == 4 && q.active && (own < q.prio || (own == q.prio && id < q.devid.toNat)))
        else st == 4 && !q.active && (q.prio < own || (own == q.prio && q.devid.toNat < id)))
    (y.length = 68 → lzBytes ([lzStart, lzStart2] ++ y.map Symbol.d ++ [lzEnd]) = y) ∧
    (b.timebase = true → st ≠ 0 → st ≠ 6 → l.cal = none → l.sentUs ≠ some us → Completes (.lzFrameTx t n us) s fun u =>
      u.sent = b.sent ++ [.frame n ((b.lzClaim n).lzFrame n us)] ∧ (u.links[n]).seq = (l.seq + 1) % 65536 ∧
      (u.links[n]).sentUs = some us ∧ u.bit .LZn_STAT_ACTIVE n = claims ∧
      (let mark : Rat := (b.lzMarkAt n us : Nat)
       let at_ := b.todAt p mark
       (u.links[n]).txRec = some (b.recordWith p at_ (b.rd .TEBp_TOTAL p)) ∧ (u.links[n]).txWord = b.wordInForce p mark ∧
       (u.links[n]).departs = ((l.seq % 65536, todUnits at_) :: l.departs).take 256) ∧ b.LinkKeeps u n) ∧
    (b.timebase = true → st = 6 → l.sentUs ≠ some us → Completes (.lzFrameTx t n us) s fun u =>
      u.sent = b.sent ++ [.frame n (List.replicate (lzSpan n us) lzIdle)] ∧ u.links[n] = { l with sentUs := some us } ∧
      b.LinkKeeps u n) ∧
    (b.timebase = false ∨ st = 0 ∨ l.sentUs = some j ∨ j ≠ us → Completes (.lzFrameTx t n j) s fun u => b.Keeps u (fun _ _ => false)) ∧
    (heard → ¬ good → Completes (.lzFrameRx t n mark start rest) s fun u =>
      u.rd .LZn_ERRCNT n = min 65535 (b.rd .LZn_ERRCNT n + 1) ∧
      ((bad.filter (!·)).length < 3 → u.lz n = st ∧ (u.links[n]).recent = bad ∧ (u.links[n]).run = 0) ∧
      (3 ≤ (bad.filter (!·)).length → u.lz n = 1 ∧ u.bit .LZn_EV_STATE_CHG n = true) ∧ b.LinkKeeps u n) ∧
    (heard → good → Completes (.lzFrameRx t n mark start rest) s fun u =>
      u.rd .LZn_ERRCNT n = b.rd .LZn_ERRCNT n ∧ u.lz n = (if st = 2 ∧ 64 ≤ l.run + 1 then 3 else st) ∧
      (u.links[n]).validAt = b.now ∧ (u.links[n]).arrivals = ((f 0 0 16, todUnits (b.todAt p mark)) :: l.arrivals).take 256 ∧
      (∃ q, (u.links[n]).peer = some q ∧ q.seq = f 0 0 16 ∧ q.role = f 0 16 2 ∧ q.teb = w.getD 4 0 ∧ q.prov = w.getD 5 0 ∧
        q.prio = f 7 16 8 ∧ q.devid = w.getD 12 0 ∧ q.stepcnt = f 0 22 4) ∧
      u.rd .LZn_STAT_PEER_ROLE n = f 0 16 2 ∧ b.LinkKeeps u n) ∧
    (st = 3 ∨ st = 4 → good → l.cal = none → f 0 19 1 = 0 → pairs → Completes (.lzFrameRx t n mark start rest) s fun u =>
      (u.links[n]).rtd = l.rtd.add (to64 (out + back)) ∧
      (u.links[n]).fresh = (b.now, to64 (to64 ((out - back) / 2) - (b.rdI .LZn_ASYM n : Rat) / 64 / 2)) :: l.fresh ∧
      u.bit .LZn_STAT_RANGE n = decide (120000000 < to64 (out + back))) ∧
    (st = 5 → good → l.cal = some (k + 1) → pairs → Completes (.lzFrameRx t n mark start rest) s fun u =>
      (u.links[n]).fresh = l.fresh ∧
      (∀ i, falls i → (u.links[n]).gates[i] = (l.gates[i]).add (to64 ((out - back) / 2))) ∧
      (∀ i, ¬ falls i → (u.links[n]).gates[i] = l.gates[i])) ∧
    (¬ heard → Completes (.lzFrameRx t n mark start rest) s fun u => b.Keeps u (fun _ _ => false))

/-- R217, R221, R222, R229, R231: alignment, the millisecond's mean with the judgement of lock, silence, LZn_CFG, takeover and the
discard count. -/
def Piece.LinkStates : Prop :=
  ∀ (s : State) (t : Nat) (m : Master) (n : Fin 4) (v : Word),
    let b := s.enter t
    let l := b.links[n]
    let st := b.lz n
    let mean := l.rtd.sum / (l.rtd.n : Rat)
    let near := ∃ q, l.upMean = some q ∧ ratAbs (mean - q) < 20
    let moved := ∃ q, l.upMean = some q ∧ 20 ≤ ratAbs (mean - q)
    let goes := fun (u : State) (x : Nat) => u.lz n = x ∧
      (x ≠ st → u.bit .LZn_EV_STATE_CHG n = true ∧ ∀ e : Fin 4, (u.evpend[e]).getLsbD (52 + n) = true)
    let on := b.bit .LZn_CFG_EN n
    (st = 1 → Completes (.lzAlignFound t n) s fun u => goes u 2 ∧ b.LinkKeeps u n) ∧
    (st ≠ 1 → Completes (.lzAlignFound t n) s fun u => b.Keeps u (fun _ _ => false)) ∧
    (l.rtdFrom + 1000000000 ≤ b.now → l.rtd.n ≠ 0 → Completes (.lzRtdMean t n) s fun u =>
      u.rd .LZn_RTD n = fitNat 11 32 (roundNearest 42 mean) ∧
      u.rd .LZn_RTD_SD n = fitNat 12 Field.LZn_RTD_SD.info.width (roundNearest 43 (sqrtOf 32 (l.rtd.sq / (l.rtd.n : Rat) - mean * mean))) ∧ (u.links[n]).mean = some mean ∧ (u.links[n]).upMean = some mean ∧ (u.links[n]).rtdFrom = b.now ∧
      (st = 3 → near ∧ 16 ≤ l.steady + 1 ∧ l.upAt + 1000000000 ≤ b.now ∧ b.bit .LZn_STAT_RANGE n = false → goes u 4) ∧
      (st = 3 → ¬ (near ∧ 16 ≤ l.steady + 1 ∧ l.upAt + 1000000000 ≤ b.now ∧ b.bit .LZn_STAT_RANGE n = false) → goes u 3) ∧
      (st = 4 → moved → goes u 3) ∧ (st = 4 → ¬ moved → goes u 4) ∧ b.LinkKeeps u n) ∧
    (2 ≤ st → st ≤ 5 → l.validAt + 4000000 ≤ b.now → Completes (.lzRxTimeout t n) s fun u =>
      goes u 1 ∧ (st = 4 → b.records (58 + n) = true → u.bitOf .FLT_STATUS 0 (58 + n) = true) ∧
      (st = 5 → (u.links[n]).cal = none ∧ (l.cal ≠ none → u.rd .LZn_ACAL_RESULT n = 3)) ∧ b.LinkKeeps u n) ∧
    (b.now < l.validAt + 4000000 → Completes (.lzRxTimeout t n) s fun u => b.Keeps u (fun _ _ => false)) ∧
    (b.answers m .LZn_CFG → Completes (.lzCfgWrite t m n v) s fun u =>
      (∀ f, f ∈ Reg.LZn_CFG.fields → u.rd f n = fieldOf f v) ∧
      (on = false → fieldOf .LZn_CFG_EN v = 1 → goes u (if 2 ≤ b.rd .SHED_STATE_STAGE then 6 else 1)) ∧
      (on = true → fieldOf .LZn_CFG_EN v = 0 → goes u 0) ∧ (on = (fieldOf .LZn_CFG_EN v == 1) → u.lz n = st) ∧ b.LinkKeeps u n) ∧
    (on = true → b.rd .LZn_CFG_ROLE n = 2 → st ≠ 4 → b.bit .LZn_STAT_ACTIVE n = false → b.bit .LZn_ACT_TAKEOVER_EN n = true →
      b.bit .LZn_ACT_YIELD n = false → b.lzPeerGone n = true → Completes (.lzTakeover t n) s fun u =>
        u.bit .LZn_STAT_ACTIVE n = true ∧ u.bit .LZn_EV_TAKEOVER n = true ∧ u.bit .LZn_EV_STATE_CHG n = true ∧
        u.lz n = (if st = 5 then 1 else st) ∧ b.LinkKeeps u n) ∧
    (b.answers m .LZn_ERRCNT → Completes (.lzErrcntRead t m n) s fun u =>
      (u.mst m).data.toNat = b.rd .LZn_ERRCNT n ∧ u.rd .LZn_ERRCNT n = b.countNow .LZn_ERRCNT n % 65536 ∧
      State.Keeps b { u with masters := b.masters } (fun f k => f == .LZn_ERRCNT && k == n.val))

/-- R228: GO starts a pair-swap run at the follower's end of a LOCKED link whose peer is not in one, and is refused otherwise; the
next frame is its origin, with STATE = CAL, and the pairs are swapped from frame 1000 G to frame 1000 (2 G + 1); after the third
gate α_c is the mean of the outer gates less the middle one. -/
def Piece.LinkPairSwap : Prop :=
  ∀ (s : State) (t : Nat) (m : Master) (n : Fin 4) (v : Word) (k : Nat),
    let b := s.enter t
    let l := b.links[n]
    let st := b.lz n
    let role := b.rd .LZn_CFG_ROLE n
    let follower := role = 1 ∨ role = 3 ∨ (role = 2 ∧ b.bit .LZn_STAT_ACTIVE n = false)
    let free := ∃ q, l.peer = some q ∧ q.cal = false
    let gate := max 10 (min 1000 (b.rd .LZn_ACAL_GATE n))
    let mean := fun (i : Fin 3) => (l.gates[i]).mean
    let var : Rat := ((l.gates[(0 : Fin 3)]).dev + (l.gates[(1 : Fin 3)]).dev + (l.gates[(2 : Fin 3)]).dev) /
      ((l.gates[(0 : Fin 3)]).n + (l.gates[(1 : Fin 3)]).n + (l.gates[(2 : Fin 3)]).n : Nat)
    let us := (b.now - b.tick0) / 1000000
    let x : Rat := var * 27 / 2 / ((1000 * gate : Nat) : Rat)
    (b.answers m .LZn_ACAL →
      (st = 4 → free → follower → Completes (.lzAcalGo t m n v) s fun u =>
        u.links[n] = { l with cal := some 0, gates := Vector.replicate 3 GateSum.zero } ∧ u.lz n = 4 ∧
        b.LinkKeeps u n ∧ u.rd .LZn_ACAL_GATE n = fieldOf .LZn_ACAL_GATE v) ∧
      (st ≠ 4 ∨ ¬ free ∨ ¬ follower → Completes (.lzAcalGo t m n v) s fun u =>
        u.lz n = st ∧ u.rd .LZn_ACAL_RESULT n = 2 ∧ u.links[n] = l ∧
        b.Keeps u (fun f i => (f == .LZn_ACAL_RESULT || f == .LZn_ACAL_GATE) && i == n.val))) ∧
    (b.timebase = true → l.sentUs ≠ some us →
      (st = 4 → l.cal = some 0 → Completes (.lzFrameTx t n us) s fun u =>
        u.lz n = 5 ∧ (u.links[n]).cal = some 1 ∧ u.bit .LZn_STAT_SWAPPED n = false ∧ u.bit .LZn_EV_STATE_CHG n = true ∧
        b.LinkKeeps u n) ∧
      (st = 5 → l.cal = some (k + 1) → Completes (.lzFrameTx t n us) s fun u =>
        u.lz n = 5 ∧ (u.links[n]).cal = some (k + 2) ∧
        u.bit .LZn_STAT_SWAPPED n = decide (1000 * gate ≤ k + 1 ∧ k + 1 < 1000 * (2 * gate + 1)) ∧ b.LinkKeeps u n)) ∧
    (st = 5 → l.cal = some k → 1000 * (3 * gate + 2) < k → Completes (.lzAcalEnd t n) s fun u =>
      u.rd .LZn_ASYM n = fitSigned 13 32 (roundNearest 44 (((mean 0 + mean 2) / 2 - mean 1) * 64)) ∧
      u.rd .LZn_ASYM_UNC n = fitNat 14 32 ((4 + ceilSqrt 1 x.num.toNat x.den : Nat) : Int) ∧
      u.rd .LZn_ACAL_RESULT n = 1 ∧ u.bit .LZn_STAT_SWAPPED n = false ∧ u.bit .LZn_EV_ACAL_DONE n = true ∧
      (u.links[n]).cal = none ∧ u.lz n = 4 ∧ b.LinkKeeps u n)

/-- Link states, takeover and the pair-swap run: every part holds. -/
def Obligations.LinkStatesAndPairSwap : Prop := Piece.LinkStates ∧ Piece.LinkPairSwap

/-! ## The token engine -/

/-- R236, R237, R242, R253, R254, R259, R260: doorbells, the fetch of a descriptor, its admission with the key-epoch snapshot, the stamp
stage, heads, ring disables, the NTS keys and the counters; the ready rings share admission by WEIGHT, in the model's rounds of credit (entry 93). -/
def Obligations.TokenRings : Prop :=
  ∀ (s : State) (t : Nat) (m : Master) (q p : Fin 4) (v : Word) (d e : Fetched) (rest tl : List Fetched) (tag : Fin 512) (j : Job)
      (c : TokCounter),
    let b := s.enter t
    let k := b.tok
    let cq := fun (q : Fin 4) => (Fin.ofNat 4 (b.rd .TOK_SQq_CFG_CQ q) : Fin 4)
    let n := b.cqSize q
    let dist := fun (x : Nat) => (x + n - b.rd .TOK_CQq_HEAD q % n) % n
    let slots := fun (d : Fetched) => if (b.earlyStatus d).isSome then [] else b.jobSlots d
    let pins := (slots d).map (fun x => (x, b.rd .GRN_SLOTn_EPOCH x))
    let held := fun (u : State) (x : Nat) => u.tok.cache.any (fun e => e.slot == x && e.epoch == b.rd .GRN_SLOTn_EPOCH x) = true
    let ready := fun (q : Fin 4) (d : Fetched) (rest : List Fetched) => k.fetched[q] = d :: rest ∧ b.tokStop = 0 ∧ b.dmaOpen = true ∧
      (∀ x ∈ k.jobs, x.tag ≠ tag.val) ∧ b.cqFree (cq q) ≠ 0 ∧ (d.flags.testBit 0 = true → ∀ x ∈ k.jobs, x.sq ≠ q)
    let room := fun (d : Fetched) => k.cache.length + (slots d).length ≤ 16
    let admitted := fun (credit : Vector Nat 4) (u : State) =>
      u.tok.jobs = k.jobs ++ [{ tag := tag, sq := q, cq := cq q, inp := d, pins := pins, admitSec := (b.record d.plane).sec, stamp := none
                                work := none, result := (b.earlyStatus d).map (fun st => ⟨st, [], 0, 0, 0xFF⟩) }] ∧
      u.tok.fetched = k.fetched.set q rest ∧ u.tok.credit = credit.set q (credit[q] - 1) ∧ (∀ x ∈ slots d, held u x)
    let frame := fun (u : State) (may : Field → Bool) => State.Keeps b { u with tok := b.tok, clk := b.clk } (fun f _ => may f)
    (b.answers m .TOK_SQq_TAIL → Completes (.tokSqDoorbell t m q v) s fun u =>
      u.rd .TOK_SQq_TAIL q = v.toNat % 65536 ∧ u.tok.jobs = k.jobs ∧ u.tok.fetched = k.fetched ∧ frame u (· == .TOK_SQq_TAIL)) ∧
    (b.bit .TOK_SQq_CFG_EN q = true → b.dmaOpen = true → 0 < b.sqCount q →
      d.ok = true → d.desc.length = 64 → d.src.length = d.srcLen → (ofMode 0 d = true → d.pre.length = leAt d.desc 38 2) →
      Completes (.tokDescFetch t q d.desc d.src d.pre true) s fun u =>
        u.rd .TOK_SQq_HEAD q = (b.rd .TOK_SQq_HEAD q + 1) % b.sqSize q % 65536 ∧
        u.tok.fetched = k.fetched.set q (k.fetched[q] ++ [d]) ∧ u.tok.jobs = k.jobs ∧ frame u (· == .TOK_SQq_HEAD)) ∧
    (ready q d rest → room d →
      (k.credit[q] ≠ 0 → Completes (.tokAdmit t q tag) s fun u => admitted k.credit u ∧ frame u (fun _ => false)) ∧
      ((∀ x : Fin 4, k.credit[x] = 0) → Completes (.tokAdmit t q tag) s fun u =>
        admitted (Vector.ofFn (fun x => max 1 (b.rd .TOK_SQq_CFG_WEIGHT x))) u ∧ frame u (fun _ => false)) ∧
      (k.credit[q] = 0 → ready p e tl → room e → k.credit[p] ≠ 0 → Completes (.tokAdmit t q tag) s fun u =>
        b.Keeps u (fun _ _ => false))) ∧
    (ready q d rest → (∃ x ∈ slots d, ¬ held b x) → k.cache.length = 16 → (∀ e ∈ k.cache, b.pinned e = true) → k.waiting[q] = false →
      Completes (.tokAdmit t q tag) s fun u =>
        u.tok.jobs = k.jobs ∧ u.tok.fetched = k.fetched ∧
        u.rd .TOK_KC_WAIT = min (2 ^ 32 - 1) (b.rd .TOK_KC_WAIT + 1) ∧ frame u (· == .TOK_KC_WAIT)) ∧
    (b.job tag = some j → Completes (.tokStampStage t tag) s fun u =>
      let due := j.stamp = none ∧ (j.result ≠ none ∨ j.work ≠ none ∨ (j.inp.type ≠ 1 ∧ j.inp.type ≠ 4))
      let r := b.record j.inp.plane
      (due → u.job tag = some { j with stamp := some (r, b.ntpOffset r.sec) }) ∧ (¬ due → u.job tag = some j) ∧
      u.tok = { k with jobs := u.tok.jobs } ∧ (∀ x, x.tag ≠ tag.val → (x ∈ u.tok.jobs ↔ x ∈ k.jobs)) ∧
      State.Keeps b { u with tok := b.tok } (fun _ _ => false)) ∧
    (b.answers m .TOK_CTRL →
      (v.toNat % 65536 < n → dist (v.toNat % 65536) ≤ dist (b.rd .TOK_CQq_TAIL_TAIL q) → Completes (.tokCqHeadWrite t m q v) s fun u =>
        u.rd .TOK_CQq_HEAD q = v.toNat % 65536 ∧ b.Keeps u (fun f i => f == .TOK_CQq_HEAD && i == q.val)) ∧
      (n ≤ v.toNat % 65536 ∨ dist (b.rd .TOK_CQq_TAIL_TAIL q) < dist (v.toNat % 65536) → Completes (.tokCqHeadWrite t m q v) s fun u =>
        u.bit .TOK_EV_WERR = true ∧ b.Keeps u (fun f _ => f == .TOK_EV_WERR)) ∧
      Completes (.tokSqDisable t m q v) s (fun u =>
        u.bit .TOK_SQq_CFG_EN q = false ∧ u.rd .TOK_SQq_CFG_WEIGHT q = fieldOf .TOK_SQq_CFG_WEIGHT v ∧
        u.rd .TOK_SQq_CFG_CQ q = fieldOf .TOK_SQq_CFG_CQ v ∧
        u.rd .TOK_SQq_CFG_SIZE q =
          (if b.bit .TOK_SQq_CFG_EN q then b.rd .TOK_SQq_CFG_SIZE q else fieldOf .TOK_SQq_CFG_SIZE v) ∧
        (b.bit .TOK_SQq_CFG_EN q = true → fieldOf .TOK_SQq_CFG_SIZE v ≠ b.rd .TOK_SQq_CFG_SIZE q → u.bit .TOK_EV_WERR = true) ∧
        u.tok.jobs = k.jobs ∧ u.tok.fetched = k.fetched ∧
        frame u (fun f => Reg.TOK_SQq_CFG.fields.contains f || f == .TOK_EV_WERR)) ∧
      Completes (.tokCqDisable t m q v) s (fun u =>
        u.bit .TOK_CQq_CFG_EN q = false ∧
        (b.bit .TOK_CQq_CFG_EN q = true → (∀ x ∈ u.tok.jobs, x.cq ≠ q) ∧
          u.rd .TOK_ERRS = min (2 ^ 32 - 1) (b.rd .TOK_ERRS + (k.jobs.filter (fun x => x.cq == q)).length) ∧
          ∀ x ∈ k.jobs, (∀ y ∈ k.jobs, y.tag = x.tag → y.cq ≠ q) → x ∈ u.tok.jobs) ∧
        (b.bit .TOK_CQq_CFG_EN q = false → u.tok.jobs = k.jobs) ∧
        frame u (fun f => Reg.TOK_CQq_CFG.fields.contains f || f == .TOK_EV_WERR || f == .TOK_ERRS)) ∧
      Completes (.tokNtsKeysWrite t m v) s (fun u =>
        (∀ f, f ∈ Reg.TOK_NTS_KEYS.fields → u.rd f = fieldOf f v) ∧ b.Keeps u (fun f _ => Reg.TOK_NTS_KEYS.fields.contains f)) ∧
      Completes (.tokCounterRead t m c) s (fun u =>
        let f := match c with | .kcWait => Field.TOK_KC_WAIT | .errs => .TOK_ERRS
        (u.mst m).data.toNat = b.rd f ∧ u.rd f = b.countNow f 0 % 2 ^ 32 ∧ State.Keeps b { u with masters := b.masters } (fun g _ => g == f)))

/-- R238, R240, R241, R252, R256, R258: the completion of a finished job, with its output first and the ring's tail and phase moved on; the
interrupt timer; the operating points of AUTO; the entropy source. -/
def Piece.TokenCompletions : Prop :=
  ∀ (s : State) (t : Nat) (tag : Fin 512) (j : Job) (r : JobResult) (okOut : Bool) (q : Fin 4) (up : Bool) (from_ : Nat),
    let b := s.enter t
    let k := b.tok
    let tail := b.rd .TOK_CQq_TAIL_TAIL j.cq
    let phase := b.rd .TOK_CQq_TAIL_PHASE j.cq
    let stamp := (j.stamp.map (·.1)).getD (b.record j.inp.plane)
    let may := b.job tag = some j ∧ j.result = some r ∧ b.dmaOpen = true ∧ b.bit .TOK_CQq_CFG_EN j.cq = true ∧
      (r.status = 0 → j.stamp ≠ none)
    let bad := r.out ≠ [] ∧ okOut = false
    let outs : List Sent := if r.out = [] then [] else [.hostWrite 8 j.inp.dstAddr r.out]
    let gone := fun (u : State) => ∀ x, x ∈ u.tok.jobs ↔ x ∈ k.jobs ∧ x.tag ≠ tag.val
    let x := k.cqs[q]
    (may → Completes (.tokCompletionWrite t tag okOut true) s fun u =>
      ∃ status len, (bad → status = 2 ∧ len = 0) ∧ (¬ bad → status = r.status ∧ len = r.len) ∧
        u.sent = b.sent ++ outs ++ [.hostWrite 8 (b.rd .TOK_CQq_BASE j.cq * 4096 + tail * 32) (completion j r status len stamp phase)] ∧
        u.rd .TOK_CQq_TAIL_TAIL j.cq = (if tail + 1 < b.cqSize j.cq then tail + 1 else 0) ∧
        (tail + 1 < b.cqSize j.cq → u.rd .TOK_CQq_TAIL_PHASE j.cq = phase) ∧
        (b.cqSize j.cq ≤ tail + 1 → u.rd .TOK_CQq_TAIL_PHASE j.cq = 1 - phase) ∧
        u.rd .TOK_JOBS = (b.rd .TOK_JOBS + 1) % 2 ^ 64 ∧
        u.rd .TOK_ERRS = (if status = 0 then b.rd .TOK_ERRS else min (2 ^ 32 - 1) (b.rd .TOK_ERRS + 1)) ∧
        (b.bit .TOK_CQq_CFG_IRQ_EN j.cq = true → (j.inp.flags.testBit 1 = true ∨
            max 1 (b.rd .TOK_CQq_IRQ_COUNT j.cq) ≤ (k.cqs[j.cq]).unsignalled + 1) →
          u.bitOf .INT_STAT 0 (2 + j.cq) = true ∧ (u.tok.cqs[j.cq]).unsignalled = 0) ∧ gone u ∧
        State.Keeps b { u with tok := b.tok, clk := b.clk, sent := b.sent } (fun f i => f == .TOK_JOBS || f == .TOK_ERRS ||
          ((f == .TOK_CQq_TAIL_TAIL || f == .TOK_CQq_TAIL_PHASE) && i == j.cq.val))) ∧
    (may → Completes (.tokCompletionWrite t tag okOut false) s fun u =>
      u.bit .TOK_EV_DMA_ERR = true ∧ u.bit .TOK_CQq_CFG_EN j.cq = false ∧ u.rd .TOK_CQq_TAIL_TAIL j.cq = tail ∧
      (∀ x, x ∈ u.tok.jobs ↔ x ∈ k.jobs ∧ x.tag ≠ tag.val ∧ ∀ y ∈ k.jobs, y.tag = x.tag → y.cq ≠ j.cq) ∧
      u.rd .TOK_ERRS = min (2 ^ 32 - 1) (b.rd .TOK_ERRS + (k.jobs.filter (fun x => x.tag != tag.val && x.cq == j.cq)).length) ∧
      (b.bit .TOK_EV_DMA_ERR = false → b.records 32 = true → u.bitOf .FLT_STATUS 0 32 = true) ∧
      (b.bit .TOK_EV_DMA_ERR = true → b.Calm → b.NoFault u)) ∧
    (b.job tag = some j → j.result = some r → (r.status = 0 → j.stamp ≠ none) → b.bit .TOK_CQq_CFG_EN j.cq = false →
      Completes (.tokCompletionWrite t tag okOut up) s fun u => u.sent = b.sent ∧ gone u ∧
        u.rd .TOK_ERRS = min (2 ^ 32 - 1) (b.rd .TOK_ERRS + 1) ∧
        State.Keeps b { u with tok := b.tok, clk := b.clk } (fun f _ => f == .TOK_ERRS)) ∧
    (b.job tag = some j → (j.result = none ∨ ∃ x, j.result = some x ∧ x.status = 0 ∧ j.stamp = none) →
      Completes (.tokCompletionWrite t tag okOut up) s fun u => b.Keeps u (fun _ _ => false)) ∧
    (b.bit .TOK_CQq_CFG_IRQ_EN q = true → b.rd .TOK_CQq_IRQ_TIME q ≠ 0 → 0 < x.unsignalled →
      x.firstAt + b.rd .TOK_CQq_IRQ_TIME q * 1000000 ≤ b.now → Completes (.tokCqIrqTimer t q) s fun u =>
        u.bitOf .INT_STAT 0 (2 + q) = true ∧ (u.tok.cqs[q]).unsignalled = 0 ∧
        State.Keeps b { u with tok := b.tok } (fun _ _ => false)) ∧
    (b.bit .TOK_CQq_CFG_IRQ_EN q = false ∨ b.rd .TOK_CQq_IRQ_TIME q = 0 ∨ x.unsignalled = 0 → Completes (.tokCqIrqTimer t q) s fun u =>
      b.Keeps u (fun _ _ => false)) ∧
    (b.rd .TOK_DVFS_MODE = 1 → k.step = none →
      (k.upFrom = some from_ → from_ + 100000000 ≤ b.now → b.rd .TOK_DVFS_CUR < 3 → Completes (.tokDvfsStep t true) s fun u =>
        u.tok.step = some (b.rd .TOK_DVFS_CUR + 1) ∧ u.tok.stepAt = b.now ∧ u.tok.upFrom = some b.now ∧ State.Keeps b { u with tok := b.tok } (fun _ _ => false)) ∧
      (k.downFrom = some from_ → from_ + 10000000000 ≤ b.now → 0 < b.rd .TOK_DVFS_CUR → Completes (.tokDvfsStep t false) s fun u =>
        u.tok.step = some (b.rd .TOK_DVFS_CUR - 1) ∧ u.tok.stepAt = b.now ∧ u.tok.downFrom = some b.now ∧ State.Keeps b { u with tok := b.tok } (fun _ _ => false))) ∧
    (b.rd .TOK_DVFS_MODE = 0 → Completes (.tokDvfsStep t up) s fun u => b.Keeps u (fun _ _ => false)) ∧
    (Completes (.tokEntropyFail t) s fun u =>
      u.bit .TOK_STAT_ENTROPY_OK = false ∧ u.grn.entropyBad = true ∧ u.bit .TOK_EV_ENTROPY_FAIL = true ∧
      (b.bit .TOK_EV_ENTROPY_FAIL = false → b.records 33 = true → u.bitOf .FLT_STATUS 0 33 = true) ∧
      (b.bit .TOK_EV_ENTROPY_FAIL = true → b.Calm → b.NoFault u)) ∧
    (Completes (.entropyHealthPass t) s fun u =>
      u.bit .GRN_STAT_ENTROPY_OK = true ∧ u.grn.entropyBad = false ∧
      (b.heldRst islTok = false → u.bit .TOK_STAT_ENTROPY_OK = true ∧ u.tok.nonceKey.isSome = true ∧
        (k.nonceKey.isSome = true → u.tok.nonceKey = k.nonceKey)) ∧
      (b.heldRst islTok = true → u.bit .TOK_STAT_ENTROPY_OK = b.bit .TOK_STAT_ENTROPY_OK ∧ u.tok = k) ∧
      State.Keeps b { u with grn := { u.grn with entropyBad := b.grn.entropyBad }, tok := { u.tok with nonceKey := k.nonceKey }, draw := b.draw }
        (fun f _ => f == .TOK_STAT_ENTROPY_OK || f == .GRN_STAT_ENTROPY_OK))

/-- R246 to R251, R256: what each job leaves as its result, on the keys of its snapshot and the record of its stamp, the opening, RESPOND's cookies and KE
before it; an uncorrectable error in job memory gives ECC. No other job changes. -/
def Piece.TokenJobs : Prop :=
  ∀ (s : State) (t : Nat) (tag : Fin 512) (j : Job) (r : TimeRec × Int) (k : CacheEntry) (st : Nat) (keys : List Byte) (cookies : List (List Byte)),
    let b := s.enter t
    let d := j.inp
    let res := fun (u : State) (x : JobResult) =>
      u.tok.jobs = b.tok.jobs.map (fun y => if y.tag = tag.val then { y with result := some x } else y)
    let left := fun (u : State) => State.Keeps b { u with tok := b.tok, draw := b.draw } (fun _ _ => false)
    let ok := fun (out : List Byte) (k : Option CacheEntry) =>
      (⟨0, out, out.length, (k.map (fun e => e.epoch % 65536)).getD 0, (k.map (·.slot)).getD 0xFF⟩ : JobResult)
    let aad := leAt d.desc 44 4
    let nonce := slice d.desc 32 12
    let icv := leAt d.desc 32 2
    let opts := leAt d.desc 34 1
    let n := ntpOf r.1 r.2
    let plain := cookies.flatMap (fun x => [0x02, 0x04] ++ beBytes 2 112 ++ x)
    b.job tag = some j → j.result = none →
    (∀ c f, (c, f) ∈ [(Instr.nop t tag true, ofType 0), (.stamp t tag true, ofType 5), (.gcmSeal t tag true, ofType 3),
        (.gcmOpen t tag true, ofType 4), (.ptpAuth t tag true, ofType 2), (.ntsRespond t tag true, ofMode 0),
        (.ntsKe t tag true, ofMode 1)] → f d = true → Completes c s fun u =>
      res u ⟨15, [], 0, 0, 0xFF⟩ ∧ u.bit .TOK_EV_ECC = true ∧ (b.records 31 = true → u.bitOf .FLT_STATUS 0 31 = true)) ∧
    (d.type = 0 → j.stamp = some r → Completes (.nop t tag false) s fun u => res u (ok [] none) ∧ left u) ∧
    (d.type ≠ 0 → Completes (.nop t tag false) s fun u => b.Keeps u (fun _ _ => false)) ∧
    (d.type = 5 → j.stamp = some r → Completes (.stamp t tag false) s fun u =>
      res u (ok (r.1.bytes ++ (beBytes 4 n.1 ++ beBytes 4 n.2.1) ++ (beBytes 6 r.1.sec ++ beBytes 4 r.1.ns) ++ List.replicate 6 0) none) ∧
      left u) ∧
    (b.jobKey j d.kslot = some k →
      (d.type = 3 → j.stamp = some r → Completes (.gcmSeal t tag false) s fun u =>
        let src := if leAt d.desc 48 1 = 1 then splice d.src (leAt d.desc 52 4) r.1.bytes else d.src
        let x := gcmSeal k.key nonce (src.take aad) (src.drop aad)
        res u (ok (src.take aad ++ x.1 ++ x.2) (some k)) ∧ left u) ∧
      (d.type = 4 → Completes (.gcmOpen t tag false) s fun u =>
        let x := gcmOpen k.key nonce (d.src.take aad) (slice d.src aad d.textLen) (d.src.drop (aad + d.textLen))
        (x.2 = true → res u (ok (d.src.take aad ++ x.1) (some k))) ∧
        (x.2 = false → res u { ok (d.src.take aad ++ List.replicate d.textLen 0) (some k) with status := 14 }) ∧ left u) ∧
      (d.type = 2 → j.stamp = some r → opts.testBit 2 = true → Completes (.ptpAuth t tag false) s fun u =>
        (((hmac k.key (d.src.take icv)).take 16 = slice d.src icv 16) → res u (ok [] (some k))) ∧
        (((hmac k.key (d.src.take icv)).take 16 ≠ slice d.src icv 16) → res u { ok [] (some k) with status := 13 }) ∧ left u) ∧
      (d.type = 2 → j.stamp = some r → opts.testBit 2 = false → Completes (.ptpAuth t tag false) s fun u =>
        let x := if opts.testBit 0 then splice d.src (icv - 10) ([0x80, 0x09] ++ beBytes 2 22 ++ slice d.desc 35 1 ++ [0] ++
          beBytes 4 (leAt d.desc 36 4)) else d.src
        let x := if opts.testBit 1 then splice x (leAt d.desc 40 2) (beBytes 6 r.1.sec ++ beBytes 4 r.1.ns) else x
        res u (ok (splice x icv ((hmac k.key (x.take icv)).take 16)) (some k)) ∧ left u)) ∧
    (ofMode 0 d = true → j.work = none → b.openRequest j = .inl st → Completes (.ntsRespond t tag false) s fun u =>
      res u ⟨st, [], 0, 0, 0xFF⟩ ∧ left u) ∧
    (ofMode 0 d = true → b.sealKey j = some k →
      (j.work = none → b.openRequest j = .inr keys → Completes (.ntsRespond t tag false) s fun u =>
        u.tok.jobs = b.tok.jobs.map (fun y => if y.tag = tag.val then
          { j with work := some (keys, (b.sealCookies k j.admitSec keys (leAt d.desc 33 1)).1) } else y) ∧ left u) ∧
      (j.work = some (keys, cookies) → j.stamp = some r → Completes (.ntsRespond t tag false) s fun u =>
        let pre := stampPrefix d.pre (leAt d.desc 40 1) r
        let x := sivSeal (keys.drop 32) [pre, b.nonce.1] plain
        let ct := x.1 ++ x.2
        res u (ok (pre ++ ([0x04, 0x04] ++ beBytes 2 (24 + ct.length) ++ beBytes 2 16 ++ beBytes 2 ct.length ++ b.nonce.1 ++ ct)) (some k)) ∧
        left u) ∧
      (j.work = some (keys, cookies) → j.stamp = none → Completes (.ntsRespond t tag false) s fun u =>
        u.job tag = some j ∧ left u)) ∧
    (ofMode 1 d = true → b.sealKey j = some k →
      (d.src.length ≠ 66 → Completes (.ntsKe t tag false) s fun u => res u ⟨12, [], 0, 0, 0xFF⟩ ∧ left u) ∧
      (d.src.length = 66 → beAt d.src 0 2 ≠ 15 → Completes (.ntsKe t tag false) s fun u => res u ⟨9, [], 0, 0, 0xFF⟩ ∧ left u) ∧
      (d.src.length = 66 → beAt d.src 0 2 = 15 → Completes (.ntsKe t tag false) s fun u =>
        res u (ok (b.sealCookies k j.admitSec (d.src.drop 2) (leAt d.desc 33 1)).1.flatten (some k)) ∧ left u))

/-- Token jobs and their completions: every part holds. -/
def Obligations.TokenCompletionsAndJobs : Prop := Piece.TokenCompletions ∧ Piece.TokenJobs

/-- R246, R250: what AES-GCM and AEAD_AES_SIV_CMAC_256 seal, they open again, for every key of the engine's length. -/
def Obligations.SealedOpens : Prop :=
  ∀ (key iv aad text : List Byte) (ad : List (List Byte)),
    key.length = 32 →
    gcmOpen key iv aad (gcmSeal key iv aad text).1 (gcmSeal key iv aad text).2 = (text, true) ∧
    sivOpen key ad (sivSeal key ad text).1 (sivSeal key ad text).2 = (text, true)

/-! ## The Granary -/

/-- R274 to R277: what a zeroisation leaves, whatever asks for it (the command with its confirmation from masters 1 to 3, an enabled sensor,
the sampling in KEEP, each on the reading that fires it); what the loss of VBAT leaves; a reseed, whole or cut by a failure of the
supplies, and its refusal. -/
def Piece.GranaryZeroise : Prop :=
  ∀ (s : State) (t : Nat) (m : Master) (confirm : Byte) (steps : Fin 6) (sensor : Fin 9) (x : Int) (l : Vector Int 7),
    let b := s.enter t
    let may := m = .pcie ∨ m = .spi ∨ m = .keeper
    let empty := fun (u : State) (n : Fin 64) => u.rd .GRN_SLOTn_META_USAGE n = 0 ∧ u.rd .GRN_SLOTn_META_LOCK n = 0 ∧
      u.rd .GRN_SLOTn_META_YPAR n = 0 ∧ u.rd .GRN_SLOTn_EPOCH n = 0
    let wiped := fun (u : State) (cause : Nat) => u.bit .GRN_STAT_KEYLESS = true ∧ (∀ n, empty u n ∧ u.grn.keys[n] = 0) ∧
      u.grn.rs = 0 ∧ u.grn.d = 0 ∧ u.grn.qx = 0 ∧ u.grn.qy = 0 ∧ u.grn.staged = [] ∧ u.grn.word = 0 ∧
      u.rd .GRN_TAMP_TIME = Config.realTime b.now % 2 ^ Field.GRN_TAMP_TIME.info.width ∧ u.rd .GRN_VGEN = b.rd .GRN_VGEN ∧ u.rd .GRN_UPD_CTR = b.rd .GRN_UPD_CTR ∧ u.rd .GRN_TAMP_STAT_CAUSE = cause ∧
      u.rd .GRN_ZCOUNT = min 255 (b.rd .GRN_ZCOUNT + 1)
    let live := fun (u : State) => u.tok.cache = [] ∧ u.bit .TOK_EV_SCRUB = true ∧
      (b.records 40 = true → u.bitOf .FLT_STATUS 0 40 = true)
    let on := sensor.val < 7 → b.bitOf .GRN_TAMP_CFG_EN 0 sensor = true
    let full := b.bit .GRN_STAT_KEYLESS = true ∧ b.rd .GRN_VGEN < 255 ∧ b.bit .GRN_STAT_ENTROPY_OK = true ∧
      b.grn.entropyBad = false ∧ b.boot.otpBad = false
    let level := fun (k : Fin 4) =>
      if b.bitOf .GRN_TAMP_CFG_ACTIVE 0 k then b.grn.tampOut[k] else b.bitOf .GRN_TAMP_CFG_LEVEL 0 k
    let fires := fun (n : Fin 9) (x : Int) => (∀ k : Fin 4, k.val = n.val → (x ≠ 0 ↔ level k = false)) ∧
      (n = 4 → x < 1800 ∨ 3900 < x) ∧ (n = 5 → x < -55000 ∨ 125000 < x) ∧ (n = 6 → x < 31129600 ∨ 34406400 < x) ∧
      (n = 7 → x < -300 ∨ 300 < x) ∧ (n = 8 → x ≠ 0)
    let hits := fun (n : Fin 7) => b.bitOf .GRN_TAMP_CFG_EN 0 n = true ∧ fires ⟨n.val, by omega⟩ l[n]
    let quiet := fun (u : State) =>
      State.Keeps b { u with grn := { u.grn with tampOut := b.grn.tampOut }, draw := b.draw } (fun _ _ => false)
    (b.answers m .GRN_CTRL →
      (may → confirm = 0x5A → Completes (.grnZeroise t m confirm) s fun u => wiped u 2 ∧ live u) ∧
      (¬ may ∨ confirm ≠ 0x5A → Completes (.grnZeroise t m confirm) s fun u => b.Keeps u (fun _ _ => false)) ∧
      (may → confirm = 0x5A → full → Completes (.grnReseed t m ⟨confirm, 5⟩) s fun u =>
        u.rd .GRN_VGEN = b.rd .GRN_VGEN + 1 ∧ u.rd .GRN_UPD_CTR = 0 ∧ u.bit .GRN_STAT_KEYLESS = false ∧ (∀ n, empty u n) ∧
        u.grn.rs = Config.entropy256 b.draw ∧
        (let v := beNat (hkdf uidBytes (beBytes 32 u.grn.rs.toNat)
            (ascii "COLBILITH IDENTITY" ++ [BitVec.ofNat 8 (b.rd .GRN_VGEN + 1)]) 40)
         let d := v % (ecN - 1) + 1
         ∀ x y, ecMul d ecG = some (x, y) → u.grn.d = d ∧ u.grn.qx = x ∧ u.grn.qy = y) ∧
        State.Keeps b { u with grn := b.grn, draw := b.draw } (fun f _ => f == .GRN_VGEN || f == .GRN_UPD_CTR ||
          f == .GRN_STAT_KEYLESS || f == .GRN_SLOTn_META_USAGE || f == .GRN_SLOTn_META_LOCK || f == .GRN_SLOTn_META_YPAR ||
          f == .GRN_SLOTn_EPOCH)) ∧
      (may → confirm = 0x5A → full → steps ≠ 5 → Completes (.grnReseed t m ⟨confirm, steps⟩) s fun u =>
        u.boot.supplies = false ∧ u.boot.keep = true ∧ u.bit .GRN_STAT_KEYLESS = true ∧
        u.rd .GRN_VGEN = b.rd .GRN_VGEN + (if steps = 0 then 0 else 1) ∧ (b.grn.rs = 0 → u.grn.rs = 0) ∧
        (3 ≤ steps.val → u.rd .GRN_UPD_CTR = 0 ∧ ∀ n, empty u n) ∧ (steps.val < 3 → u.rd .GRN_UPD_CTR = b.rd .GRN_UPD_CTR)) ∧
      (may → confirm = 0x5A → ¬ full → Completes (.grnReseed t m ⟨confirm, 5⟩) s fun u =>
        u.bit .GRN_CTRL_RFAIL = true ∧ b.Keeps u (fun f _ => f == .GRN_CTRL_RFAIL)) ∧
      (¬ may ∨ confirm ≠ 0x5A → Completes (.grnReseed t m ⟨confirm, 5⟩) s fun u => b.Keeps u (fun _ _ => false))) ∧
    (b.boot.supplies = true → sensor ≠ 4 → on → fires sensor x → Completes (.tamperDetect t ⟨sensor, x⟩) s fun u =>
      wiped u 1 ∧ live u ∧ u.bitOf .GRN_TAMP_STAT_SENSOR 0 sensor = true ∧
      (b.boot.keeperRan = false → u.bit .GRN_STAT_TAMPER_AT_BOOT = true)) ∧
    (b.boot.supplies = true → sensor = 4 ∨ ¬ on ∨ ¬ fires sensor x → Completes (.tamperDetect t ⟨sensor, x⟩) s fun u => quiet u) ∧
    (b.boot.supplies = true → Completes (.tamperDetect t ⟨sensor, x⟩) s fun u => ∀ k : Fin 4, u.grn.tampOut[k] =
      if k.val = sensor.val ∧ b.bitOf .GRN_TAMP_CFG_ACTIVE 0 k = true then Config.tamperBit b.draw else b.grn.tampOut[k]) ∧
    (b.boot.supplies = false → b.boot.keep = true →
      (7 ≤ sensor.val → fires sensor x → Completes (.tamperDetect t ⟨sensor, x⟩) s fun u =>
        wiped u 1 ∧ u.grn.keepTamper = true ∧ u.bitOf .GRN_TAMP_STAT_SENSOR 0 sensor = true) ∧
      (sensor.val < 7 ∨ ¬ fires sensor x → Completes (.tamperDetect t ⟨sensor, x⟩) s fun u => b.Keeps u (fun _ _ => false)) ∧
      ((∃ n, hits n) → Completes (.tamperSample t l) s fun u =>
        wiped u 1 ∧ u.grn.keepTamper = true ∧
        ∀ n : Fin 7, u.bitOf .GRN_TAMP_STAT_SENSOR 0 n = true ↔ b.bitOf .GRN_TAMP_STAT_SENSOR 0 n = true ∨ hits n) ∧
      ((∀ n, ¬ hits n) → Completes (.tamperSample t l) s fun u => quiet u)) ∧
    (b.boot.keep = false → Completes (.tamperSample t l) s fun u => b.Keeps u (fun _ _ => false)) ∧
    (b.boot.supplies = false → Completes (.vbatLoss t) s fun u =>
      u.bit .GRN_STAT_KEYLESS = true ∧ (∀ n, empty u n ∧ u.grn.keys[n] = 0) ∧ u.grn.rs = 0 ∧ u.rd .GRN_UPD_CTR = 0 ∧
      u.rd .GRN_TAMP_STAT_CAUSE = 4 ∧ u.rd .GRN_VGEN = b.rd .GRN_VGEN ∧ u.boot.keep = false) ∧
    (b.boot.supplies = true → Completes (.vbatLoss t) s fun u => b.Keeps u (fun _ _ => false))

/-- R270, R271, R273: a capsule's submission, the tests in order with the result of the first that fails, the staging of one that passes, and its
commit: whole, or where the supplies fail, whole once the commit word stands; a torn word undoes it. The byte layout of what the
word's CRC covers is the model's (entry 68). -/
def Piece.Capsules : Prop :=
  ∀ (s : State) (t : Nat) (m : Master) (left : DWord) (e kind ctr : Nat) (staged : List StagedOp) (o : StagedOp),
    let b := s.enter t
    let may := m = .pcie ∨ m = .spi ∨ m = .keeper
    let res := b.rd .GRN_CAP_STAT_RESULT
    let c := b.capBytes (b.rd .GRN_CAP_LEN)
    let slot := fun (u : State) (n : Fin 64) => (u.rd .GRN_SLOTn_META_USAGE n, u.rd .GRN_SLOTn_META_LOCK n,
      u.rd .GRN_SLOTn_META_YPAR n, u.rd .GRN_SLOTn_EPOCH n, u.grn.keys[n])
    let fails := fun (r : Nat) => Completes (.capsuleStaged t) s fun u =>
      u.rd .GRN_CAP_STAT_RESULT = r ∧ u.grn.staged = [] ∧ u.bitOf .INT_STAT 0 25 = true ∧ (∀ n, slot u n = slot b n) ∧
      u.rd .GRN_UPD_CTR = b.rd .GRN_UPD_CTR
    let formed := capFormatOk c (b.rd .GRN_CAP_LEN) = true
    let keyed := b.bit .GRN_STAT_KEYLESS = false
    let ours := slice c 8 16 = uidBytes ∧ b.boot.otpBad = false
    let fresh := b.rd .GRN_UPD_CTR < leAt c 28 4
    let gen := leAt c 24 1 = b.rd .GRN_VGEN
    let signed := if leAt c 5 1 = 1 then b.claimed = false else leAt c 6 1 ≤ 63 ∧ b.slotUsage (leAt c 6 1) = 5
    let applied := fun (u : State) => slot u o.slot = (o.usage % 16, o.lock.toNat, o.ypar.toNat, o.epoch % 2 ^ 32, o.key)
    let word := joinPair (BitVec.ofNat 32 ctr) (crc32c (leBytes 4 ctr ++ leBytes 1 (b.rd .GRN_VGEN) ++ staged.flatMap StagedOp.bytes))
    let queued := res = 2 ∧ b.grn.ctr = ctr ∧ b.grn.staged = staged ∧ (staged.map (·.slot)).Nodup
    (b.answers m .GRN_CAP_CTRL →
      (may → res ≠ 1 → Completes (.capsuleSubmit t m) s fun u =>
        u.rd .GRN_CAP_STAT_RESULT = 1 ∧ u.grn.staged = [] ∧ u.grn.word = 0 ∧
        State.Keeps b { u with grn := b.grn } (fun f _ => f == .GRN_CAP_STAT_RESULT)) ∧
      (may → res = 1 → Completes (.capsuleSubmit t m) s fun u =>
        u.bit .GRN_CAP_STAT_WERR = true ∧ b.Keeps u (fun f _ => f == .GRN_CAP_STAT_WERR)) ∧
      (¬ may → Completes (.capsuleSubmit t m) s fun u => b.Keeps u (fun _ _ => false)) ∧
      (m ≠ .keeper ∨ res ≠ 2 → Completes (.capsuleCommit t m .none) s fun u => b.Keeps u (fun _ _ => false))) ∧
    (b.keeperRuns = true → res = 1 →
      (¬ formed → fails 4) ∧ (formed → ¬ keyed → fails 5) ∧ (formed → keyed → ¬ ours → fails 6) ∧
      (formed → keyed → ours → ¬ gen → fails 7) ∧ (formed → keyed → ours → gen → ¬ fresh → fails 8) ∧
      (formed → keyed → ours → gen → fresh → ¬ signed → fails 9) ∧
      (Completes (.capsuleStaged t) s fun u => b.checkCapsule = .inr (kind, ctr, staged) →
        u.rd .GRN_CAP_STAT_RESULT = 2 ∧ u.grn.kind = kind ∧ u.grn.ctr = ctr ∧ u.grn.staged = staged ∧
        u.bitOf .INT_STAT 0 25 = true ∧ State.Keeps b { u with grn := b.grn } (fun f _ => f == .GRN_CAP_STAT_RESULT))) ∧
    (b.keeperRuns = false ∨ res ≠ 1 → Completes (.capsuleStaged t) s fun u => b.Keeps u (fun _ _ => false)) ∧
    (b.answers .keeper .GRN_CAP_CTRL → queued →
      (b.grn.kind ≠ 2 → Completes (.capsuleCommit t .keeper .none) s fun u =>
        u.rd .GRN_CAP_STAT_RESULT = 3 ∧ u.rd .GRN_UPD_CTR = ctr % 2 ^ 32 ∧ u.grn.staged = [] ∧ (o ∈ staged → applied u) ∧
        ∀ n, (∀ x ∈ staged, x.slot ≠ n) → slot u n = slot b n) ∧
      (b.grn.kind = 2 → Completes (.capsuleCommit t .keeper .none) s fun u =>
        u.rd .GRN_CAP_STAT_RESULT = 3 ∧ u.rd .GRN_UPD_CTR = ctr % 2 ^ 32 ∧ u.bit .GRN_STAT_KEYLESS = true ∧
        u.rd .GRN_TAMP_STAT_CAUSE = 3 ∧ ∀ n, slot u n = (0, 0, 0, 0, 0)) ∧
      (b.grn.kind ≠ 2 → word ≠ 0 → Completes (.capsuleCommit t .keeper .afterWord) s fun u =>
        u.boot.supplies = false ∧ u.boot.keep = true ∧ u.rd .GRN_UPD_CTR = ctr % 2 ^ 32 ∧ u.bit .GRN_STAT_AON_FINISHED = true ∧
        (o ∈ staged → applied u) ∧ ∀ n, (∀ x ∈ staged, x.slot ≠ n) → slot u n = slot b n) ∧
      (left ≠ 0 → left ≠ b.commitWord (left.setWidth 32).toNat → Completes (.capsuleCommit t .keeper (.torn left)) s fun u =>
        u.boot.supplies = false ∧ u.boot.keep = true ∧ u.rd .GRN_UPD_CTR = b.rd .GRN_UPD_CTR ∧ u.grn.staged = [] ∧ u.grn.word = 0 ∧
        ∀ n, slot u n = slot b n))

/-- Zeroisation, VBAT loss, reseeding and capsules: every part holds. -/
def Obligations.GranaryAndCapsules : Prop := Piece.GranaryZeroise ∧ Piece.Capsules

/-! ## Mailboxes and the keeper -/

/-- R284 to R286, R288, R290: a word written to MBn_TX is the header of a message, a further word of one, or discarded with one, as it is in
the very cycle of its end's reset; a message commits whole; a read of MBn_RX takes the oldest committed word; the timer of a queue runs
while MBn_TMO is not 0. A frame with each. -/
def Piece.MailboxQueues : Prop :=
  ∀ (s : State) (t : Nat) (m : Master) (n : Fin 16) (v w : Word) (rest : List Word) (i : Fin 2),
    let b := s.enter t
    let q := (b.mbox[n]).out[i]
    let len := v.toNat % 16
    let room := 16 - q.words.length - q.build.length
    let head := stampEpoch v ((b.mbox[n]).ends[i]).epoch
    let inq := (b.mbox[n]).out[peerEnd i]
    let got := fun (u : State) (e : Fin 2) (bit : Nat) => (((u.mbox[n]).ends[e]).ev).testBit bit = true
    let timer := if b.rd .MBn_TMO n = 0 then none else some b.now
    let now := ∃ a, ((b.mbox[n]).ends[i]).resetAt = some a ∧ sameCycle a b.now = true
    let frame := fun (u : State) => (∀ k, k ≠ n → u.mbox[k] = b.mbox[k]) ∧
      State.Keeps b { u with mbox := b.mbox, masters := b.masters } (fun _ _ => false)
    b.answers m .MBn_TX →
    (b.mbEndOf n m.id = some i → now → Completes (.mbTxWrite t m n v) s fun u => b.Keeps u (fun _ _ => false)) ∧
    (b.mbEndOf n m.id = some i → ¬ now →
      (q.drop = 0 → q.left = 0 → len + 1 ≤ room → len = 0 → Completes (.mbTxWrite t m n v) s fun u =>
        ((u.mbox[n]).out[i]).words = q.words ++ [head] ∧ ((u.mbox[n]).out[i]).build = [] ∧
        ((u.mbox[n]).out[i]).timer = (if q.words = [] then timer else q.timer) ∧ got u (peerEnd i) 0 ∧ frame u) ∧
      (q.drop = 0 → q.left = 0 → len + 1 ≤ room → len ≠ 0 → Completes (.mbTxWrite t m n v) s fun u =>
        (u.mbox[n]).out[i] = { q with build := [head], left := len } ∧ (u.mbox[n]).ends = (b.mbox[n]).ends ∧ frame u) ∧
      (q.drop = 0 → q.left = 0 → room < len + 1 → Completes (.mbTxWrite t m n v) s fun u =>
        (u.mbox[n]).out[i] = { q with drop := len } ∧ got u i 3 ∧ frame u) ∧
      (q.drop = 0 → 1 < q.left → Completes (.mbTxWrite t m n v) s fun u =>
        (u.mbox[n]).out[i] = { q with build := q.build ++ [v], left := q.left - 1 } ∧ (u.mbox[n]).ends = (b.mbox[n]).ends ∧ frame u) ∧
      (q.drop = 0 → q.left = 1 → Completes (.mbTxWrite t m n v) s fun u =>
        ((u.mbox[n]).out[i]).words = q.words ++ (q.build ++ [v]) ∧ ((u.mbox[n]).out[i]).build = [] ∧
        ((u.mbox[n]).out[i]).left = 0 ∧ ((u.mbox[n]).out[i]).timer = (if q.words = [] then timer else q.timer) ∧ got u (peerEnd i) 0 ∧ frame u) ∧
      (0 < q.drop → Completes (.mbTxWrite t m n v) s fun u =>
        (u.mbox[n]).out[i] = { q with drop := q.drop - 1 } ∧ (u.mbox[n]).ends = (b.mbox[n]).ends ∧ frame u) ∧
      (inq.words = w :: rest → Completes (.mbRxRead t m n) s fun u =>
        (u.mst m).data = w ∧ ((u.mbox[n]).out[peerEnd i]).words = rest ∧ (u.mbox[n]).out[i] = q ∧
        ((u.mbox[n]).out[peerEnd i]).timer = (if rest = [] then none else timer) ∧
        (rest = [] → got u (peerEnd i) 1 ∧ ((u.mbox[n]).ends[peerEnd i]).cause = 1 ∧
          ((u.mbox[n]).ends[peerEnd i]).txTmo = false) ∧ frame u) ∧
      (inq.words = [] → Completes (.mbRxRead t m n) s fun u =>
        (u.mst m).data = 0 ∧ got u i 4 ∧ (u.mbox[n]).out = (b.mbox[n]).out ∧ frame u)) ∧
    (b.mbEndOf n m.id = none →
      (Completes (.mbTxWrite t m n v) s fun u => b.Keeps u (fun _ _ => false)) ∧
      Completes (.mbRxRead t m n) s fun u => (u.mst m).data = 0 ∧ State.Keeps b { u with masters := b.masters } (fun _ _ => false))

/-- R281 to R283, R288 to R290: the lock goes to the first end that reads it free and back at its holder's write; a binding is accepted while
both queues are empty and its ends differ; an end reset moves the epoch on, flushes and discards, also the message committed in its very cycle; the timeout of a queue. -/
def Piece.MailboxControl : Prop :=
  ∀ (s : State) (t : Nat) (m : Master) (n : Fin 16) (v : Word) (i : Fin 2) (since : Nat),
    let b := s.enter t
    let x := b.mbox[n]
    let lock := b.rd .MBn_LOCK n
    let q := x.out[i]
    let empty := ∀ k : Fin 2, (x.out[k]).words = [] ∧ (x.out[k]).build = []
    let c0 := endCode (v.toNat % 16)
    let c1 := endCode (v.toNat / 16 % 16)
    let differ := (c0 = 0 ∨ c0 ≠ c1) ∧ ¬ (c0 = 15 ∧ (c1 = 1 ∨ c1 = 2)) ∧ ¬ (c1 = 15 ∧ (c0 = 1 ∨ c0 = 2))
    let binder := m = .pcie ∨ m = .spi ∨ m = .keeper
    let others := fun (u : State) => ∀ k, k ≠ n → u.mbox[k] = b.mbox[k]
    let back := fun (k : Nat) => ∃ a r, q.lastMsg = some (a, k, r) ∧ sameCycle a b.now = true ∧ k ≤ q.words.length
    (b.answers m .MBn_LOCK →
      (b.mbEndOf n m.id = some i → lock = 0 → Completes (.mbLockRead t m n) s fun u =>
        (u.mst m).data = 0 ∧ u.rd .MBn_LOCK n = m.id ∧
        State.Keeps b { u with masters := b.masters } (fun f k => f == .MBn_LOCK && k == n.val)) ∧
      (b.mbEndOf n m.id = some i → lock ≠ 0 → Completes (.mbLockRead t m n) s fun u =>
        (u.mst m).data.toNat = lock ∧ State.Keeps b { u with masters := b.masters } (fun _ _ => false)) ∧
      (b.mbEndOf n m.id = none → Completes (.mbLockRead t m n) s fun u =>
        (u.mst m).data = 0xF ∧ State.Keeps b { u with masters := b.masters } (fun _ _ => false)) ∧
      (lock = m.id → Completes (.mbLockWrite t m n v) s fun u =>
        u.rd .MBn_LOCK n = 0 ∧ b.Keeps u (fun f k => f == .MBn_LOCK && k == n.val)) ∧
      (lock ≠ m.id → Completes (.mbLockWrite t m n v) s fun u => b.Keeps u (fun _ _ => false)) ∧
      (binder → b.bitOf .MB_LOCKTAB 0 n = false → empty → differ → Completes (.mbBindWrite t m n v) s fun u =>
        u.rd .MBn_BIND_END0 n = v.toNat % 16 ∧ u.rd .MBn_BIND_END1 n = v.toNat / 16 % 16 ∧
        b.Keeps u (fun f k => (f == .MBn_BIND_END0 || f == .MBn_BIND_END1) && k == n.val)) ∧
      (binder → b.bitOf .MB_LOCKTAB 0 n = true ∨ ¬ empty ∨ ¬ differ → Completes (.mbBindWrite t m n v) s fun u =>
        (u.mbox[n]).werr.testBit m.id = true ∧ (u.mbox[n]).out = x.out ∧ (u.mbox[n]).ends = x.ends ∧ others u ∧
        State.Keeps b { u with mbox := b.mbox } (fun _ _ => false)) ∧
      (¬ binder → Completes (.mbBindWrite t m n v) s fun u => b.Keeps u (fun _ _ => false)) ∧
      (b.mbEndOf n m.id = some i → Completes (.mbEndrst t m n v) s fun u =>
        let y := u.mbox[n]
        (y.ends[i]).epoch = (x.ends[i]).epoch + 1 ∧ (y.out[i]).build = [] ∧ (y.out[i]).left = 0 ∧ (y.out[i]).drop = 0 ∧ (y.ends[i]).resetAt = some b.now ∧
        ((∀ k, ¬ back k) → (y.out[i]).words = q.words) ∧ (∀ k, back k → (y.out[i]).words = q.words.take (q.words.length - k)) ∧
        (y.out[peerEnd i]).words = [] ∧ (y.ends[peerEnd i]).ev.testBit 5 = true ∧
        ((x.out[peerEnd i]).words ≠ [] → (y.ends[peerEnd i]).cause = 2 ∧ (y.ends[peerEnd i]).ev.testBit 1 = true) ∧
        ((y.ends[i]).ieRx, (y.ends[i]).ieEmpty, (y.ends[i]).ieTmo) = (v.getLsbD 1, v.getLsbD 2, v.getLsbD 3) ∧
        (endHas (b.mbEndCode n i) lock = true → u.rd .MBn_LOCK n = 0) ∧ others u ∧
        State.Keeps b { u with mbox := b.mbox, keeper := { u.keeper with owed := b.keeper.owed } }
          (fun f k => f == .MBn_LOCK && k == n.val)) ∧
      (b.mbEndOf n m.id = none → Completes (.mbEndrst t m n v) s fun u => b.Keeps u (fun _ _ => false))) ∧
    (q.timer = some since → b.rd .MBn_TMO n ≠ 0 → q.words ≠ [] → since + min 65000 (b.rd .MBn_TMO n) * 1000000000 ≤ b.now →
      Completes (.mbTmoExpire t n i) s fun u =>
        ((u.mbox[n]).ends[i]).txTmo = true ∧ ((u.mbox[n]).ends[i]).ev.testBit 2 = true ∧ ((u.mbox[n]).out[i]).words = q.words ∧
        ((x.ends[i]).txTmo = false → b.records 39 = true → u.bitOf .FLT_STATUS 0 39 = true) ∧ others u) ∧
    (q.timer = none ∨ b.rd .MBn_TMO n = 0 ∨ q.words = [] ∨
        (∃ a, q.timer = some a ∧ b.now + 1000000000 < a + min 65000 (b.rd .MBn_TMO n) * 1000000000) → Completes (.mbTmoExpire t n i) s fun u => b.Keeps u (fun _ _ => false))

/-- Mailbox words, locks, bindings, resets and timeouts: every part holds. -/
def Obligations.Mailboxes : Prop := Piece.MailboxQueues ∧ Piece.MailboxControl

/-- R293, R294: the reply to each request that only reports: VERSION, GET_CERT, FAULT_RECORD, KEEPER_LOAD, TELEMETRY, LOG_READ, and to a TYPE
that is not known; a payload of another length gives BAD_LENGTH. A frame with each. -/
def Piece.KeeperReports : Prop :=
  ∀ (s : State) (t : Nat) (n : Fin 16) (i : Fin 2) (h : Word) (p more : List Word) (o cursor : Word) (words r : List Word),
    let b := s.enter t
    let asks := fun (ty : Nat) => b.Asks n 1 i h p more ∧ headerType h = ty
    let tells := fun (c : Instr) (q : List Word) => Completes c s fun u =>
      b.Replied u n i h more q true ∧ b.ServeKeeps u n (fun _ _ => false)
    let word := fun (x : Nat) => BitVec.ofNat 32 x
    (asks 1 → p = [] → tells (.version t n) [0, b.keeper.version, word (b.rd .BOOT_STAT_IMAGE), word (b.rd .BOOT_STAT_FALLBACK),
      word ((b.now - b.keeper.startAt) / 1000000000000)]) ∧
    (asks 2 → p = [o] → Completes (.getCert t n) s fun u =>
      let left := Config.certificate.length - o.toNat
      (o.toNat % 4 = 0 → o.toNat < Config.certificate.length →
        b.Replied u n i h more (word (if 52 < left then 65536 else 0) :: packWords (slice (Config.certificate.drop o.toNat) 0 52))
          (decide (left ≤ 52))) ∧
      (o.toNat % 4 ≠ 0 ∨ Config.certificate.length ≤ o.toNat → b.Replied u n i h more [3] true) ∧
      b.ServeKeeps u n (fun _ _ => false)) ∧
    (asks 6 → p = [o] → tells (.faultRecord t n (some r)) (0 :: r.take 14)) ∧
    (asks 6 → p = [o] → tells (.faultRecord t n none) [3]) ∧
    (asks 7 → p = [] → tells (.keeperLoad t n) [0, word (b.rd .MB_KEEPER_LOAD),
      Config.classesShed (b.bit .MB_KEEPER_C3_DROPPED) (b.bit .MB_KEEPER_C2_HALVED), word (b.rd .PWR_MGT_DVFS_CUR)]) ∧
    (asks 8 → p = [] → b.keeper.sample ≠ [] → b.keeper.sample.length ≤ 14 → tells (.telemetry t n) (0 :: b.keeper.sample)) ∧
    (asks 10 → b.bit .MB_KEEPER_C3_DROPPED = false → p = [o] → tells (.logRead t n words cursor) (0 :: words.take 13 ++ [cursor])) ∧
    (asks 10 → b.bit .MB_KEEPER_C3_DROPPED = true → tells (.logRead t n words cursor) [7]) ∧
    (∀ ty, asks ty → ty = 0 ∨ 10 < ty → tells (.unknownType t n) [1]) ∧
    (asks 1 → p ≠ [] → tells (.version t n) [2]) ∧ (asks 2 → p.length ≠ 1 → tells (.getCert t n) [2]) ∧
    (asks 6 → p.length ≠ 1 → tells (.faultRecord t n (some r)) [2]) ∧ (asks 7 → p ≠ [] → tells (.keeperLoad t n) [2]) ∧
    (asks 8 → p ≠ [] → tells (.telemetry t n) [2]) ∧
    (asks 10 → b.bit .MB_KEEPER_C3_DROPPED = false → p.length ≠ 1 → tells (.logRead t n words cursor) [2])

/-- R84, R295 to R297: the keeper's periodic work: the refit, the telemetry sample, the judgement of its load, its beat. -/
def Piece.KeeperPeriods : Prop :=
  ∀ (s : State) (t load : Nat) (tja tjb core dvs ana : Word),
    let b := s.enter t
    let k := b.keeper
    let runs := b.keeperRuns = true
    let half := if b.bit .MB_KEEPER_C2_HALVED then 2 else 1
    let cur := b.rd .PWR_MGT_DVFS_POINT
    let top := if 1 ≤ b.rd .SHED_STATE_STAGE then 0 else 3
    let flags := fun (u : State) => (u.bit .MB_KEEPER_OVERLOAD, u.bit .MB_KEEPER_C3_DROPPED, u.bit .MB_KEEPER_C2_HALVED)
    (runs → k.refitAt + half * 100000 * 1000000000 ≤ b.now → Completes (.keeperRefit t) s fun u =>
      u.keeper.refitAt = b.now ∧ (b.refit.1 = true → u.bit .MODEL_CTRL_PENDING = true ∧ u.xo.pend = some .load) ∧
      (b.refit.1 = false → State.Keeps b { u with keeper := b.keeper } (fun _ _ => false))) ∧
    (b.now < k.refitAt + half * 100000 * 1000000000 → Completes (.keeperRefit t) s fun u => b.Keeps u (fun _ _ => false)) ∧
    (runs → k.sampleAt + half * 100 * 1000000000 ≤ b.now → Completes (.telemetrySample t tja tjb core dvs ana) s fun u =>
      u.keeper = { k with sampleAt := b.now, sample := [tja, tjb, core, dvs, ana, BitVec.ofNat 32 (b.rd .MODEL_AGE), k.residual] } ∧
      State.Keeps b { u with keeper := b.keeper } (fun _ _ => false)) ∧
    (runs → Completes (.keeperLoadWindow t load) s fun u =>
      u.rd .MB_KEEPER_LOAD = min 100 load ∧ u.rd .MB_KEEPER_POINT = b.rd .PWR_MGT_DVFS_CUR ∧
      (90 < load → cur < top → u.rd .PWR_MGT_DVFS_POINT = cur + 1 ∧ flags u = flags b) ∧
      (90 < load → top ≤ cur → b.bit .MB_KEEPER_OVERLOAD = false →
        flags u = (true, true, b.bit .MB_KEEPER_C2_HALVED) ∧ (b.records 22 = true → u.bitOf .FLT_STATUS 0 22 = true)) ∧
      (90 < load → top ≤ cur → b.bit .MB_KEEPER_OVERLOAD = true → flags u = (true, b.bit .MB_KEEPER_C3_DROPPED, true)) ∧
      (load ≤ 90 → (∃ from_, k.below70 = some from_ ∧ from_ + 2000000000000 ≤ b.now + 10000000000) → load < 70 →
        b.bit .MB_KEEPER_C3_DROPPED = true → flags u = (false, false, false)) ∧
      (70 ≤ load → load ≤ 90 → flags u = flags b ∧ u.rd .PWR_MGT_DVFS_POINT = cur)) ∧
    (runs → Completes (.keeperBeat t) s fun u =>
      u.rd .MB_KEEPER_BEAT = (b.rd .MB_KEEPER_BEAT + 1) % 65536 ∧ u.keeper.beatAt = some b.now ∧
      State.Keeps b { u with keeper := b.keeper } (fun f _ => f == .MB_KEEPER_BEAT)) ∧
    (¬ runs → ∀ c, c = .keeperRefit t ∨ c = .telemetrySample t tja tjb core dvs ana ∨ c = .keeperLoadWindow t load ∨ c = .keeperBeat t →
      Completes c s fun u => b.Keeps u (fun _ _ => false))

/-- Keeper requests that report, and its periodic work: every part holds. -/
def Obligations.KeeperReports : Prop := Piece.KeeperReports ∧ Piece.KeeperPeriods

/-- R189, R190, R294: ATTEST signs or fails without an identity, LOAD_YACOR loads an accepted image and verifies it while YAC answers (R9), BOOT_SELECT sets the
preference, REFIT_NOW refits; a request of an engine for what is host only is DENIED. -/
def Piece.KeeperActions : Prop :=
  ∀ (s : State) (t : Nat) (n : Fin 16) (i : Fin 2) (h : Word) (p more : List Word) (a : Word) (result : List Word) (img : List Byte)
      (iw dw : Nat),
    let b := s.enter t
    let asks := fun (ty : Nat) => b.Asks n 1 i h p more ∧ headerType h = ty
    let tells := fun (c : Instr) (q : List Word) => Completes c s fun u =>
      b.Replied u n i h more q true ∧ b.ServeKeeps u n (fun _ _ => false)
    let host := b.fromEngine n i = false
    let e : Fin 4 := Fin.ofNat 4 a.toNat
    let heard := b.boot.supplies = true ∧ b.gated islYac = false ∧ b.heldRst islYac = false
    (asks 3 → p.length = 8 → b.bit .GRN_STAT_KEYLESS = false → b.boot.otpBad = false → Completes (.attest t n) s fun u =>
      (∃ q, q.length = 8 ∧ b.Replied u n i h more (0x10000 :: q) false) ∧ u.draw = b.draw + 1 ∧
      State.ServeKeeps b { u with draw := b.draw } n (fun _ _ => false)) ∧
    (asks 3 → p.length = 8 → b.bit .GRN_STAT_KEYLESS = true ∨ b.boot.otpBad = true → tells (.attest t n) [6]) ∧
    (asks 3 → p.length ≠ 8 → tells (.attest t n) [2]) ∧
    (asks 4 → ¬ host → tells (.loadYacor t n) [5]) ∧
    (asks 4 → host → p.length ≠ 1 → tells (.loadYacor t n) [2]) ∧
    (asks 4 → host → ¬ heard → p = [a] → b.programAt (a.toNat / 256 % 256) = some img → goodProgram img = some (iw, dw) →
      Completes (.loadYacor t n) s fun u =>
        b.Replied u n i h more [0, 0, BitVec.ofNat 32 (leAt img 16 4)] true ∧ u.engines = b.engines) ∧
    (asks 4 → host → heard → p = [a] → b.programAt (a.toNat / 256 % 256) = some img → goodProgram img = some (iw, dw) →
      Completes (.loadYacor t n) s fun u =>
        (∃ sig, (sig = 2 ∨ sig = 3) ∧ u.rd .YEe_STAT_SIG e = sig ∧
          b.Replied u n i h more [if sig = 3 then 6 else 0, BitVec.ofNat 32 sig, BitVec.ofNat 32 (leAt img 16 4)] true) ∧
        u.rd .YEe_ENTRY e = leAt img 12 2 % 2 ^ 12 ∧
        (∀ x, x < iw → (u.engines[e]).imemAt x = BitVec.ofNat 32 (leAt img (128 + 4 * x) 4)) ∧
        (∀ x, x < dw → (u.engines[e]).dmemAt x = BitVec.ofNat 64 (leAt img (128 + 4 * iw + 8 * x) 8)) ∧
        (a.getLsbD 16 = false → u.yeState e = stReset) ∧ ∀ k, k ≠ e → u.engines[k] = b.engines[k]) ∧
    (asks 4 → host → heard → p = [a] → b.programAt (a.toNat / 256 % 256) = none → Completes (.loadYacor t n) s fun u =>
      b.Replied u n i h more [3] true ∧ u.yeState e = stReset) ∧
    (asks 5 → host → p = [a] → a.toNat ≤ 2 → Completes (.bootSelect t n) s fun u =>
      b.Replied u n i h more [0, a] true ∧ u.rd .BOOT_STAT_PREF = a.toNat ∧ b.ServeKeeps u n (fun f _ => f == .BOOT_STAT_PREF)) ∧
    (asks 5 → host → p = [a] → 2 < a.toNat → tells (.bootSelect t n) [3]) ∧
    (asks 5 → ¬ host → tells (.bootSelect t n) [5]) ∧ (asks 5 → host → p.length ≠ 1 → tells (.bootSelect t n) [2]) ∧
    (asks 9 → p = [] → b.refit.1 = true → Completes (.refitNow t n result) s fun u =>
      b.Replied u n i h more (0 :: result.take 14) true ∧ u.bit .MODEL_CTRL_PENDING = true ∧ u.xo.pend = some .load ∧
      u.rd .MODEL_Y0 = b.refit.2.rd .MODEL_Y0) ∧
    (asks 9 → p = [] → b.refit.1 = false → tells (.refitNow t n result) [6]) ∧
    (asks 9 → p ≠ [] → tells (.refitNow t n result) [2])

/-- R370: what the recovery service answers on a channel of the host: reading, erasing and writing the boot flash, and the restart of the
processor; it knows no other TYPE. -/
def Piece.RecoveryService : Prop :=
  ∀ (s : State) (t : Nat) (n : Fin 16) (i : Fin 2) (h : Word) (p more : List Word) (a : Word) (ws : List Word) (x : Nat),
    let b := s.enter t
    let asks := fun (ty : Nat) => b.Asks n 2 i h p more ∧ headerType h = ty ∧ b.mbEndCode n 0 = 15 ∧ b.mbEndCode n 1 = 3
    let tells := fun (c : Instr) (q : List Word) => Completes c s fun u =>
      b.Replied u n i h more q true ∧ b.ServeKeeps u n (fun _ _ => false)
    let byte := fun (u : State) (k : Nat) => Store.get u.flash k 0xFF
    let data := ws.flatMap wordBytes
    let inside := a.toNat % 4 = 0 ∧ a.toNat + 4 * ws.length ≤ 0x800000
    let clean := ∀ k, k ∈ sectorsOf a.toNat (4 * ws.length) → k ∉ b.flashDirty
    let rest := fun (u : State) => State.ServeKeeps b { u with flash := b.flash, flashDirty := b.flashDirty } n (fun _ _ => false)
    (asks 0x100 → p = [a] → a.toNat % 4 = 0 → a.toNat + 52 ≤ 0x800000 →
      tells (.flashRead t n) (0 :: packWords (b.flashBytes a.toNat 52))) ∧
    (asks 0x100 → p = [a] → a.toNat % 4 ≠ 0 ∨ 0x800000 < a.toNat + 52 → tells (.flashRead t n) [3]) ∧
    (asks 0x101 → p = [a] → a.toNat < 0x800000 → Completes (.flashErase t n) s fun u =>
      b.Replied u n i h more [0] true ∧ rest u ∧
      byte u x = (if x / 4096 = a.toNat / 4096 then 0xFF else byte b x) ∧
      (a.toNat / 4096 ∉ u.flashDirty)) ∧
    (asks 0x101 → p = [a] → 0x800000 ≤ a.toNat → tells (.flashErase t n) [3]) ∧
    (asks 0x102 → p = a :: ws → ws ≠ [] → ws.length ≤ 13 → inside → clean → Completes (.flashWrite t n) s fun u =>
      b.Replied u n i h more [0] true ∧ rest u ∧
      byte u x = (if a.toNat ≤ x ∧ x < a.toNat + 4 * ws.length then byteAt data (x - a.toNat) else byte b x) ∧
      (∀ k, k ∈ sectorsOf a.toNat (4 * ws.length) → k ∈ u.flashDirty)) ∧
    (asks 0x102 → p = a :: ws → ws ≠ [] → ws.length ≤ 13 → inside → ¬ clean → tells (.flashWrite t n) [6]) ∧
    (asks 0x102 → p = a :: ws → ws ≠ [] → ws.length ≤ 13 → ¬ inside → tells (.flashWrite t n) [3]) ∧
    (asks 0x103 → p = [] → b.rd .GRN_CAP_STAT_RESULT ≠ 1 → b.rd .GRN_CAP_STAT_RESULT ≠ 2 → b.grn.word = 0 →
      Completes (.recoveryReboot t n) s fun u =>
        u.rd .DEV_STATE_KEEPER = 0 ∧
        ((u.mbox[n]).out[i]).words = [stampEpoch (replyHeader h 1) ((b.mbox[n]).ends[i]).epoch, 0] ∧
        u.keeper.hangs = 0 ∧ u.keeper.hung = 0 ∧ u.keeper.bootAt = b.now) ∧
    (b.rd .DEV_STATE_KEEPER = 2 → b.keeper.rebooting ≠ none → Completes (.flashRead t n) s fun u => b.Keeps u (fun _ _ => false)) ∧
    (∀ ty, b.Asks n 2 i h p more → headerType h = ty → ty < 0x100 ∨ 0x103 < ty → tells (.unknownType t n) [1])

/-- Keeper requests that act, and the recovery service: every part holds. -/
def Obligations.KeeperActionsAndRecovery : Prop := Piece.KeeperActions ∧ Piece.RecoveryService

/-! ## Yacor engines -/

/-- R195: the results of ADD, SUB, AND, OR, XOR and of the shifts by a register, with their cycles, every other register and all
else kept. -/
def Piece.YacorRegisterArithmetic : Prop :=
  ∀ (s : State) (t : Nat) (e : Fin 4) (rd ra rb : Fin 16),
    let b := s.enter t
    let g := b.engines[e]
    let x := g.reg ra
    let y := g.reg rb
    (b.CanRun e (.add rd ra rb) → Completes (.add t e rd ra rb) s fun u => b.Ran u e (g.result rd (x + y) 1)) ∧
    (b.CanRun e (.sub rd ra rb) → Completes (.sub t e rd ra rb) s fun u => b.Ran u e (g.result rd (x - y) 1)) ∧
    (b.CanRun e (.and_ rd ra rb) → Completes (.and_ t e rd ra rb) s fun u => b.Ran u e (g.result rd (x &&& y) 1)) ∧
    (b.CanRun e (.or_ rd ra rb) → Completes (.or_ t e rd ra rb) s fun u => b.Ran u e (g.result rd (x ||| y) 1)) ∧
    (b.CanRun e (.xor_ rd ra rb) → Completes (.xor_ t e rd ra rb) s fun u => b.Ran u e (g.result rd (x ^^^ y) 1)) ∧
    (b.CanRun e (.shl rd ra rb) →
      Completes (.shl t e rd ra rb) s fun u => b.Ran u e (g.result rd (x <<< (y.toNat % 64)) 1)) ∧
    (b.CanRun e (.shr rd ra rb) →
      Completes (.shr t e rd ra rb) s fun u => b.Ran u e (g.result rd (x >>> (y.toNat % 64)) 1)) ∧
    (b.CanRun e (.sar rd ra rb) →
      Completes (.sar t e rd ra rb) s fun u => b.Ran u e (g.result rd (x.sshiftRight (y.toNat % 64)) 1))

/-- R195: MUL keeps the low half of the product, MULH the upper half of the signed one, both in 3 cycles; SAT saturates to the
signed range of W bits, W = 0 meaning 64. -/
def Piece.YacorMultiplySaturate : Prop :=
  ∀ (s : State) (t : Nat) (e : Fin 4) (rd ra rb : Fin 16) (w : Fin 64),
    let b := s.enter t
    let g := b.engines[e]
    let x := g.reg ra
    let k := if w = 0 then 64 else w.val
    (b.CanRun e (.mul rd ra rb) → Completes (.mul t e rd ra rb) s fun u => b.Ran u e (g.result rd (x * g.reg rb) 3)) ∧
    (b.CanRun e (.mulh rd ra rb) → Completes (.mulh t e rd ra rb) s fun u => ∃ v : DWord,
      v.toInt = x.toInt * (g.reg rb).toInt / 2 ^ 64 ∧ b.Ran u e (g.result rd v 3)) ∧
    (b.CanRun e (.sat rd ra w) → Completes (.sat t e rd ra w) s fun u => ∃ v : DWord,
      v.toInt = max (-2 ^ (k - 1)) (min (2 ^ (k - 1) - 1) x.toInt) ∧ b.Ran u e (g.result rd v 1))

/-- R195: the immediate forms; the immediate of ADDI and LI is sign-extended, those of the logic forms zero-extended, and LIS
shifts RD up by 16 bits beneath its own. -/
def Piece.YacorImmediates : Prop :=
  ∀ (s : State) (t : Nat) (e : Fin 4) (rd ra : Fin 16) (i : Fin 262144) (n : Fin 64) (k : Fin 4194304) (h : Fin 65536),
    let b := s.enter t
    let g := b.engines[e]
    let x := g.reg ra
    (b.CanRun e (.addi rd ra i) → Completes (.addi t e rd ra i) s fun u =>
      b.Ran u e (g.result rd (x + (BitVec.ofNat 18 i).signExtend 64) 1)) ∧
    (b.CanRun e (.andi rd ra i) → Completes (.andi t e rd ra i) s fun u =>
      b.Ran u e (g.result rd (x &&& BitVec.ofNat 64 i) 1)) ∧
    (b.CanRun e (.ori rd ra i) → Completes (.ori t e rd ra i) s fun u =>
      b.Ran u e (g.result rd (x ||| BitVec.ofNat 64 i) 1)) ∧
    (b.CanRun e (.xori rd ra i) → Completes (.xori t e rd ra i) s fun u =>
      b.Ran u e (g.result rd (x ^^^ BitVec.ofNat 64 i) 1)) ∧
    (b.CanRun e (.shli rd ra n) → Completes (.shli t e rd ra n) s fun u => b.Ran u e (g.result rd (x <<< n.val) 1)) ∧
    (b.CanRun e (.shri rd ra n) → Completes (.shri t e rd ra n) s fun u => b.Ran u e (g.result rd (x >>> n.val) 1)) ∧
    (b.CanRun e (.sari rd ra n) → Completes (.sari t e rd ra n) s fun u =>
      b.Ran u e (g.result rd (x.sshiftRight n.val) 1)) ∧
    (b.CanRun e (.li rd k) → Completes (.li t e rd k) s fun u =>
      b.Ran u e (g.result rd ((BitVec.ofNat 22 k).signExtend 64) 1)) ∧
    (b.CanRun e (.lis rd h) → Completes (.lis t e rd h) s fun u =>
      b.Ran u e (g.result rd ((g.reg rd <<< 16) ||| BitVec.ofNat 64 h) 1))

/-- Yacor arithmetic, logic, shifts, multiply, saturate and immediates: every part holds. -/
def Obligations.YacorArithmetic : Prop := Piece.YacorRegisterArithmetic ∧ Piece.YacorMultiplySaturate ∧ Piece.YacorImmediates

/-- R196: CMP and CMPI set the predicate PD to the condition of CC over G[RA] and G[RB], or the immediate sign-extended from 17
bits. -/
def Obligations.YacorCompare : Prop :=
  ∀ (s : State) (t : Nat) (e pd : Fin 4) (cc : Cond) (ra rb : Fin 16) (i : Fin 131072),
    let b := s.enter t
    let g := b.engines[e]
    let holds := fun (x y : DWord) => match cc with
      | .eq => decide (x = y)
      | .ne => decide (x ≠ y)
      | .lt => decide (x.toInt < y.toInt)
      | .ge => decide (y.toInt ≤ x.toInt)
      | .ltu => decide (x.toNat < y.toNat)
      | .geu => decide (y.toNat ≤ x.toNat)
    (b.CanRun e (.cmp pd cc ra rb) → Completes (.cmp t e pd cc ra rb) s fun u =>
      b.Ran u e ((g.setPred pd (holds (g.reg ra) (g.reg rb))).went (g.pc + 1) 1)) ∧
    (b.CanRun e (.cmpi pd cc ra i) → Completes (.cmpi t e pd cc ra i) s fun u =>
      b.Ran u e ((g.setPred pd (holds (g.reg ra) ((BitVec.ofNat 17 i).signExtend 64))).went (g.pc + 1) 1)) ∧
    [0, 1, 2, 3, 4, 5, 6, 7].map condOf = [some .eq, some .ne, some .lt, some .ge, some .ltu, some .geu, none, none]

/-- R197: PLOG, JMP, BT, BF, JAL and JR, each in one cycle; JR above 4095 traps PC_END, and so does execution past word 4095. An enabled
breakpoint at the PC halts the engine first (R181). -/
def Obligations.YacorControlFlow : Prop :=
  ∀ (s : State) (t : Nat) (e pd pa pb : Fin 4) (fn : PredOp) (tgt : Fin 4096) (rd ra : Fin 16),
    let b := s.enter t
    let g := b.engines[e]
    let op := match fn with
      | .and_ => g.p[pa] && g.p[pb]
      | .or_ => g.p[pa] || g.p[pb]
      | .xor_ => g.p[pa] != g.p[pb]
      | .nor => !(g.p[pa] || g.p[pb])
    (b.CanRun e (.plog pd pa pb fn) → Completes (.plog t e pd pa pb fn) s fun u =>
      b.Ran u e ((g.setPred pd op).went (g.pc + 1) 1)) ∧
    (b.CanRun e (.jmp tgt) → Completes (.jmp t e tgt) s fun u => b.Ran u e (g.went tgt 1)) ∧
    (b.CanRun e (.bt pa tgt) → Completes (.bt t e pa tgt) s fun u =>
      b.Ran u e (g.went (if g.p[pa] = true then tgt else g.pc + 1) 1)) ∧
    (b.CanRun e (.bf pa tgt) → Completes (.bf t e pa tgt) s fun u =>
      b.Ran u e (g.went (if g.p[pa] = false then tgt else g.pc + 1) 1)) ∧
    (b.CanRun e (.jal rd tgt) → Completes (.jal t e rd tgt) s fun u =>
      b.Ran u e ((g.setReg rd (BitVec.ofNat 64 (g.pc + 1))).went tgt 1)) ∧
    (b.yeLive e = true → b.breaks e = false → b.atPc e = some (.jr ra) → (g.reg ra).toNat ≤ 4095 → Completes (.jr t e ra) s fun u =>
      b.Ran u e (g.went (g.reg ra).toNat 1)) ∧
    (b.yeLive e = true → b.breaks e = false → b.atPc e = some (.jr ra) → 4095 < (g.reg ra).toNat → Completes (.jr t e ra) s fun u =>
      b.Trapped u e trapPcEnd) ∧
    (b.yeLive e = true → b.breaks e = false → g.pc = 4096 → Completes (.undefinedEncoding t e false) s fun u => b.Trapped u e trapPcEnd) ∧
    (b.breaks e = true → Completes (.jmp t e tgt) s fun u =>
      u.yeState e = stHalted ∧ u.rd .YEe_STAT_HREASON e = haltBkpt ∧ (u.engines[e]).pc = g.pc)

/-- R164, R174, R189, R198, R202, R203: loads and stores of DMEM, the engine state that RDS reads, event polling and the timers. A DMEM address of
1024 or more traps DMEM_RANGE. An access meets the words as they stood before the masters' writes of the same YAC cycle, which remain
(R164); a line that pulses in the cycle of an EVPOLL stays pending. -/
def Obligations.YacorMemoryAndTimers : Prop :=
  ∀ (s : State) (t : Nat) (e i : Fin 4) (rd ra : Fin 16) (o : Fin 262144) (sel : Fin 8),
    let b := s.enter t
    let g := b.engines[e]
    let a := (g.reg ra + BitVec.ofNat 64 o).toNat
    let v := g.reg ra
    let tm := g.timers[i]
    let due := tm.run && decide (tm.expiry / 4000 ≤ b.now / 4000)
    let stopped := { tm with run := false, periodic := false, pend := tm.pend || due, pendAt := if due = true then b.now else tm.pendAt }
    let puts := g.putsNow b.now
    let old := g.unput b.now
    let watched := g.watch = true ∧ a < b.rd .YEe_SIGLEN_DMEM_WORDS e
    let set := fun (periodic : Bool) =>
      if v = 0 then stopped
      else ⟨true, periodic, false, min v.toNat 0xFFFFFFFF, b.usCeil (b.now + min v.toNat 0xFFFFFFFF * 1000000), 0⟩
    (b.CanRun e (.ld rd ra o) → Completes (.ld t e rd ra o false) s fun u =>
      a < 1024 ∧ b.Ran u e (g.reput b.now (old.result rd (old.dmemAt a) 1)) ∧ (puts = [] → b.Ran u e (g.result rd (g.dmemAt a) 1)) ∧
      ∀ p, puts = [p] → p.word = a → (u.engines[e]).reg rd = if rd = 0 then 0 else p.old) ∧
    (b.CanRun e (.st rd ra o) → Completes (.st t e rd ra o) s fun u =>
      a < 1024 ∧ (¬ watched → b.Ran u e (g.reput b.now ((old.dmemPut a (g.reg rd)).went (g.pc + 1) 1))) ∧
      (watched → u.rd .YEe_STAT_SIG e = 0) ∧
      ∀ k, (u.engines[e]).dmemAt k = if k = a ∧ ∀ p ∈ puts, p.word ≠ a then g.reg rd else g.dmemAt k) ∧
    (b.yeLive e = true → b.breaks e = false → b.atPc e = some (.ld rd ra o) → 1024 ≤ a → Completes (.ld t e rd ra o false) s fun u =>
      b.Trapped u e trapDmemRange) ∧
    (b.yeLive e = true → b.breaks e = false → b.atPc e = some (.st rd ra o) → 1024 ≤ a → Completes (.st t e rd ra o) s fun u =>
      b.Trapped u e trapDmemRange) ∧
    (b.yeLive e = true → b.breaks e = false → b.atPc e = some (.ld rd ra o) → a < 1024 → Completes (.ld t e rd ra o true) s fun u =>
      b.Trapped u e trapEccDmem) ∧
    (b.CanRun e (.rds rd sel) → Completes (.rds t e rd sel) s fun u => ∃ x,
      b.Ran u e (g.result rd x 1) ∧ (sel = 0 → x = g.cyc) ∧ (sel = 1 → x = b.evpend[e]) ∧ (sel = 2 → x = b.evovf[e]) ∧
      (sel = 3 → ∀ k, x.getLsbD k = if h : k < 4 then g.p[k] else if k < 10 then 8 ≤ k && e.val.testBit (k - 8) else false) ∧
      (4 ≤ sel.val → x = BitVec.ofNat 64 (b.yeRem e (Fin.ofNat 4 (sel.val - 4))))) ∧
    (b.CanRun e (.evpoll rd ra) → Completes (.evpoll t e rd ra) s fun u =>
      b.Ran u e (g.result rd (b.evpend[e] &&& v) 1) ∧
      (b.RunsOn e → b.Calm → u.evpend = b.evpend.set e (b.evpend[e] &&& ~~~(v &&& ~~~b.pulsedNow)))) ∧
    (b.CanRun e (.tset i ra) → Completes (.tset t e i ra) s fun u =>
      b.Ran u e ({ g with timers := g.timers.set i (set false) }.went (g.pc + 1) 1)) ∧
    (b.CanRun e (.tsetp i ra) → Completes (.tsetp t e i ra) s fun u =>
      b.Ran u e ({ g with timers := g.timers.set i (set true) }.went (g.pc + 1) 1)) ∧
    (b.CanRun e (.tstop i) → Completes (.tstop t e i) s fun u =>
      b.Ran u e ({ g with timers := g.timers.set i stopped }.went (g.pc + 1) 1))

/-- R172 to R174, R202: WAITEV with both masks 0 reads 0 in one cycle, releases at once where its condition holds, and otherwise waits;
a waiting one releases when the condition holds. The lines it took are cleared, but for what pulses in the same YAC cycle. -/
def Obligations.YacorWait : Prop :=
  ∀ (s : State) (t idle : Nat) (e : Fin 4) (rd ra tm : Fin 16) (w : Waiting),
    let b := s.enter t
    let g := b.engines[e]
    let holds := fun (x : Waiting) => b.evpend[e] &&& x.mask ≠ 0 ∨ ∃ k : Fin 4, x.tm.val.testBit k ∧ (g.timers[k]).pend = true
    let asked : Waiting := ⟨rd, g.reg ra, tm⟩
    let cleared := fun (u : State) (x : Waiting) => b.RunsOn e → b.Calm →
      u.evpend = b.evpend.set e (b.evpend[e] &&& ~~~(x.mask &&& ~~~b.pulsedNow))
    (b.CanRun e (.waitev rd ra tm) → g.reg ra = 0 → tm = 0 → Completes (.waitev t e rd ra tm) s fun u =>
      b.Ran u e (g.result rd 0 1)) ∧
    (b.CanRun e (.waitev rd ra tm) → ¬ (g.reg ra = 0 ∧ tm = 0) → holds asked → Completes (.waitev t e rd ra tm) s fun u =>
      g.Released (u.engines[e]) asked b.evpend[e] b.now ∧ (u.engines[e]).cyc = g.cyc + 1 ∧ cleared u asked) ∧
    (b.CanRun e (.waitev rd ra tm) → ¬ (g.reg ra = 0 ∧ tm = 0) → ¬ holds asked → Completes (.waitev t e rd ra tm) s fun u =>
      u.yeState e = stWaiting ∧ u.engines[e] = { g with wait := some asked, cyc := g.cyc + 1 } ∧
      State.Keeps b { u with engines := b.engines } (fun f n => f == .YEe_STAT_STATE && n == e.val)) ∧
    (b.yeState e = stWaiting → b.gated islYac = false → b.heldRst islYac = false → g.wait = some w → holds w →
      Completes (.waitevRelease t e idle) s fun u =>
        g.Released (u.engines[e]) w b.evpend[e] b.now ∧ cleared u w ∧ (u.engines[e]).cyc = g.cyc + BitVec.ofNat 64 idle ∧
        (¬ b.breakAt e (g.pc + 1) → g.stepping = false → u.yeState e = stRunning))

/-- R169, R193: an access in its slot. A read returns what the register map gives the engine as a master, a write reaches it; CYC
counts the slot's 24 cycles, 32 at a link, and LATE reads 0. One that is `c` cycles late adds them, sets LATE and counts in
YEe_DETLOSS; one not answered within 4096 cycles reads 0, or is discarded, and sets DEV_TMO. -/
def Piece.YacorAccessSlot : Prop :=
  ∀ (b : State) (e : Fin 4) (k a c : Nat) (v : Word), 0 < c →
    let slot := if 0x340000 ≤ a then 32 else 24
    slot + c ≤ 4096 →
    let r := b.devRead (.ye e) a
    let w := b.devWrite (.ye e) a v
    let cyc := fun (s : State) => (s.engines[e]).cyc
    (∀ d, 4096 < slot + d → b.yeRead e (.late k d) k a = b.yeRead e (.timeout k) k a ∧
      b.yeWrite e (.late k d) k a v = b.yeWrite e (.timeout k) k a v) ∧
    r.2.Slotted (b.yeRead e .none k a).2 e slot ∧ w.Slotted (b.yeWrite e .none k a v) e slot ∧
    (b.yeRead e .none k a).1 = r.1 ∧
    cyc (b.yeRead e .none k a).2 = cyc r.2 + BitVec.ofNat 64 slot ∧
    cyc (b.yeWrite e .none k a v) = cyc w + BitVec.ofNat 64 slot ∧
    (b.yeRead e .none k a).2.bit .YEe_STAT_LATE e = false ∧
    (b.yeWrite e .none k a v).bit .YEe_STAT_LATE e = false ∧
    (b.yeRead e (.late k c) k a).1 = r.1 ∧
    cyc (b.yeRead e (.late k c) k a).2 = cyc r.2 + BitVec.ofNat 64 (slot + c) ∧
    (b.yeRead e (.late k c) k a).2.bit .YEe_STAT_LATE e = true ∧
    (b.yeRead e (.late k c) k a).2.bit .YEe_EV_LATE e = true ∧
    (b.yeRead e (.late k c) k a).2.rd .YEe_DETLOSS_COUNT e =
      min (r.2.rd .YEe_DETLOSS_COUNT e + 1) (2 ^ Field.YEe_DETLOSS_COUNT.info.width - 1) ∧
    (b.yeRead e (.timeout k) k a).1 = 0 ∧
    cyc (b.yeRead e (.timeout k) k a).2 = cyc b + 4096 ∧
    (b.yeRead e (.timeout k) k a).2.bit .YEe_EV_DEV_TMO e = true ∧
    (b.yeWrite e (.timeout k) k a v).bit .YEe_EV_DEV_TMO e = true ∧
    (∀ f n, f ∉ [Field.YEe_EV_DEV_TMO, .YEe_STAT_LATE, .YEe_EV_LATE, .YEe_DETLOSS_COUNT, .YEe_DETLOSS_MAXOVER] →
      f.settles = false → (b.yeWrite e (.timeout k) k a v).rd f n = b.rd f n)

/-- R199: RDD and RDDP return the words at their address, RDDP the second above the first; WRD and WRDP write RS, WRDP its upper
half first. Each leaves what its accesses made, and where nothing halts the engine nothing else changes. -/
def Piece.YacorDeviceAccess : Prop :=
  ∀ (s : State) (t : Nat) (e : Fin 4) (rd : Fin 16) (d : DevAddr),
    let b := s.enter t
    let g := b.engines[e]
    let a := match d with
      | .abs w => w.val * 4
      | .idx ra o => (g.reg ra + BitVec.ofNat 64 (o.val * 4)).toNat
    let up := (a + 4) % 2 ^ 64
    let slot := if 0x340000 ≤ a then 32 else 24
    let v32 := (g.reg rd).setWidth 32
    let left := fun (v u : State) => v.RunsOn e → State.Keeps v { u with engines := v.engines } (fun _ _ => false)
    let x := b.yeRead e .none 0 a
    let y := x.2.yeRead e .none 1 up
    let w := b.yeWrite e .none 0 a ((g.reg rd).setWidth 32)
    let z := (b.yeWrite e .none 0 up ((g.reg rd >>> 32).setWidth 32)).yeWrite e .none 1 a ((g.reg rd).setWidth 32)
    (b.CanRun e (.rdd rd d) → Completes (.rdd t e rd d) s fun u =>
      x.2.Moved u e ((x.2.engines[e]).result rd (x.1.setWidth 64) 0) ∧ left x.2 u) ∧
    (b.CanRun e (.rddp rd d) → Completes (.rddp t e rd d) s fun u =>
      y.2.Moved u e ((y.2.engines[e]).result rd (joinPair x.1 y.1) 0) ∧ left y.2 u) ∧
    (b.CanRun e (.wrd rd d) → Completes (.wrd t e rd d) s fun u =>
      w.Moved u e ((w.engines[e]).went ((w.engines[e]).pc + 1) 0) ∧ left w u ∧
      (b.devWrite (.ye e) a v32).Slotted w e slot) ∧
    (b.CanRun e (.wrdp rd d) → Completes (.wrdp t e rd d) s fun u =>
      z.Moved u e ((z.engines[e]).went ((z.engines[e]).pc + 1) 0) ∧ left z u) ∧
    (b.yeLive e = true → b.breaks e = false → b.atPc e = some (.rdd rd d) → a % 4 ≠ 0 → Completes (.rdd t e rd d) s fun u =>
      b.Trapped u e trapDevAlign) ∧
    (b.yeLive e = true → b.breaks e = false → b.atPc e = some (.wrd rd d) → a % 4 = 0 → b.window e a true = false →
      Completes (.wrd t e rd d) s fun u => b.Trapped u e trapDevPerm)

/-- Device accesses of an engine in their slots: every part holds. -/
def Obligations.YacorDeviceAccess : Prop := Piece.YacorAccessSlot ∧ Piece.YacorDeviceAccess

/-- R204: MEAS.STAT reads INn_MEAS, latching for the engine, and sets PD to VALID and not STALE; FREQ and RAW return the copy
latched, PHASE the expectation in RA moved to the nearest time of the latched stamp. -/
def Piece.YacorMeas : Prop :=
  ∀ (s : State) (t : Nat) (e pd : Fin 4) (rd ra n : Fin 16),
    let b := s.enter t
    let g := b.engines[e]
    let m : Master := .ye e
    let f := joinPair (b.latched m (Reg.INn_MEAS_FREQ.addr n)) (b.latched m (Reg.INn_MEAS_FREQ.addr n + 4))
    let v := joinPair (b.latched m (Reg.INn_MEAS_PHASE.addr n)) (b.latched m (Reg.INn_MEAS_PHASE.addr n + 4))
    let x := g.reg ra
    let d : Int := ((v.toNat % 2 ^ 40 : Nat) - x.toInt) % 2 ^ 40
    (b.reach .INn_MEAS = true → b.CanRun e (.measStat pd rd n) → Completes (.measStat t e pd rd n) s fun u =>
      let w := (b.readInMeas m n).1
      let new := b.bit .INn_MEAS_VALID n = true ∧ sameCycle (b.inputs[n]).measAt b.now = true
      let fr := fun (u : State) => joinPair (u.latched m (Reg.INn_MEAS_FREQ.addr n)) (u.latched m (Reg.INn_MEAS_FREQ.addr n + 4))
      let ph := fun (u : State) => joinPair (u.latched m (Reg.INn_MEAS_PHASE.addr n)) (u.latched m (Reg.INn_MEAS_PHASE.addr n + 4))
      u.engines[e] = { ((g.setReg rd (w.setWidth 64)).setPred pd (w.getLsbD 17 && !w.getLsbD 16)).went (g.pc + 1) 24 with
        wait := (u.engines[e]).wait, stepping := (u.engines[e]).stepping } ∧
      (¬ new → fr u = (b.inputs[n]).measFreq ∧ ph u = (b.inputs[n]).measPhase) ∧
      (new → fr u = (b.inputs[n]).before.a ∧ ph u = (b.inputs[n]).before.b)) ∧
    (b.reach .INn_MEAS_FREQ = true → b.CanRun e (.measFreq rd n) → Completes (.measFreq t e rd n) s fun u =>
      b.Moved u e (g.result rd f 48)) ∧
    (b.reach .INn_MEAS_PHASE = true → b.CanRun e (.measRaw rd n) → Completes (.measRaw t e rd n) s fun u =>
      b.Moved u e (g.result rd v 48)) ∧
    (b.reach .INn_MEAS_PHASE = true → b.CanRun e (.measPhase rd ra n) → Completes (.measPhase t e rd ra n) s fun u =>
      b.Moved u e (g.result rd (if v.getLsbD 63 = false then x
        else x + BitVec.ofInt 64 (if 2 ^ 39 ≤ d then d - 2 ^ 40 else d)) 48))

/-- R205, R206, R208: STEER writes the bound and then the word saturated to 48 bits, PHSTEP the saturated setpoint, SELREF the
candidate unless a commit is pending or in its window. -/
def Piece.YacorSteerPhstepSelref : Prop :=
  ∀ (s : State) (t : Nat) (e p : Fin 4) (n : Fin 64) (ra rb : Fin 16) (src : SelSrc),
    let b := s.enter t
    let g := b.engines[e]
    let v := max (-2 ^ 47) (min (2 ^ 47 - 1) (g.reg ra).toInt)
    let code := match src with
      | .code c => c.val
      | .reg r => (g.reg r).toNat % 32
      | .auto => 31
    (b.reach .PLn_STEER = true → b.CanRun e (.steer p ra rb) → Completes (.steer t e p ra rb) s fun u =>
      b.Moved u e (g.went (g.pc + 1) 72) ∧ u.rd .PLn_STEER_BOUND p = (g.reg rb).toNat % 2 ^ 32 ∧ u.rdI .PLn_STEER p = v ∧
      (u.planes[p]).steerBound = some ((g.reg rb).toNat % 2 ^ 32)) ∧
    (b.reach .OUTn_PHASE = true → b.CanRun e (.phstep n ra) → Completes (.phstep t e n ra) s fun u =>
      b.Moved u e (g.went (g.pc + 1) 48) ∧ u.rdI .OUTn_PHASE n = v) ∧
    (b.reach .PLn_SHADOW_CAND = true → b.CanRun e (.selref p src) → Completes (.selref t e p src) s fun u =>
      b.Moved u e (g.went (g.pc + 1) 24) ∧
      (b.committing p = false → u.rd .PLn_SHADOW_CAND_SRC p = code ∧ u.bit .PLn_SHADOW_CAND_AUTO p = (src == .auto)) ∧
      (b.committing p = true → u.rd .PLn_SHADOW_CAND_SRC p = b.rd .PLn_SHADOW_CAND_SRC p ∧
        u.rd .PLn_SHADOW_CAND_AUTO p = b.rd .PLn_SHADOW_CAND_AUTO p))

/-- MEAS, STEER, PHSTEP and SELREF: every part holds. -/
def Obligations.YacorTimingInstructions : Prop := Piece.YacorMeas ∧ Piece.YacorSteerPhstepSelref

/-- R175, R176, R209: a SPEC instruction on a plane that another master's region holds leaves the plane as it is and returns
RESULT with bit 4; BEGIN with no region open opens one for the engine; ABANDON of the engine's open region closes it. -/
def Piece.YacorSpec : Prop :=
  ∀ (s : State) (t : Nat) (e p : Fin 4) (rd : Fin 16) (pref : Fin 32) (force : Bool) (r : Region),
    let b := s.enter t
    let g := b.engines[e]
    let was := b.rd .PLn_COMMIT_RESULT p
    let mine := b.planes[p].region = some r ∧ r.owner = some (4 + e.val)
    b.reach .PLn_COMMIT = true →
    (b.CanRun e (.specBegin rd p pref) → b.planes[p].region = none → b.bit .PLn_COMMIT_BUSY p = false →
      Completes (.specBegin t e rd p pref) s fun u =>
        b.Moved u e (g.result rd 1 24) ∧
        (b.RunsOn e → u.rd .PLn_COMMIT_RESULT p = 1 ∧ u.bit .PLn_COMMIT_BUSY p = true ∧
          ∃ x, u.planes[p].region = some x ∧ x.owner = some (4 + e.val))) ∧
    (b.CanRun e (.specBegin rd p pref) → b.planes[p].region = some r → b.bit .PLn_COMMIT_BUSY p = true →
      Completes (.specBegin t e rd p pref) s fun u =>
        b.Moved u e (g.result rd (BitVec.ofNat 64 (was + (if r.owner = some (4 + e.val) then 0 else 16) + 32)) 24) ∧
        (b.RunsOn e → u.planes[p] = b.planes[p])) ∧
    (b.CanRun e (.specCommit rd p force) → mine → was = 1 → b.commitAccepted p force = true →
      Completes (.specCommit t e rd p force) s fun u =>
        b.Moved u e (g.result rd 2 24) ∧ u.rd .PLn_COMMIT_RESULT p = 2) ∧
    (b.CanRun e (.specCommit rd p force) → b.planes[p].region = some r → r.owner ≠ some (4 + e.val) →
      Completes (.specCommit t e rd p force) s fun u =>
        b.Moved u e (g.result rd (BitVec.ofNat 64 (was + 16)) 24) ∧ u.planes[p] = b.planes[p]) ∧
    (b.CanRun e (.specAbandon rd p) → mine → was ≠ 3 →
      Completes (.specAbandon t e rd p) s fun u =>
        b.Moved u e (g.result rd 5 24) ∧ u.rd .PLn_COMMIT_RESULT p = 5 ∧ u.planes[p].region = none) ∧
    (b.CanRun e (.specAbandon rd p) → b.planes[p].region = some r → r.owner ≠ some (4 + e.val) →
      Completes (.specAbandon t e rd p) s fun u =>
        b.Moved u e (g.result rd (BitVec.ofNat 64 (was + 16)) 24) ∧ u.planes[p] = b.planes[p])

/-- R207: HOP with RA ≠ G0 sets the sheaf's instant, nanoseconds of 10⁹ or more becoming 0x3FFF_FFFF; it commands the sheaf and
returns SHk_STAT as the command leaves it. -/
def Piece.YacorHop : Prop :=
  ∀ (s : State) (t : Nat) (e p : Fin 4) (rd k ra rb : Fin 16) (op : HopOp) (sync asap : Bool),
    let b := s.enter t
    let g := b.engines[e]
    b.reach .SHk_CMD = true → b.CanRun e (.hop rd k p ra rb op sync asap) →
      Completes (.hop t e rd k p ra rb op sync asap) s fun u =>
        (∃ st : Word, b.Moved u e (g.result rd (st.setWidth 64) (if ra = 0 then 48 else 120)) ∧
          st = BitVec.ofNat 32 (u.rd .SHk_STAT_STATE k + u.rd .SHk_STAT_RESULT k * 16 + u.rd .SHk_STAT_CONFLICT k * 256)) ∧
        (ra ≠ 0 → u.rd .SHk_AT_S k = (g.reg ra).toNat % 2 ^ 48 ∧
          u.rd .SHk_AT_NS k = if (g.reg rb).toNat < 1000000000 then (g.reg rb).toNat else 0x3FFFFFFF) ∧
        (ra = 0 → u.rd .SHk_AT_S k = b.rd .SHk_AT_S k ∧ u.rd .SHk_AT_NS k = b.rd .SHk_AT_NS k)

/-- SPEC and HOP: every part holds. -/
def Obligations.YacorSpecAndHop : Prop := Piece.YacorSpec ∧ Piece.YacorHop

/-- R164, R210: POST sends all N words of the message in DMEM or none, FETCH takes the words that wait, and both return the count. A
channel not bound to the engine traps MB_BIND, a message beyond DMEM DMEM_RANGE. -/
def Obligations.YacorPostFetch : Prop :=
  ∀ (s : State) (t : Nat) (e : Fin 4) (rd c ra n : Fin 16) (ecc : Bool),
    let b := s.enter t
    let g := b.engines[e]
    let q := (g.reg ra).toNat
    let len := n.val + 1
    let left := fun (v u : State) => v.RunsOn e → State.Keeps v { u with engines := v.engines } (fun _ _ => false)
    let old := g.unput b.now
    let kept := fun (j : Nat) => ∀ p ∈ g.putsNow b.now, p.word ≠ j
    let x := (b.setYe e old).yeRead e .none 0 (Reg.MBn_STAT.addr c)
    let free := x.1.toNat % 32
    let k := min len (x.1.toNat / 32 % 32)
    let z := x.2.postWords e .none (Reg.MBn_TX.addr c) 1 ((List.range len).map (old.half q))
    let r := x.2.fetchWords e .none (Reg.MBn_RX.addr c) 1 k
    (b.CanRun e (.post rd c ra n) → free < len → Completes (.post t e rd c ra n false) s fun u =>
      x.2.Moved u e (g.reput b.now ((x.2.engines[e]).result rd 0 (24 * len))) ∧ u.mbox = x.2.mbox ∧ left x.2 u) ∧
    (b.CanRun e (.post rd c ra n) → len ≤ free → Completes (.post t e rd c ra n false) s fun u =>
      z.Moved u e (g.reput b.now ((z.engines[e]).result rd (BitVec.ofNat 64 len) 0)) ∧ u.mbox = z.mbox ∧ left z u) ∧
    (b.CanRun e (.fetch rd c ra n) → Completes (.fetch t e rd c ra n) s fun u =>
      let h := u.engines[e]
      let f := r.2.engines[e]
      h.reg rd = (if rd = 0 then 0 else BitVec.ofNat 64 k) ∧ (∀ i, i ≠ rd → h.reg i = f.reg i) ∧ h.pc = f.pc + 1 ∧
      h.cyc = f.cyc + BitVec.ofNat 64 (24 * (len - k)) ∧ (∀ i, i < k → kept (q + i / 2) → h.half q i = r.1.getD i 0) ∧
      (∀ i, k ≤ i → kept (q + i / 2) → h.half q i = f.half q i) ∧ (∀ j, j < q → kept j → h.dmemAt j = f.dmemAt j) ∧
      (∀ j, ¬ kept j → h.dmemAt j = g.dmemAt j) ∧ u.mbox = r.2.mbox ∧ (¬ (g.watch = true) → left r.2 u)) ∧
    (b.yeLive e = true → b.breaks e = false → b.atPc e = some (.post rd c ra n) → 1024 ≤ q + (len + 1) / 2 - 1 →
      Completes (.post t e rd c ra n ecc) s fun u => b.Trapped u e trapDmemRange) ∧
    (b.yeLive e = true → b.breaks e = false → b.atPc e = some (.post rd c ra n) → q + (len + 1) / 2 - 1 < 1024 → b.boundTo e c = false →
      Completes (.post t e rd c ra n false) s fun u => b.Trapped u e trapMbBind) ∧
    (b.yeLive e = true → b.breaks e = false → b.atPc e = some (.fetch rd c ra n) → q + (len + 1) / 2 - 1 < 1024 → b.boundTo e c = false →
      Completes (.fetch t e rd c ra n) s fun u => b.Trapped u e trapMbBind)

/-- R211: TNOW stores the plane's current record in three DMEM words and returns its TEB; it traps DMEM_RANGE when the third word
lies beyond DMEM. -/
def Obligations.YacorTnow : Prop :=
  ∀ (s : State) (t : Nat) (e p : Fin 4) (rd ra : Fin 16),
    let b := s.enter t
    let g := b.engines[e]
    let q := (g.reg ra).toNat
    let w := fun (i : Nat) => (b.record p).words.getD i 0
    let kept := fun (j : Nat) => ∀ x ∈ g.putsNow b.now, x.word ≠ j
    (b.reach .TODp_REC = true → b.CanRun e (.tnow rd p ra) → Completes (.tnow t e rd p ra) s fun u =>
      let h := u.engines[e]
      q + 2 < 1024 ∧ (kept q → h.dmemAt q = joinPair (w 0) (w 1)) ∧ (kept (q + 1) → h.dmemAt (q + 1) = joinPair (w 2) (w 3)) ∧
      (kept (q + 2) → h.dmemAt (q + 2) = joinPair (w 4) (w 5)) ∧ (∀ j, j < q ∨ q + 2 < j ∨ ¬ kept j → h.dmemAt j = g.dmemAt j) ∧
      h.reg rd = (if rd = 0 then 0 else (w 3).setWidth 64) ∧ (∀ i, i ≠ rd → h.reg i = g.reg i) ∧ h.pc = g.pc + 1 ∧
      h.cyc = g.cyc + 144 ∧ ∀ i, i < 6 → u.latched (.ye e) (Reg.TODp_REC.addr p + 4 * i) = w i) ∧
    (b.yeLive e = true → b.breaks e = false → b.atPc e = some (.tnow rd p ra) → 1024 ≤ q + 2 → Completes (.tnow t e rd p ra) s fun u =>
      b.Trapped u e trapDmemRange)

/-- R178 to R181, R192: an undefined encoding, an uncorrectable word, the watchdog and the restart policy; RSTCNT clears 60 s
after the last trap. -/
def Obligations.YacorTraps : Prop :=
  ∀ (s : State) (t : Nat) (e : Fin 4) (i : YeInstr) (c due : Nat),
    let b := s.enter t
    let g := b.engines[e]
    (b.yeLive e = true → b.breaks e = false → g.pc < 4096 → yeDecode (g.imemAt g.pc) = none → Completes (.undefinedEncoding t e false) s fun u =>
      b.Trapped u e trapIllegal) ∧
    (b.yeLive e = true → b.breaks e = false → g.pc < 4096 → Completes (.undefinedEncoding t e true) s fun u =>
      b.Trapped u e trapEccImem) ∧
    (b.yeLive e = true → b.atPc e = some i → b.rd .YEe_WDOG e ≠ 0 → g.wdFrom + b.rd .YEe_WDOG e * 1000000 ≤ b.now →
      Completes (.watchdogExpire t e) s fun u =>
        (b.trapOf e i false = none → b.Trapped u e trapWdog) ∧ (b.trapOf e i false = some c → b.Trapped u e c)) ∧
    (b.yeState e = stTrapped → g.restartAt = some due → due ≤ b.now → Completes (.trapRestart t e) s fun u =>
      (u.engines[e]).pc = b.rd .YEe_ENTRY e ∧ (u.engines[e]).dmem = g.dmem ∧ (∀ r, (u.engines[e]).reg r = 0) ∧
      u.bit .YEe_EV_RESTART e = true ∧
      u.rd .YEe_STAT_RSTCNT e = min (b.rd .YEe_STAT_RSTCNT e + 1) (2 ^ Field.YEe_STAT_RSTCNT.info.width - 1) ∧
      (¬ b.breakAt e (b.rd .YEe_ENTRY e) → u.yeState e = stRunning)) ∧
    (b.yeState e = stTrapped → g.restartAt = none ∨ (g.restartAt = some due ∧ b.now < due) → Completes (.trapRestart t e) s fun u =>
      b.Keeps u (fun _ _ => false)) ∧
    (b.breaks e = true → Completes (.undefinedEncoding t e false) s fun u =>
      u.yeState e = stHalted ∧ u.rd .YEe_STAT_HREASON e = haltBkpt) ∧
    (g.trapAt + 60 * 1000000000000 ≤ b.now → Completes (.rstcntClear t e) s fun u =>
      u.rd .YEe_STAT_RSTCNT e = 0 ∧ b.Keeps u (fun f n => f == .YEe_STAT_RSTCNT && n == e.val))

/-- R171, R172, R174: a timer that runs expires at its instant, a periodic one reloading; a pulse of a line sets it pending in
every engine, and its overflow where it was pending already. -/
def Piece.YacorTimersAndLines : Prop :=
  ∀ (s : State) (t : Nat) (e i : Fin 4) (line : Fin 64) (m : Master) (v : Word),
    let b := s.enter t
    let g := b.engines[e]
    let tm := g.timers[i]
    let calm := b.Calm
    let pulsed := fun (u : State) (l : Fin 64) => ∀ k : Fin 4,
      (u.evpend[k]).getLsbD l = true ∧ (calm → (u.evovf[k]).getLsbD l = ((b.evovf[k]).getLsbD l || (b.evpend[k]).getLsbD l))
    (tm.run = true → tm.expiry ≤ b.now → Completes (.timerExpire t e i) s fun u =>
      u.engines[e] = { g with timers := g.timers.set i { tm with
        pend := true, pendAt := b.now, run := tm.periodic, expiry := if tm.periodic then tm.expiry + tm.v * 1000000 else tm.expiry } } ∧
      (∀ k, k ≠ e → u.engines[k] = b.engines[k]) ∧ State.Keeps b { u with engines := b.engines } (fun _ _ => false)) ∧
    Completes (.eventLinePulse t line) s (fun u => pulsed u line ∧ b.Keeps u (fun _ _ => false) ∧
      (calm → ∀ (k : Fin 4) (l : Nat), l ≠ line.val → (u.evpend[k]).getLsbD l = (b.evpend[k]).getLsbD l)) ∧
    (b.answers m .YE_SWEV → Completes (.yeSwev t m v) s fun u =>
      (v.getLsbD 0 = true → pulsed u 62) ∧ (v.getLsbD 1 = true → pulsed u 63) ∧ b.Keeps u (fun _ _ => false))

/-- R169: a device access that overruns its slot sets LATE and counts, one never answered reads 0; a read of YEe_DETLOSS returns
the counts and clears them, but for what counts in its own cycle (R7). -/
def Piece.YacorOverruns : Prop :=
  ∀ (s : State) (t c : Nat) (e : Fin 4) (rd : Fin 16) (d : DevAddr) (m : Master) (more : SlotEvent),
    let b := s.enter t
    let g := b.engines[e]
    let x := b.yeRead e (.both (.late 0 c) more) 0 (g.devAddr d)
    let lost := b.rd .YEe_DETLOSS_COUNT e + b.rd .YEe_DETLOSS_MAXOVER e * 65536
    (b.CanRun e (.rdd rd d) → 0 < c → c ≤ 4000 → Completes (.devAccessOverrun t e ⟨0, more⟩ c) s fun u =>
      x.2.Moved u e ((x.2.engines[e]).result rd (x.1.setWidth 64) 0) ∧ u.bit .YEe_STAT_LATE e = true ∧
      u.bit .YEe_EV_LATE e = true) ∧
    (b.CanRun e (.rdd rd d) → Completes (.devAccessTimeout t e ⟨0, more⟩) s fun u =>
      b.Moved u e (g.result rd 0 4096) ∧ u.bit .YEe_EV_DEV_TMO e = true) ∧
    (b.answers m .YEe_DETLOSS → Completes (.yeDetlossRead t m e) s fun u =>
      (u.mst m).data = BitVec.ofNat 32 lost ∧ u.rd .YEe_DETLOSS_COUNT e = b.countNow .YEe_DETLOSS_COUNT e % 65536 ∧
      u.rd .YEe_DETLOSS_MAXOVER e = (b.noted .YEe_DETLOSS_MAXOVER e).foldr max 0 % 65536 ∧
      State.Keeps b { u with masters := b.masters } (fun f n => (f == .YEe_DETLOSS_COUNT || f == .YEe_DETLOSS_MAXOVER) && n == e.val))

/-- Timer expiry, event lines and slot overruns: every part holds. -/
def Obligations.YacorTimersLinesOverruns : Prop := Piece.YacorTimersAndLines ∧ Piece.YacorOverruns

/-- R182: of the commands of one write to YEe_CTRL, RESET acts before HALT, HALT before STEP, STEP before START; VERIFY acts only
where the others leave RESET or HALTED. -/
def Obligations.YacorCommandPrecedence : Prop :=
  ∀ (b : State) (e : Fin 4) (v : Word) (x : SlotEvent) (y : EccAt),
    (v.getLsbD 3 = true → b.yeCtrl e v x y = b.yeCtrl e (v &&& ~~~7) x y) ∧
    (v.getLsbD 3 = false → v.getLsbD 1 = true → b.yeCtrl e v x y = b.yeCtrl e (v &&& ~~~5) x y) ∧
    (v.getLsbD 3 = false → v.getLsbD 1 = false → v.getLsbD 2 = true → b.yeCtrl e v x y = b.yeCtrl e (v &&& ~~~1) x y) ∧
    (v.getLsbD 4 = true →
      let a := b.yeCtrl e (v &&& ~~~16) x y
      b.yeCtrl e v x y = if a.yeState e = 0 ∨ a.yeState e = 1 then a.yeVerify e else a)

/-- R162, R181, R187, R188: START, HALT, STEP, RESET and VERIFY of an engine, with NOSLEEP. A START or STEP from RESET that R187
refuses sets START_REJ and leaves RESET. -/
def Piece.YacorCommands : Prop :=
  ∀ (s : State) (t : Nat) (m : Master) (e : Fin 4) (ns : Bool) (i : YeInstr) (x : SlotEvent),
    let b := s.enter t
    let g := b.engines[e]
    let st := b.yeState e
    let entry := b.rd .YEe_ENTRY e
    b.answers m .YEe_CTRL →
    (st = stReset → b.yeMayStart e = true → Completes (.yeStart t m e ns) s fun u =>
      (u.engines[e]).pc = entry ∧ (∀ r, (u.engines[e]).reg r = g.reg r) ∧ u.bit .YEe_CTRL_NOSLEEP e = ns ∧
      u.yeState e = if b.bit .YEe_BKPT_EN e && b.rd .YEe_BKPT_PC e == entry then stHalted else stRunning) ∧
    (st = stReset → b.yeMayStart e = false → Completes (.yeStart t m e ns) s fun u =>
      u.engines = b.engines ∧ u.yeState e = stReset ∧ u.bit .YEe_EV_START_REJ e = true) ∧
    (st = stHalted ∨ st = stTrapped → Completes (.yeStart t m e ns) s fun u =>
      (u.engines[e]).pc = g.pc ∧ (∀ r, (u.engines[e]).reg r = g.reg r) ∧ (u.engines[e]).dmem = g.dmem ∧
      (¬ b.breakAt e g.pc → u.yeState e = stRunning)) ∧
    (st = stRunning ∨ st = stWaiting → Completes (.yeHalt t m e ns) s fun u =>
      u.engines[e] = { g with wait := none, stepping := false } ∧ u.yeState e = stHalted ∧
      u.rd .YEe_STAT_HREASON e = 1 ∧ u.bit .YEe_EV_HALTED e = true ∧ u.bit .YEe_CTRL_NOSLEEP e = ns) ∧
    (st = stHalted ∨ st = stTrapped → b.atPc e = some i → i.slots = 0 → b.trapOf e i false = none →
      (∀ rd ra tm, i ≠ .waitev rd ra tm) → Completes (.yeStep t m e ⟨ns, .none, x⟩) s fun u =>
        u.yeState e = stHalted ∧ u.rd .YEe_STAT_HREASON e = 2 ∧ u.bit .YEe_EV_HALTED e = true ∧
        ∀ rd ra rb, i = .add rd ra rb → (u.engines[e]).pc = g.pc + 1 ∧
          (u.engines[e]).reg rd = if rd = 0 then 0 else g.reg ra + g.reg rb) ∧
    (st = stHalted ∨ st = stTrapped → g.pc < 4096 → Completes (.yeStep t m e ⟨ns, .imem, x⟩) s fun u =>
      u.yeState e = stTrapped ∧ u.rd .YEe_TRAP_CAUSE e = trapEccImem ∧ (b.records 25 = true → u.bitOf .FLT_STATUS 0 25 = true)) ∧
    (st = stReset → b.yeMayStart e = false → Completes (.yeStep t m e ⟨ns, .none, x⟩) s fun u =>
      u.engines = b.engines ∧ u.yeState e = stReset ∧ u.bit .YEe_EV_START_REJ e = true) ∧
    Completes (.yeReset t m e ns) s (fun u =>
      u.yeState e = stReset ∧ (u.engines[e]).pc = entry ∧ (∀ r, (u.engines[e]).reg r = 0) ∧
      (∀ k : Fin 4, (u.engines[e]).p[k] = false ∧ (u.engines[e]).timers[k] = YeTimer.init) ∧ (u.engines[e]).cyc = 0 ∧
      (u.engines[e]).imem = g.imem ∧ (u.engines[e]).dmem = g.dmem ∧ (u.engines[e]).sig = g.sig ∧
      u.rd .YEe_TRAP_CAUSE e = 0 ∧ ∀ k, k ≠ e → u.engines[k] = b.engines[k]) ∧
    (st = stReset ∨ st = stHalted → Completes (.yeVerify t m e ns) s fun u =>
      u.rd .YEe_STAT_SIG e = 1 ∧ u.engines[e] = { g with watch := true, verKey := b.signKey } ∧ u.yeState e = st) ∧
    (st ≠ stReset → st ≠ stHalted → Completes (.yeVerify t m e ns) s fun u =>
      u.engines = b.engines ∧ u.rd .YEe_STAT_SIG e = b.rd .YEe_STAT_SIG e)

/-- R164, R183, R188, R189: the keeper's verdict on a program, and the masters' writes of IMEM, DMEM and the engine's registers,
with their halves held and latched for each master. -/
def Piece.YacorMemoriesFromOutside : Prop :=
  ∀ (s : State) (t : Nat) (m : Master) (e : Fin 4) (a : Fin 4096) (d : Fin 1024) (i : Fin 16) (v lo hi : Word),
    let b := s.enter t
    let g := b.engines[e]
    let st := b.yeState e
    let at_ := 0x120000 + e.val * 0x40000 + d.val * 8
    let cover := d.val < b.rd .YEe_SIGLEN_DMEM_WORDS e
    (b.keeperRuns = true → b.rd .YEe_STAT_SIG e = 1 → Completes (.sigVerifyDone t e) s fun u =>
      u.rd .YEe_STAT_SIG e = (if b.sigVerifies e then 2 else 3) ∧ u.bit .YEe_EV_SIG_DONE e = true ∧ u.engines = b.engines) ∧
    (b.answers m .YEe_CTRL → sysMaster m = true →
      (st = stReset ∨ st = stHalted ∨ st = stTrapped → Completes (.imemWrite t m e a v) s fun u =>
        (∀ k, (u.engines[e]).imemAt k = if k = a.val then v else g.imemAt k) ∧
        u.rd .YEe_STAT_SIG e = (if g.watch = true then 0 else b.rd .YEe_STAT_SIG e) ∧
        State.Keeps b { u with engines := b.engines } (fun f n => f == .YEe_STAT_SIG && n == e.val)) ∧
      (st ≠ stReset → st ≠ stHalted → st ≠ stTrapped → Completes (.imemWrite t m e a v) s fun u =>
        u.engines = b.engines ∧ u.bit .YEe_EV_WERR e = true) ∧
      Completes (.dmemMasterAccess t m e d .readLo) s (fun u =>
        (u.mst m).data = (g.dmemAt d).setWidth 32 ∧ u.latched m (at_ + 4) = (g.dmemAt d >>> 32).setWidth 32 ∧
        State.Keeps b { u with masters := b.masters } (fun _ _ => false)) ∧
      Completes (.dmemMasterAccess t m e d .readHi) s (fun u =>
        (u.mst m).data = b.latchGet m (at_ + 4) ((g.dmemAt d >>> 32).setWidth 32)) ∧
      Completes (.dmemMasterAccess t m e d (.writeHi v)) s (fun u => (u.mst m).hold = v ∧ u.engines = b.engines) ∧
      Completes (.dmemMasterAccess t m e d (.writeLo v)) s (fun u =>
        (∀ k, (u.engines[e]).dmemAt k = if k = d.val then joinPair v (b.mst m).hold else g.dmemAt k) ∧ (u.mst m).hold = 0 ∧
        ((∀ p ∈ g.putsNow b.now, p.word ≠ d.val) → (u.engines[e]).putsNow b.now = ⟨b.now / 4000, d.val, g.dmemAt d⟩ :: g.putsNow b.now) ∧
        u.rd .YEe_STAT_SIG e = if cover ∧ g.watch = true then 0 else b.rd .YEe_STAT_SIG e) ∧
      Completes (.dmemMasterAccess t m e d (.burst lo hi)) s (fun u =>
        (∀ k, (u.engines[e]).dmemAt k = if k = d.val then joinPair lo hi else g.dmemAt k) ∧
        (u.mst m).hold = (b.mst m).hold)) ∧
    (b.answers m .YEe_PC →
      Completes (.yeRegWrite t m e (.pc v)) s (fun u => b.yeWritable e = true → u.engines[e] = { g with pc := v.toNat % 4096 }) ∧
      Completes (.yeRegWrite t m e (.gHi i v)) s (fun u => b.yeWritable e = true → (u.mst m).hold = v ∧ u.engines = b.engines) ∧
      Completes (.yeRegWrite t m e (.gLo i v)) s (fun u => b.yeWritable e = true →
        u.engines[e] = g.setReg i (joinPair v (b.mst m).hold) ∧ (u.mst m).hold = 0) ∧
      Completes (.yeRegWrite t m e (.pred v)) s (fun u => b.yeWritable e = true →
        (∀ k : Fin 4, (u.engines[e]).p[k] = v.getLsbD k) ∧ (u.engines[e]).g = g.g ∧ (u.engines[e]).pc = g.pc)) ∧
    (b.answers m .YEe_PC → b.yeWritable e = false → ∀ r, Completes (.yeRegWrite t m e r) s fun u =>
      u.engines = b.engines ∧ u.bit .YEe_EV_WERR e = true)

/-- Engine commands, signatures and accesses to engine memories: every part holds. -/
def Obligations.YacorCommandsAndMemories : Prop := Piece.YacorCommands ∧ Piece.YacorMemoriesFromOutside

/-! ## Faults and events -/

/-- R299, R302, R303, R306, R309, R311, R314, R413: a source that fires is recorded at its effective level max(D, H + 1), or is a masked
consequence, or with its mask bit set nothing. FSRC20 does not fire in the recovery service (R368). -/
def Piece.FaultRecording : Prop :=
  ∀ (s : State) (t : Nat) (src : Fin 64) (inst : Byte) (cap : Option BusCapture) (m : Master) (v : Word),
    let b := s.enter t
    let d : Detail := { inst := inst.toNat, cap := cap }
    let fires := b.boot.supplies = true ∧ ¬ (src.val = 20 ∧ b.rd .DEV_STATE_KEEPER = kpRecovery)
    let lv := b.effLevel src false
    let dflt := min 4 (b.rd .FLT_LVL src)
    (dflt = 0 → lv = 0) ∧
    (dflt ≠ 0 → dflt ≤ lv ∧ lv ≤ 4 ∧ ∀ o ∈ b.faults.open_, o.inj = false → faultClass o.src = faultClass src → min 4 (o.level + 1) ≤ lv) ∧
    (dflt ≠ 0 → lv = dflt ∨
      ∃ o ∈ b.faults.open_, o.inj = false ∧ faultClass o.src = faultClass src ∧ lv = min 4 (o.level + 1)) ∧
    (fires → b.records src = true → Completes (.faultDetect t src inst cap) s fun u =>
      u.bitOf .FLT_STATUS 0 src = true ∧ (2 ≤ lv → u.bitOf .INT_STAT 0 0 = true) ∧
      (b.bit .FLT_FIRST_VALID = false → u.rd .FLT_FIRST_SRC = src ∧ u.bit .FLT_FIRST_VALID = true ∧ u.bit .FLT_FIRST_INJ = false) ∧
      (b.bit .FLT_FIRST_VALID = true → u.rd .FLT_FIRST_SRC = b.rd .FLT_FIRST_SRC ∧
        (b.bit .FLT_CAPMODE = true → u.bit .FLT_FIRST_OVF = true)) ∧
      (∀ c, cap = some c → faultBus src = true → b.bit .FLT_CAPMODE = false → b.bit .FLT_CAP_INFO_VALID = false →
        u.rd .FLT_CAP_ADDR = c.addr.toNat ∧ u.rd .FLT_CAP_INFO_MASTER = c.master ∧ u.rd .FLT_CAP_INFO_ACCESS = c.access ∧
        u.rd .FLT_CAP_INFO_SRC = src ∧ u.bit .FLT_CAP_INFO_VALID = true) ∧
      (faultAlarm src = true ∨ 2 ≤ lv → 0 < b.ringFree → b.plainEntry (faultEntry src lv true false false d) ∈ u.events.ring) ∧
      (faultReaction src = .none ∨ faultReaction src = .scrub → b.Calm →
        (lv ≠ 0 → ⟨src, lv, false, false, if lv = 3 then some b.now else none⟩ ∈ u.faults.open_) ∧ b.Levelled u ∧
        (src.val = 16 ∨ 3 ≤ lv → u.rd .FLT_PREV_SRC = src ∧ u.rd .FLT_PREV_LEVEL = lv ∧ u.bit .FLT_PREV_VALID = true) ∧
        (u.rd .FLT_LEVEL_LEVEL ≠ 0 → u.rd .FLT_LEVEL_LEVEL ≤ lv → u.graceRuns = false → u.faults.quietFrom = some b.now)) ∧
      (faultReaction src = .none ∨ faultReaction src = .scrub → b.Keeps u (fun _ _ => false))) ∧
    (fires → b.windowsOver src ≠ [] → b.bitOf .FLT_MASK 0 src = false → Completes (.faultDetect t src inst cap) s fun u =>
      u.bitOf .FLT_CONSEQ 0 src = true ∧ (b.Calm → b.NoFault u) ∧ b.Keeps u (fun _ _ => false)) ∧
    (¬ fires ∨ (b.bitOf .FLT_MASK 0 src = true ∧ faultNM src = false) → Completes (.faultDetect t src inst cap) s fun u =>
      (b.Calm → b.NoFault u ∧ u.rd .FLT_CONSEQ = b.rd .FLT_CONSEQ) ∧ b.Keeps u (fun _ _ => false)) ∧
    (b.answers m .FLT_SWRAISE →
      (m = .keeper → b.records 63 = true → Completes (.fltSwraise t m v) s fun u =>
        u.bitOf .FLT_STATUS 0 63 = true ∧ b.Keeps u (fun _ _ => false)) ∧
      (m ≠ .keeper → Completes (.fltSwraise t m v) s fun u => (b.Calm → b.NoFault u) ∧ b.Keeps u (fun _ _ => false)))

/-- R301, R306: the reaction of a recorded source begins with its masking window, which lasts the reaction and 2 µs more; a held
island is released at its end, MGT once no other restart holds it, and the window of a swap that has ended closes 2 µs later. -/
def Piece.Reactions : Prop :=
  ∀ (s : State) (t : Nat) (src : Fin 64) (inst : Byte) (cap : Option BusCapture),
    let b := s.enter t
    let r := faultReaction src
    let k := faultInst src inst.toNat
    let w := b.windowOf src inst.toNat
    let lasts := fun (z : MaskWindow) => z.until_.any (fun e => decide (b.now + 2000000 < e)) = true
    let others := ∃ z ∈ b.faults.windows, z.reaction ≠ src.val ∧ faultReaction z.reaction = .mcpRestart ∧ lasts z
    let moving := ∃ n : Fin 64, b.outApll n = Fin.ofNat 2 (src.val - 2) ∧ (b.outs[n]).swap.any (fun q => q.depart) = true
    let fires := b.boot.supplies = true ∧ ¬ (src.val = 20 ∧ b.rd .DEV_STATE_KEEPER = kpRecovery) ∧ b.records src = true
    (fires → r ≠ .none → Completes (.faultDetect t src inst cap) s fun u =>
      (∃ w ∈ u.faults.windows, w.reaction = src ∧ w.inst = k ∧ w.deps = r.deps k ∧ w.inj = false ∧
        w.until_ = some (b.now + r.duration + 2000000)) ∧
      (r = .apllSwap → (∀ n ∈ b.usersOf (Fin.ofNat 2 (src.val - 2)), b.maySwap n = true →
          (u.outs[n]).swap = some ⟨(1 - b.outApll n : Fin 2), true⟩) ∧
        State.Keeps b { u with outs := b.outs } (fun f _ => f == .OUTn_EV_SRC_DISC)) ∧
      (r = .islandFb → u.bitOf .CLK_STAT_FB 0 (src.val - 7) = true ∧
        State.Keeps b { u with clk := b.clk } (fun f _ => f == .CLK_STAT_FB || f == .PWR_MGT_DVFS_BUSY)) ∧
      (r = .islandReset → [3, 5, 6, 7].contains inst.toNat = true → u.clk.held.testBit inst.toNat = true ∧
        (inst = 3 → u.engines = Vector.replicate 4 Engine.init) ∧ (inst = 5 → u.tok = { TokState.init with downFrom := some b.now }) ∧
        (inst = 6 → u.hif.up = false)) ∧
      (r = .islandReset → [3, 5, 6, 7].contains inst.toNat = false → b.Keeps u (fun _ _ => false)) ∧
      (r = .mcpRestart → u.clk.held.testBit 4 = true ∧ u.rd .DEV_STATE_KEEPER = kpLoading)) ∧
    (w = none → Completes (.reactionEnd t src inst) s fun u => b.Keeps u (fun _ _ => false)) ∧
    (∀ x e, w = some x → x.until_ = some e → e ≤ b.now + 2000000 → ¬ others → Completes (.reactionEnd t src inst) s fun u =>
      (r = .islandReset → u.clk.held.testBit inst.toNat = false ∧
        (∀ c, c ≠ inst.toNat → u.clk.held.testBit c = b.clk.held.testBit c) ∧
        (inst ≠ 5 → State.Keeps b { u with clk := b.clk } (fun _ _ => false))) ∧
      (r = .mcpRestart → u.clk.held.testBit 4 = false ∧ u.keeper.bootAt = b.now ∧
        State.Keeps b { u with clk := b.clk, keeper := b.keeper } (fun _ _ => false)) ∧
      (r = .apllSwap → (b.Calm → u.faults.windows = b.faults.windows) ∧ b.Keeps u (fun _ _ => false))) ∧
    (Completes (.maskWindowEnd t src inst) s fun u =>
      (∀ y, y ∈ u.faults.windows ↔ y ∈ b.faults.windows ∧
        ¬ (y.reaction = src ∧ y.inst = k ∧ ∃ e, y.until_ = some e ∧ e ≤ b.now)) ∧ b.Keeps u (fun _ _ => false)) ∧
    (∀ x, w = some x → lasts x → Completes (.reactionEnd t src inst) s fun u =>
      (r ≠ .apllSwap ∨ moving → (b.Calm → u.faults = b.faults) ∧ b.Keeps u (fun _ _ => false)) ∧
      (r = .apllSwap → ¬ moving → (b.Calm → ∀ y ∈ u.faults.windows, y.reaction = src.val → y.inst = k →
        y.until_ = some (b.now + 2000000)) ∧ b.Keeps u (fun _ _ => false))) ∧
    (r = .mcpRestart → others → Completes (.reactionEnd t src inst) s fun u => b.Keeps u (fun _ _ => false))

/-- Recording of faults, capture, and reactions with their windows: every part holds. -/
def Obligations.FaultsAndReactions : Prop := Piece.FaultRecording ∧ Piece.Reactions

/-- R303 to R305, R308 to R310: the grace timer escalates to L4, a quiet time closes every fault and returns FLT_LEVEL to L0, FLT_ACK, a
pair, closes what it names but a fault whose grace timer runs out in its cycle, an injected fault counts in FLT_INJSTAT alone, REARM clears the capture, and ALIVE toggles every 500 µs below L4. -/
def Obligations.FaultControl : Prop :=
  ∀ (s : State) (t : Nat) (m : Master) (src : Fin 64) (inj : Bool) (v : Word),
    let b := s.enter t
    let named := fun (k : Nat) => (joinPair v (b.mst m).hold).toNat.testBit k
    let held := fun (u : State) => { u with masters := b.masters }
    let nearly := fun (o : OpenFault) => ∃ g, o.grace = some g ∧ sameCycle (g + b.gracePs) b.now = true
    let due := fun (o : OpenFault) => ∃ g, o.grace = some g ∧ g + b.gracePs ≤ b.now
    let isrc := fieldOf .FLT_INJECT_SRC v
    ((∃ o ∈ b.faults.open_, o.src = src ∧ o.inj = inj ∧ ∃ g, o.grace = some g ∧ g + b.gracePs ≤ b.now) →
      Completes (.faultGraceExpire t src inj) s fun u =>
        (b.Calm → (∃ o ∈ u.faults.open_, o.src = src ∧ o.inj = inj) ∧
          (∀ o ∈ u.faults.open_, o.src = src → o.inj = inj → o.level = 4 ∧ o.grace = none) ∧ b.Levelled u ∧
          u.rd .FLT_PREV_SRC = src ∧ u.rd .FLT_PREV_LEVEL = 4 ∧ u.bit .FLT_PREV_VALID = true) ∧ b.Keeps u (fun _ _ => false)) ∧
    ((∀ o ∈ b.faults.open_, o.src = src → o.inj = inj → ∀ g, o.grace = some g → b.now < g + b.gracePs) →
      Completes (.faultGraceExpire t src inj) s fun u => (b.Calm → b.NoFault u) ∧ b.Keeps u (fun _ _ => false)) ∧
    (b.quietOver = true → Completes (.faultRecovery t) s fun u =>
      (b.Calm → u.faults.open_ = [] ∧ u.faults.quietFrom = none ∧ u.rd .FLT_LEVEL_LEVEL = 0) ∧ u.bitOf .INT_STAT 0 0 = true ∧
      (∀ e : Fin 4, (u.evpend[e]).getLsbD 60 = true) ∧ u.rd .FLT_RECOVERIES = min 65535 (b.rd .FLT_RECOVERIES + 1) ∧
      b.Keeps u (fun f _ => f == .FLT_RECOVERIES)) ∧
    (b.quietOver = false → Completes (.faultRecovery t) s fun u => (b.Calm → b.NoFault u) ∧ b.Keeps u (fun _ _ => false)) ∧
    (b.answers m .FLT_ACK →
      (Completes (.fltAck t m true v) s fun u => (u.mst m).hold = v ∧ (b.Calm → b.NoFault u) ∧ b.Keeps (held u) (fun _ _ => false)) ∧
      (sysMaster m = true → (∀ o ∈ b.faults.open_, ¬ due o ∧ ¬ nearly o) → Completes (.fltAck t m false v) s fun u =>
        (b.Calm → (∀ k, k < 64 → u.bitOf .FLT_STATUS 0 k = (b.bitOf .FLT_STATUS 0 k && !named k)) ∧
          u.faults.open_ = b.faults.open_.filter (fun o => !named o.src) ∧ b.Levelled u) ∧
        (u.mst m).hold = 0 ∧ b.Keeps (held u) (fun _ _ => false)) ∧
      (sysMaster m = true → ∀ o ∈ b.faults.open_, ∀ g, o.grace = some g → sameCycle (g + b.gracePs) b.now = true →
        Completes (.fltAck t m false v) s fun u => b.Calm →
          (∃ x ∈ u.faults.open_, x.src = o.src ∧ x.inj = o.inj ∧ (g + b.gracePs ≤ b.now → x.level = 4 ∧ x.grace = none)) ∧
          u.bitOf .FLT_STATUS 0 o.src = b.bitOf .FLT_STATUS 0 o.src) ∧
      (sysMaster m = false → Completes (.fltAck t m false v) s fun u =>
        (b.Calm → b.NoFault u) ∧ b.Keeps (held u) (fun _ _ => false))) ∧
    (b.answers m .FLT_INJECT →
      (sysMaster m = true → Completes (.fltInject t m v) s fun u =>
        u.bitOf .FLT_INJSTAT 0 isrc = true ∧ u.rd .FLT_INJECT_SRC = isrc ∧
        (fieldOf .FLT_INJECT_REACT v = 0 → b.Calm → u.rd .FLT_STATUS = b.rd .FLT_STATUS ∧ b.Levelled u ∧
          u.faults.windows = b.faults.windows ∧ (b.effLevel isrc true ≠ 0 → ∃ o ∈ u.faults.open_, o.src = isrc ∧ o.inj = true ∧
            o.level = b.effLevel isrc true ∧ o.lvlact = (fieldOf .FLT_INJECT_LVLACT v == 1))) ∧
        (b.bit .FLT_FIRST_VALID = false → u.rd .FLT_FIRST_SRC = isrc ∧ u.bit .FLT_FIRST_VALID = true ∧ u.bit .FLT_FIRST_INJ = true) ∧
        (faultBus isrc = true → b.bit .FLT_CAPMODE = false → b.bit .FLT_CAP_INFO_VALID = false →
          u.bit .FLT_CAP_INFO_VALID = true ∧ u.rd .FLT_CAP_INFO_SRC = isrc) ∧
        (fieldOf .FLT_INJECT_REACT v = 0 → State.Keeps b { u with draw := b.draw } (fun f _ => Reg.FLT_INJECT.fields.contains f)) ∧
        (fieldOf .FLT_INJECT_REACT v = 1 → faultReaction isrc ≠ .none → ∃ w ∈ u.faults.windows, w.reaction = isrc ∧ w.inj = true)) ∧
      (sysMaster m = false → Completes (.fltInject t m v) s fun u =>
        (b.Calm → b.NoFault u) ∧ b.Keeps u (fun f _ => Reg.FLT_INJECT.fields.contains f))) ∧
    (b.answers m .FLT_FIRST → Completes (.fltRearm t m) s fun u =>
      (b.Calm → ∀ f, f ∈ [Field.FLT_FIRST_VALID, .FLT_FIRST_OVF, .FLT_FIRST_SRC, .FLT_FIRST_INJ, .FLT_CAP_INFO_MASTER,
        .FLT_CAP_INFO_ACCESS, .FLT_CAP_INFO_SRC, .FLT_CAP_INFO_VALID, .FLT_CAP_ADDR, .FLT_CAP_TODw] → u.rd f = 0) ∧
      (b.Calm → b.NoFault u) ∧ b.Keeps u (fun _ _ => false)) ∧
    (Completes (.aliveToggle t) s fun u =>
      u.pins.alive = ((if b.aliveRuns = true ∧ (b.now - b.tick0) % 500000000 = 0 then !b.pins.alive else b.pins.alive) && u.aliveRuns) ∧
      (b.Calm → u.aliveRuns = b.aliveRuns) ∧
      b.Keeps u (fun _ _ => false))

/-- R315 to R318, R320: the end of a hold writes the merged log, the Gleaner moves the oldest alarm or else the oldest entry to the host ring,
its interrupt is raised by count or time, a read of EVR_ENTRY0 pops an entry in register mode, and the counters clear at a read. -/
def Obligations.EventPath : Prop :=
  ∀ (s : State) (t : Nat) (m : Master) (src : Nat) (ok : Bool) (c : EvrCounter),
    let b := s.enter t
    let ring := b.events.ring
    let tail := b.rd .EVR_HTAIL_TAIL
    let first := match ring.find? (fun e => e.cls == .alarm) with
      | some e => some e
      | none => ring.head?
    (∀ h r, b.events.holds.find? (fun h => h.1 == src) = some h → b.events.logs.find? (fun r => r.src == src) = some r →
      (b.now < h.2 + b.rd .EVR_COAL * 1000000000 → Completes (.coalHoldExpire t src) s fun u =>
        (b.Calm → u.events = b.events) ∧ b.Keeps u (fun _ _ => false)) ∧
      (h.2 + b.rd .EVR_COAL * 1000000000 ≤ b.now → b.logFits = true → Completes (.coalHoldExpire t src) s fun u =>
        MergeRec.entry .log r ∈ u.events.ring ∧ (b.Calm → (∀ y ∈ u.events.logs, y.src ≠ src) ∧
          (b.rd .EVR_COAL ≠ 0 → (src, b.now) ∈ u.events.holds)) ∧ b.Keeps u (fun _ _ => false)) ∧
      (h.2 + b.rd .EVR_COAL * 1000000000 ≤ b.now → b.logFits = false → Completes (.coalHoldExpire t src) s fun u =>
        (b.Calm → r ∈ u.events.logs ∧ u.events.ring = ring ∧ ∀ y ∈ u.events.holds, y.1 ≠ src) ∧ b.Keeps u (fun _ _ => false))) ∧
    (∀ e, b.bit .EVR_HCFG_EN = true → b.dmaOpen = true → b.evrNext = some e →
      (ok = true → Completes (.gleanerMove t ok) s fun u =>
        u.sent = b.sent ++ [.hostWrite 9 (b.rd .EVR_HBASE * 4096 + tail * 32)
          (wordBytes (e.words[0] ||| BitVec.ofNat 32 (b.rd .EVR_HTAIL_PHASE * 2 ^ 15)) ++ (e.words.toList.drop 1).flatMap wordBytes)] ∧
        (tail + 1 < b.evrSize → u.rd .EVR_HTAIL_TAIL = tail + 1 ∧ u.rd .EVR_HTAIL_PHASE = b.rd .EVR_HTAIL_PHASE) ∧
        (b.evrSize ≤ tail + 1 → u.rd .EVR_HTAIL_TAIL = 0 ∧ u.rd .EVR_HTAIL_PHASE = 1 - b.rd .EVR_HTAIL_PHASE) ∧
        (b.events.alarms = [] → b.events.logs = [] → b.Calm → u.events.ring = dropEntry e ring) ∧
        (b.bit .EVR_HCFG_IRQ_EN = true → e.cls = .alarm ∨ max 1 (b.rd .EVR_HIRQ_COUNT) ≤ b.events.unsignalled + 1 →
          u.bitOf .INT_STAT 0 1 = true ∧ u.events.unsignalled = 0) ∧
        State.Keeps b { u with sent := b.sent } (fun f _ => f == .EVR_HTAIL_TAIL || f == .EVR_HTAIL_PHASE)) ∧
      (ok = false → Completes (.gleanerMove t ok) s fun u =>
        u.bit .EVR_HCFG_EN = false ∧ (b.records 34 = true → u.bitOf .FLT_STATUS 0 34 = true) ∧ e ∈ u.events.ring ∧
        b.Keeps u (fun f _ => f == .EVR_HCFG_EN))) ∧
    (b.bit .EVR_HCFG_EN = false ∨ b.dmaOpen = false ∨ b.evrNext = none → Completes (.gleanerMove t ok) s fun u =>
      (b.Calm → u.events = b.events) ∧ b.Keeps u (fun _ _ => false)) ∧
    (b.bit .EVR_HCFG_IRQ_EN = true → b.rd .EVR_HIRQ_TIME ≠ 0 → 0 < b.events.unsignalled →
      (b.events.firstAt + b.rd .EVR_HIRQ_TIME * 1000000 ≤ b.now → Completes (.evrHostIrqTimer t) s fun u =>
        u.bitOf .INT_STAT 0 1 = true ∧ u.events.unsignalled = 0 ∧ b.Keeps u (fun _ _ => false)) ∧
      (b.now < b.events.firstAt + b.rd .EVR_HIRQ_TIME * 1000000 → Completes (.evrHostIrqTimer t) s fun u =>
        (b.Calm → u.events = b.events) ∧ b.Keeps u (fun _ _ => false))) ∧
    (b.answers m .EVR_ENTRY →
      (b.bit .EVR_HCFG_EN = true ∨ ring = [] → Completes (.evrEntryPop t m) s fun u =>
        (u.mst m).data = 0x80000000 ∧ (b.Calm → u.events = b.events) ∧ State.Keeps b { u with masters := b.masters } (fun _ _ => false)) ∧
      (∀ e, b.bit .EVR_HCFG_EN = false → first = some e → Completes (.evrEntryPop t m) s fun u =>
        (u.mst m).data = e.words[0] ∧ (∀ i : Fin 8, u.latchGet m (Reg.addr .EVR_ENTRY 0 + 4 * i.val) 0 = e.words[i]) ∧
        (b.events.alarms = [] → b.events.logs = [] → b.Calm → u.events.ring = dropEntry e ring) ∧
        State.Keeps b { u with masters := b.masters } (fun _ _ => false))) ∧
    (b.answers m (evrCounterReg c) → Completes (.evrCounterRead t m c) s fun u =>
      let f := match c with
        | .dropTrace => Field.EVR_DROP_TRACE
        | .mergeLog => .EVR_MERGE_LOG
        | .mergeAlarm => .EVR_MERGE_ALARM
      (u.mst m).data.toNat = b.rd f ∧ (b.Calm → u.rd f = b.countNow f 0 % 2 ^ f.info.width) ∧ State.Keeps b { u with masters := b.masters } (fun _ _ => false))

/-! ## Clocks, power and shedding -/

/-- R321 to R323, R326 to R328: the cross-check and the measurement of the ring oscillators, the monitors' trips onto the fallback clock, the return
from it, and the coast, relock and mux hang of the other islands. -/
def Obligations.ClockFaults : Prop :=
  ∀ (s : State) (t : Nat) (m : Master) (i : Fin 3) (k : Fin 4) (count fa fb : Nat) (ratio : Rat) (v : Word),
    let b := s.enter t
    let only := fun (u : State) (l : List Field) => State.Keeps b { u with clk := b.clk } (fun f _ => l.contains f)
    let inBand := 72 * 256 ≤ 100 * count ∧ 100 * count ≤ 139 * 256
    let x := if i = 1 ∧ b.rd .APLLx_STAT_STATE (b.rd .CLK_CTRL_OUT_APLL) = 0 then 0 else ratio
    let good := (4 : Rat) / 5 ≤ x ∧ x ≤ 6 / 5
    let tol : Rat := if b.rd .XO_STAT_COARSE = 1 then 1 / 5 else 2 / 5
    let trips := b.bitOf .CLK_STAT_FB 0 i = false ∧ (x < 1 - tol ∨ 1 + tol < x)
    let counts := b.monArmed i = true ∧ b.monSuspended i = false
    (b.boot.supplies = true → Completes (.roscCrosscheck t count) s fun u =>
      (inBand → u.clk.xchk = min 4 (b.clk.xchk + 1) ∧ u.clk.xbad = false) ∧
      (¬ inBand → u.clk.xchk = 0 ∧ u.clk.xbad = true ∧
        (b.roscBad = false → b.records 6 = true → u.bitOf .FLT_STATUS 0 6 = true)) ∧
      (inBand → 3 ≤ b.clk.xchk → u.bit .CLK_STAT_ROSC_QUAL = true) ∧
      (¬ inBand ∨ b.clk.xchk < 3 → u.bit .CLK_STAT_ROSC_QUAL = b.bit .CLK_STAT_ROSC_QUAL) ∧ only u [.CLK_STAT_ROSC_QUAL]) ∧
    (b.rd .XO_STAT_COARSE = 1 → b.bit .XO_MON_LOST = false → Completes (.roscXoMeasure t fa fb) s fun u =>
      (fa ≤ 1023000000 → (fa : Rat) / 250000 - 1 < u.rd .CLK_ROSC_FA ∧ (u.rd .CLK_ROSC_FA : Rat) < (fa : Rat) / 250000 + 1) ∧
      (fb ≤ 1023000000 → (fb : Rat) / 250000 - 1 < u.rd .CLK_ROSC_FB ∧ (u.rd .CLK_ROSC_FB : Rat) < (fb : Rat) / 250000 + 1) ∧
      u.bit .CLK_STAT_ROSCA_BAD = decide (fa < 340000000 ∨ 460000000 < fa) ∧
      u.bit .CLK_STAT_ROSCB_BAD = decide (fb < 340000000 ∨ 460000000 < fb) ∧
      (b.roscBad = false → fa < 340000000 ∨ 460000000 < fa ∨ fb < 340000000 ∨ 460000000 < fb → b.records 6 = true →
        u.bitOf .FLT_STATUS 0 6 = true) ∧
      b.Keeps u (fun f _ => [Field.CLK_ROSC_FA, .CLK_ROSC_FB, .CLK_STAT_ROSCA_BAD, .CLK_STAT_ROSCB_BAD].contains f)) ∧
    (counts → Completes (.monitorWindowEnd t i ratio) s fun u =>
      u.clk.prim[i] = (if good then min 4 (b.clk.prim[i] + 1) else 0) ∧ u.bitOf .CLK_STAT_PRIM_OK 0 i = (u.clk.prim[i] == 4) ∧
      (trips → u.bitOf .CLK_STAT_FB 0 i = true ∧ u.bitOf .FLT_STATUS 0 (7 + i.val) = true ∧
        u.rd .CLK_NMI_CAUSE = (if b.bit .CLK_STAT_ROSC_QUAL then 1 else 2) ∧ u.rd .CLK_NMI_ISLAND = [1, 2, 4].getD i.val 0 ∧
        u.bit .CLK_NMI_VALID = true ∧
        only u [.CLK_STAT_PRIM_OK, .CLK_STAT_FB, .CLK_NMI_CAUSE, .CLK_NMI_ISLAND, .CLK_NMI_VALID, .PWR_MGT_DVFS_BUSY]) ∧
      (¬ trips → only u [.CLK_STAT_PRIM_OK])) ∧
    (¬ counts → Completes (.monitorWindowEnd t i ratio) s fun u => b.Keeps u (fun _ _ => false)) ∧
    (b.answers m .CLK_CTRL → Completes (.clkReturn t m v) s fun u =>
      (∀ j : Fin 3, v.toNat.testBit j = true →
        (b.bitOf .CLK_STAT_PRIM_OK 0 j = true → u.bitOf .CLK_STAT_FB 0 j = false) ∧
        (b.bitOf .CLK_STAT_PRIM_OK 0 j = false → u.bitOf .CLK_STAT_FB 0 j = b.bitOf .CLK_STAT_FB 0 j ∧ u.bit .PWR_EV_WERR = true)) ∧
      (∀ j : Fin 3, v.toNat.testBit j = false → u.bitOf .CLK_STAT_FB 0 j = b.bitOf .CLK_STAT_FB 0 j) ∧
      u.rd .CLK_CTRL_OUT_APLL = fieldOf .CLK_CTRL_OUT_APLL v ∧ u.rd .CLK_CTRL_SSC = fieldOf .CLK_CTRL_SSC v ∧
      b.Keeps u (fun f _ => [Field.CLK_STAT_FB, .PWR_EV_WERR, .CLK_CTRL_OUT_APLL, .CLK_CTRL_SSC].contains f)) ∧
    (b.boot.supplies = true → b.bitOf .CLK_STAT_COAST 0 k = false → Completes (.npClockCoast t k) s fun u =>
      u.bitOf .CLK_STAT_COAST 0 k = true ∧ (b.records 10 = true → u.bitOf .FLT_STATUS 0 10 = true) ∧
      b.Keeps u (fun f _ => f == .CLK_STAT_COAST)) ∧
    (Completes (.npClockRelock t k) s fun u =>
      u.bitOf .CLK_STAT_COAST 0 k = false ∧
      (∀ j : Fin 4, j ≠ k → u.bitOf .CLK_STAT_COAST 0 j = b.bitOf .CLK_STAT_COAST 0 j) ∧
      b.Keeps u (fun f _ => f == .CLK_STAT_COAST)) ∧
    (b.records 11 = true → Completes (.muxHang t k) s fun u =>
      u.bitOf .FLT_STATUS 0 11 = true ∧ u.clk.held.testBit (coastCode k) = true) ∧
    (b.records 11 = false → Completes (.muxHang t k) s fun u => b.Keeps u (fun _ _ => false))

/-- R13, R185, R329, R330, R332 to R334, R336, R337, R343: gating, waking, the DVFS points of MGT and TOK, and the power state that the horizon allows; a
forced gate cuts an access in flight, and an island's cycles are its nominal ones less its down-spread. -/
def Obligations.PowerStates : Prop :=
  ∀ (s : State) (t : Nat) (m : Master) (k : Fin 4) (idle : Bool) (v : Word) (r : Option Master) (since : Nat),
    let b := s.enter t
    let c := gateCode k
    let only := fun (u : State) (l : List Field) => State.Keeps b { u with clk := b.clk } (fun f _ => l.contains f)
    let woke := ∃ a, b.clk.wokeAt[Fin.ofNat 8 c] = some a ∧ sameCycle a b.now = true
    let may := 2 ≤ b.rd .PWR_STATE_STATE ∧ b.islandIdle c = true ∧ b.gated c = false ∧ ¬ woke
    let overdue := b.clk.gating.testBit c = true ∧ 64 ≤ b.cyclesOf c b.clk.gatingAt[Fin.ofNat 8 c] b.now ∧
      2 ≤ b.rd .PWR_STATE_STATE ∧ b.islandIdle c = true ∧ b.stepping c = false ∧ ¬ woke
    let dormant := b.gated c = true ∨ b.clk.gating.testBit c = true
    let wakes := fun (u : State) (c : Nat) =>
      u.gated c = false ∧ u.clk.gating.testBit c = false ∧ (∀ w ∈ u.clk.writes, heldFor c w.2.1 = false) ∧
      (2 ≤ b.rd .PWR_STATE_STATE → u.rd .PWR_STATE_STATE = 1 ∧ u.bit .PWR_EV_STATE_CHG = true) ∧
      (b.rd .PWR_STATE_STATE < 2 → u.rd .PWR_STATE_STATE = b.rd .PWR_STATE_STATE) ∧
      ((∀ w ∈ b.clk.writes, heldFor c w.2.1 = false) → only u [.CLK_GATE_GATED, .PWR_STATE_STATE, .PWR_EV_STATE_CHG])
    let point := if 1 ≤ b.rd .SHED_STATE_STAGE then 0 else v.toNat % 4
    (may → idle = true → b.stepping c = false → Completes (.gateRequest t k idle) s fun u =>
      u.gated c = true ∧ u.clk.gating.testBit c = false ∧ only u [.CLK_GATE_GATED]) ∧
    (may → idle = false ∨ b.stepping c = true → Completes (.gateRequest t k idle) s fun u =>
      u.gated c = false ∧ u.clk.gating.testBit c = true ∧
      (b.clk.gating.testBit c = false → u.clk.gatingAt[Fin.ofNat 8 c] = b.now) ∧ only u []) ∧
    (¬ may → Completes (.gateRequest t k idle) s fun u => b.Keeps u (fun _ _ => false)) ∧
    (overdue → Completes (.gateForce t ⟨k, r⟩) s fun u =>
      u.gated c = true ∧ u.clk.gating.testBit c = false ∧ u.rd .CLK_GATE_ISLAND = c ∧ u.bit .CLK_GATE_FORCED = true ∧
      (b.records 12 = true → u.bitOf .FLT_STATUS 0 12 = true) ∧
      (∀ x, r = some x → (u.mst x).data = 0) ∧ (∀ x, r ≠ some x → u.mst x = b.mst x) ∧
      State.Keeps b { u with clk := b.clk, masters := b.masters }
        (fun f _ => [Field.CLK_GATE_GATED, .CLK_GATE_ISLAND, .CLK_GATE_FORCED].contains f)) ∧
    (¬ overdue → Completes (.gateForce t ⟨k, r⟩) s fun u => b.Keeps u (fun _ _ => false)) ∧
    (dormant → Completes (.islandWake t k) s fun u => wakes u c) ∧
    (¬ dormant → Completes (.islandWake t k) s fun u => u.clk = { b.clk with wokeAt := u.clk.wokeAt } ∧ only u []) ∧
    (Completes (.islandWake t k) s fun u => u.clk.wokeAt[Fin.ofNat 8 c] = some b.now) ∧
    (b.ktimer = some 0 → b.gated 4 = true ∨ b.clk.gating.testBit 4 = true → Completes (.keeperTimerExpire t) s fun u => wakes u 4) ∧
    (b.ktimer ≠ some 0 → Completes (.keeperTimerExpire t) s fun u => b.Keeps u (fun _ _ => false)) ∧
    (b.answers m .PWR_MGT_DVFS →
      (m = .keeper → Completes (.dvfsRequest t m v) s fun u =>
        u.rd .PWR_MGT_DVFS_POINT = point ∧
        (b.rd .PWR_STATE_STATE = 0 → b.clk.step = none → point ≠ b.rd .PWR_MGT_DVFS_CUR →
          u.clk.step = some point ∧ u.bit .PWR_MGT_DVFS_BUSY = true) ∧
        (b.rd .PWR_STATE_STATE = 0 → b.clk.step ≠ none → u.clk.step = b.clk.step ∧ u.clk.stepHeld = some point) ∧
        (b.rd .PWR_STATE_STATE ≠ 0 → u.clk = b.clk) ∧ only u [.PWR_MGT_DVFS_POINT, .PWR_MGT_DVFS_BUSY]) ∧
      (m ≠ .keeper → Completes (.dvfsRequest t m v) s fun u => b.Keeps u (fun _ _ => false))) ∧
    (∀ p, b.clk.step = some p → p < 4 → b.clk.stepAt + 10000000 ≤ b.now → Completes (.dvfsDone t false) s fun u =>
      u.rd .PWR_MGT_DVFS_CUR = p ∧ u.bit .PWR_EV_DVFS_DONE = true ∧
      (b.clk.stepHeld = none ∨ b.clk.stepHeld = some p → u.clk.step = none ∧ u.bit .PWR_MGT_DVFS_BUSY = false) ∧
      (∀ q, b.clk.stepHeld = some q → q ≠ p → u.clk.step = some q ∧ u.clk.stepHeld = none ∧ u.bit .PWR_MGT_DVFS_BUSY = true) ∧
      only u [.PWR_MGT_DVFS_CUR, .PWR_MGT_DVFS_BUSY, .PWR_EV_DVFS_DONE]) ∧
    (∀ p, b.tok.step = some p → p < 4 → b.tok.stepAt + 10000000 ≤ b.now → Completes (.dvfsDone t true) s fun u =>
      u.rd .TOK_DVFS_CUR = p ∧ u.bit .PWR_EV_DVFS_DONE = true ∧
      (b.tok.stepHeld = none ∨ b.tok.stepHeld = some p → u.tok.step = none) ∧
      (∀ q, b.tok.stepHeld = some q → q ≠ p → u.tok.step = some q ∧ u.tok.stepHeld = none) ∧
      State.Keeps b { u with tok := b.tok } (fun f _ => f == .TOK_DVFS_CUR || f == .PWR_EV_DVFS_DONE)) ∧
    (b.clk.step = none ∨ b.now < b.clk.stepAt + 10000000 → Completes (.dvfsDone t false) s fun u => b.Keeps u (fun _ _ => false)) ∧
    (b.tok.step = none ∨ b.now < b.tok.stepAt + 10000000 → Completes (.dvfsDone t true) s fun u => b.Keeps u (fun _ _ => false)) ∧
    (b.boot.supplies = true → b.boot.keep = false → Completes (.powerStateEval t) s fun u =>
      (∃ x ∈ b.horizonTerms, (∀ y ∈ b.horizonTerms, x.2 ≤ y.2) ∧ u.rd .PWR_HORIZON_H = min (2 ^ 28 - 1) x.2.floor.toNat ∧
        u.rd .PWR_HORIZON_TERM = x.1 ∧
        u.rd .PWR_STATE_STATE = (if 3 ≤ b.rd .PWR_STATE_MAX ∧ 44 ≤ x.2 then 3 else if 2 ≤ b.rd .PWR_STATE_MAX ∧ 11 / 5 ≤ x.2 then 2
          else if 1 ≤ b.rd .PWR_STATE_MAX ∧ 11 ≤ x.2 ∧ b.tok.jobs.length < 64 ∧ b.rd .MB_KEEPER_LOAD < 50 then 1 else 0)) ∧
      (u.rd .PWR_STATE_STATE ≠ b.rd .PWR_STATE_STATE → u.bit .PWR_EV_STATE_CHG = true) ∧
      (2 ≤ u.rd .PWR_STATE_STATE → ∀ j : Fin 4, u.islandIdle (gateCode j) = true → u.gated (gateCode j) = false →
        u.wokeNow (gateCode j) = false → u.clk.gating.testBit (gateCode j) = true) ∧
      (2 ≤ u.rd .PWR_STATE_STATE → ∀ j : Fin 4, b.islandIdle (gateCode j) = false → u.gated (gateCode j) = false) ∧
      (u.rd .PWR_STATE_STATE < 2 → ∀ j : Fin 4, u.gated (gateCode j) = false)) ∧
    (b.bitOf .CLK_CTRL_SSC 0 (spreadBit c) = false → b.cyclesOf c since (since + t) * b.islandCycle c = t) ∧
    (b.bitOf .CLK_CTRL_SSC 0 (spreadBit c) = true →
      (t : Rat) * (199 / 200) ≤ b.cyclesOf c since (since + t) * b.islandCycle c ∧ b.cyclesOf c since (since + t) * b.islandCycle c ≤ t)

/-- R338 to R342, R344, R346: the stages entered and left in order with what each sheds, a brown-out's reset, a GPIO's filtered level, and a
rail's samples. -/
def Obligations.SheddingAndRails : Prop :=
  ∀ (s : State) (t : Nat) (m : Master) (rail : Fin 3) (mv low core dvs ana : Nat) (g : Fin 16) (level : Bool),
    let b := s.enter t
    let old := b.rd .SHED_STATE_STAGE
    let deep := ([1, 2, 3, 4, 5].filter (fun k => decide (mv < shedThreshold rail k))).length
    let above := fun (r x : Nat) => shedThreshold r old + shedHyst r < x
    let mayLeave := old ≠ 0 ∧ above 0 core ∧ above 1 dvs ∧ above 2 ana ∧ b.clk.shedAt + b.shedExitPs ≤ b.now
    (b.boot.supplies = true → Completes (.shedEnter t rail mv) s fun u =>
      u.rd .SHED_STATE_STAGE = max old deep ∧ u.rd .PWR_RAIL_MV rail = min 4095 mv ∧
      u.rd .PWR_RAIL_MIN rail = min mv (b.rd .PWR_RAIL_MIN rail) ∧
      (deep ≤ old → b.Keeps u (fun f k => (f == .PWR_RAIL_MV || f == .PWR_RAIL_MIN) && k == rail.val)) ∧
      (old < deep → u.rd .SHED_STATE_RAIL = rail.val + 1 ∧ u.bit .PWR_EV_SHED_CHG = true ∧ u.clk.shedAt = b.now ∧
        (∀ e : Fin 4, (u.evpend[e]).getLsbD 61 = true) ∧ (b.records 13 = true → u.bitOf .FLT_STATUS 0 13 = true)) ∧
      (old < 1 → 1 ≤ deep → u.rd .PWR_MGT_DVFS_POINT = 0) ∧
      (old < 2 → 2 ≤ deep → ∀ n : Fin 4, b.bit .LZn_CFG_EN n = true → u.rd .LZn_STAT_STATE n = lzShed) ∧
      (old < 3 → 3 ≤ deep → ∀ n, b.nextShed = some n → u.bit .OUTn_STAT_SHED n = true) ∧
      (old < 4 → 4 ≤ deep → ∀ e : Fin 4, b.yeState e = stRunning ∨ b.yeState e = stWaiting →
        u.yeState e = stShed ∧ (u.engines[e]).shedWait = decide (b.yeState e = stWaiting))) ∧
    (mayLeave → Completes (.shedExit t core dvs ana) s fun u =>
      u.rd .SHED_STATE_STAGE = old - 1 ∧ u.bit .PWR_EV_SHED_CHG = true ∧ (∀ e : Fin 4, (u.evpend[e]).getLsbD 61 = true) ∧
      (b.records 13 = true → u.bitOf .FLT_STATUS 0 13 = true) ∧
      (old = 2 → ∀ n : Fin 4, b.rd .LZn_STAT_STATE n = lzShed → u.rd .LZn_STAT_STATE n = lzSync) ∧
      (old = 3 → ∀ n, b.nextUnshed = some n → u.bit .OUTn_STAT_SHED n = false) ∧
      (old = 4 → ∀ e : Fin 4, b.yeState e = stShed →
        u.yeState e = (if (b.engines[e]).shedWait then stWaiting else stRunning))) ∧
    (¬ mayLeave → Completes (.shedExit t core dvs ana) s fun u => b.Keeps u (fun _ _ => false)) ∧
    (b.boot.supplies = true → mv < shedThreshold rail 6 → Completes (.brownOut t rail mv) s fun u =>
      u.bit .RESET_CAUSE_BOR = true ∧ u.rd .DEV_STATE_TIMING = 0 ∧ u.boot.supplies = false ∧ u.boot.brown = true ∧
      u.timebase = false ∧ u.grn = b.grn ∧ u.flash = b.flash ∧
      (b.records 16 = true → u.rd .FLT_PREV_SRC = 16 ∧ u.bit .FLT_PREV_VALID = true)) ∧
    (b.boot.supplies = false ∨ shedThreshold rail 6 ≤ mv → Completes (.brownOut t rail mv) s fun u => b.Keeps u (fun _ _ => false)) ∧
    (b.bit .GPIO_FUNCg_IN g ≠ level → b.clk.gpioAt[g] + b.rd .PWR_GPIO_FILTg g * 10000 ≤ b.now →
      Completes (.gpioInputChange t g level) s fun u => u.bit .GPIO_FUNCg_IN g = level ∧ u.clk.gpioAt[g] = b.now ∧
      (∀ k, k ≠ g → u.clk.gpioAt[k] = b.clk.gpioAt[k]) ∧
      State.Keeps b { u with clk := b.clk } (fun f k => f == .GPIO_FUNCg_IN && k == g.val)) ∧
    (b.bit .GPIO_FUNCg_IN g = level ∨ b.now < b.clk.gpioAt[g] + b.rd .PWR_GPIO_FILTg g * 10000 →
      Completes (.gpioInputChange t g level) s fun u => b.Keeps u (fun _ _ => false)) ∧
    (b.answers m .PWR_RAIL → low ≤ mv → Completes (.pwrRailMinRead t m rail mv low) s fun u =>
      (u.mst m).data.toNat = min 4095 mv + 4096 * min low (b.rd .PWR_RAIL_MIN rail) ∧
      u.rd .PWR_RAIL_MV rail = min 4095 mv ∧ u.rd .PWR_RAIL_MIN rail = 4095 ∧
      State.Keeps b { u with masters := b.masters } (fun f k => (f == .PWR_RAIL_MV || f == .PWR_RAIL_MIN) && k == rail.val))

/-! ## Board calibration -/

/-- R349 to R354: a run starts with every input at BAD, or is refused, phase A ends with its tests, each phase's result is taken in its turn,
phase D displaces its output by 0 to 15 tap spacings and then by one, no element is taken while the run lasts, the run ends with
an image that passes every test of R356, and ABORT ends it without one. -/
def Piece.CalibrationRun : Prop :=
  ∀ (s : State) (t : Nat) (m : Master) (v : Word) (hists : Vector (Vector Nat 32) 25) (rate : Nat) (offsets : Vector Int 25)
    (means : Vector Int 64) (x : Fin 2) (measured : Vector Rat 17),
    let b := s.enter t
    let only := fun (u : State) (l : List Field) => State.Keeps b u (fun f _ => l.contains f)
    let ctrl := [Field.CAL_CTRL_STIM, .CAL_CTRL_HITS, .CAL_CTRL_MAXDEV]
    let busy := b.bit .CAL_STATE_RUN = true ∨ b.bit .XO_MON_LOST = true ∨ b.boot.otpBad = true ∨ b.apllLocked 0 = false ∨
      b.apllLocked 1 = false ∨ ∃ p : Fin 4, b.bit .PLn_CTRL_EN p = true ∧ (b.rd .PLn_STATE_STATE p = 1 ∨ b.rd .PLn_STATE_STATE p = 2) ∧
        (srcCode (b.rd .PLn_REFSEL_SRC p) ≤ 15 ∨ srcCode (b.rd .PLn_REFSEL_SRC p) = 20)
    let ended := fun (u : State) (err : Nat) => u.rd .CAL_STATE_ERR = err ∧ u.bit .CAL_STATE_READY = false ∧
      u.bit .CAL_STATE_RUN = false ∧ u.rd .CAL_STATE_PHASE = 0 ∧ u.bit .CAL_EV_DONE = true ∧ u.cal.window = b.cal.window ∧
      ∀ n : Fin 16, u.bit .INn_QUAL_CAL n = false
    let e := 2 ^ b.calHits / 32
    let passes := fun (k : Fin 25) => 990000 ≤ b.cal.rate ∧ b.cal.rate ≤ 2020000 ∧
      ∀ i : Fin 32, e ≤ 4 * hists[k][i] ∧ ((hists[k][i] : Int) - e).natAbs * 100 ≤ e * b.rd .CAL_CTRL_MAXDEV
    let phase := b.rd .CAL_STATE_PHASE
    (b.answers m .CAL_CTRL → fieldOf .CAL_CTRL_ABORT v = 0 →
      (sysMaster m = true → busy → Completes (.calGo t m v) s fun u => u.rd .CAL_STATE_ERR = 3 ∧ only u (.CAL_STATE_ERR :: ctrl)) ∧
      (sysMaster m = true → ¬ busy → b.rd .SHED_STATE_STAGE < 3 → Completes (.calGo t m v) s fun u =>
        u.bit .CAL_STATE_RUN = true ∧ u.rd .CAL_STATE_ERR = 0 ∧ u.rd .CAL_STATE_PHASE = 1 ∧ u.cal.phaseAt = b.now ∧
        (∀ n : Fin 16, u.bit .INn_QUAL_CAL n = true ∧ u.rd .INn_QUAL_GRADE n = 1) ∧
        (∀ k : Fin 8, (u.banks[k]).gateFrom = none) ∧ u.outs = b.outs ∧ u.aplls = b.aplls ∧ u.tods = b.tods ∧
        u.cal.window = b.cal.window ∧ u.cal.inForce = b.cal.inForce ∧ u.cal.waiting = b.cal.waiting) ∧
      (sysMaster m = true → ¬ busy → 3 ≤ b.rd .SHED_STATE_STAGE → Completes (.calGo t m v) s fun u => ended u 2) ∧
      (sysMaster m = false → Completes (.calGo t m v) s fun u => only u ctrl)) ∧
    (b.answers m .CAL_CTRL → fieldOf .CAL_CTRL_GO v = 0 →
      (b.bit .CAL_STATE_RUN = true → Completes (.calAbort t m v) s fun u => ended u 2) ∧
      (b.bit .CAL_STATE_RUN = false → Completes (.calAbort t m v) s fun u => only u ctrl)) ∧
    (phase = 2 →
      ((∀ k, passes k) → Completes (.calPhaseAEnd t hists) s fun u =>
        u.rd .CAL_STATE_PHASE = 3 ∧ u.cal.phaseAt = b.now ∧ u.cal.result.edges.length = 25 ∧
        (∀ (k : Fin 25) (i : Fin 32), ((hists[k].toList.take (i.val + 1)).sum : Rat) * 32000 / ((2 ^ b.calHits : Nat) : Rat) - 1 / 2 ≤
            ((u.cal.result.edges.getD k.val []).getD i.val 0 : Rat) ∧
          ((u.cal.result.edges.getD k.val []).getD i.val 0 : Rat) ≤
            ((hists[k].toList.take (i.val + 1)).sum : Rat) * 32000 / ((2 ^ b.calHits : Nat) : Rat) + 1 / 2) ∧
        only u [.CAL_STATE_PHASE]) ∧
      (∀ k, ¬ passes k → (∀ j, j < k → passes j) → Completes (.calPhaseAEnd t hists) s fun u =>
        ended u 1 ∧ u.rd .CAL_STATE_FAILTDC = k)) ∧
    (phase ≠ 2 → Completes (.calPhaseAEnd t hists) s fun u => only u []) ∧
    (phase = 1 → b.cal.phaseAt + 10000000000 ≤ b.now → Completes (.calPhaseAdvance t (.settle rate)) s fun u =>
      u.cal.rate = rate ∧ u.rd .CAL_STATE_PHASE = 2 ∧ u.cal.phaseAt = b.now ∧ only u [.CAL_STATE_PHASE]) ∧
    (phase = 3 → Completes (.calPhaseAdvance t (.phaseB offsets)) s fun u =>
      u.cal.result.offsets = offsets.toList ∧ u.rd .CAL_STATE_PHASE = 4 ∧ u.cal.phaseAt = b.now ∧ only u [.CAL_STATE_PHASE]) ∧
    (phase = 4 → b.cal.phaseAt + 400000000000 ≤ b.now → Completes (.calPhaseAdvance t (.phaseC means)) s fun u =>
      (∀ (n : Fin 64) (c : Int), (n.val, c) ∈ u.cal.result.corrs ↔
        c = -means[n] ∧ b.run n = 2 ∧ 1 ≤ b.rd .OUTn_CFG_FMT n ∧ b.rd .OUTn_CFG_FMT n ≤ 5) ∧
      u.rd .CAL_STATE_PHASE = 5 ∧ u.cal.phaseAt = b.now ∧ only u [.CAL_STATE_PHASE]) ∧
    (∀ n, phase = 5 → b.dtcOut x = some n → b.dtcOk x n = true → b.cal.phaseAt + 340000000000 * b.dtcParts x ≤ b.now → Completes (.calPhaseAdvance t (.phaseD x measured)) s fun u =>
      (∃ ds, (x.val, ds) ∈ u.cal.result.deltas ∧ ds.length = 17 ∧ ∀ j : Fin 17,
        measured[j] - (b.siliconAt x).getD j.val 0 - 1 < (ds.getD j.val 0 : Rat) ∧
        (ds.getD j.val 0 : Rat) < measured[j] - (b.siliconAt x).getD j.val 0 + 1) ∧ only u []) ∧
    (∀ d, phase = 0 → Completes (.calPhaseAdvance t d) s fun u => only u []) ∧
    (phase = 5 → b.cal.phaseAt + 340000000000 * b.dtcCount ≤ b.now → (∀ y ∈ b.cal.result.deltas, y.2.length = 17) →
      Completes (.calRunEnd t) s fun u =>
        imageError u.imageBytes = none ∧ leAt u.imageBytes 8 4 = b.rd .CAL_GEN ∧ u.bit .CAL_STATE_READY = true ∧
        u.bit .CAL_STATE_RUN = false ∧ u.rd .CAL_STATE_PHASE = 0 ∧ u.bit .CAL_EV_DONE = true ∧
        ∀ n : Fin 16, u.bit .INn_QUAL_CAL n = false) ∧
    (phase ≠ 5 ∨ b.now < b.cal.phaseAt + 340000000000 * b.dtcCount → Completes (.calRunEnd t) s fun u => only u []) ∧
    (∀ n j, phase = 5 → b.dtcOut x = some n → b.dtcOk x n = true →
      let start := b.cal.phaseAt + 340000000000 * (b.dtcParts x - 1)
      start + 20000000000 * j ≤ b.now → b.now < start + 20000000000 * (j + 1) →
      b.outShift n = ((b.outs[n]).phi + ((b.outs[n]).corr : Rat)) / 64 - (b.rdI .OUTn_DELAY n : Rat) +
        (if j < 16 then (j : Rat) else if j = 16 then 1 else 0) * b.tVco x / 16) ∧
    (phase ≠ 5 → ∀ n : Fin 64, b.outShift n = ((b.outs[n]).phi + ((b.outs[n]).corr : Rat)) / 64 - (b.rdI .OUTn_DELAY n : Rat)) ∧
    (b.bit .CAL_STATE_RUN = true → ∀ f, b.calTakeElems f = b)

/-- R350, R355 to R358: an image that passes is taken element by element at its boundary, one that fails sends every element back to its silicon
trim, REVERT does the same, with the DTC tables only once no run is in progress, and the window is written while none is. -/
def Piece.CalibrationImage : Prop :=
  ∀ (s : State) (t : Nat) (m : Master) (v : Word) (i : Fin 1024) (p : Fin 4),
    let b := s.enter t
    let img := b.imageBytes
    let idle := b.bit .CAL_STATE_RUN = false ∧ b.boot.otpBad = false
    (b.answers m .CAL_APPLY → fieldOf .CAL_APPLY_REVERT v = 0 →
      (¬ idle → Completes (.calApplyGo t m v) s fun u =>
        u.rd .CAL_STATE_ERR = 3 ∧ b.Keeps u (fun f _ => f == .CAL_STATE_ERR || f == .CAL_APPLY_STEP_OK)) ∧
      (∀ e, idle → imageError img = some e → Completes (.calApplyGo t m v) s fun u =>
        u.rd .CAL_STATE_ERR = e ∧ u.bit .CAL_EV_REJECT = true ∧ (b.records 41 = true → u.bitOf .FLT_STATUS 0 41 = true) ∧
        u.bit .CAL_EV_ACCEPT = b.bit .CAL_EV_ACCEPT ∧ (∀ w ∈ u.cal.waiting, w.2 = .trim) ∧
        (∀ x : Fin 2, u.bit .APLLx_TRIM_CTRL_SRC x = false) ∧ (u.rd .CAL_STATE_APPLY = 0 ∨ u.cal.waiting ≠ [])) ∧
      (idle → Completes (.calApplyGo t m v) s fun u => imageError img = none →
        u.bit .CAL_EV_ACCEPT = true ∧ u.rd .CAL_STATE_APPLY = 1 ∧ u.cal.reverting = false ∧
        (∀ k : Fin 25, (k.val, imageValue img k) ∈ u.cal.waiting) ∧
        (∀ n : Fin 64, b.run n = 2 → (25 + n.val, imageValue img (25 + n.val)) ∈ u.cal.waiting) ∧
        (∀ n : Fin 64, b.run n ≠ 2 → Store.get u.cal.inForce (25 + n.val) .trim = imageValue img (25 + n.val) ∧
          (if b.outOn n = true then (u.outs[n]).corrNext = some (imageValue img (25 + n.val)).corr
            else (u.outs[n]).corr = (imageValue img (25 + n.val)).corr)) ∧
        (∀ x : Fin 2, u.bit .APLLx_TRIM_CTRL_SRC x = (leAt img 6 2).testBit x))) ∧
    (b.answers m .CAL_APPLY → fieldOf .CAL_APPLY_GO v = 0 → Completes (.calRevert t m v) s fun u =>
      u.rd .CAL_STATE_APPLY = 1 ∧ u.cal.reverting = true ∧ (∀ k : Fin 25, (k.val, CalValue.trim) ∈ u.cal.waiting) ∧
      (∀ w ∈ u.cal.waiting, w.2 = .trim) ∧
      (b.bit .CAL_STATE_RUN = false → ∀ x : Fin 2, u.bit .APLLx_TRIM_CTRL_SRC x = false) ∧
      (b.bit .CAL_STATE_RUN = true → u.cal.tables = true ∧ u.cal.inForce = b.cal.inForce ∧
        ∀ f k, f ∈ [Field.APLLx_GAIN, .APLLx_TAP, .APLLx_TRIM_CTRL_SRC] → u.rd f k = b.rd f k)) ∧
    (b.answers m .CAL_IMAGE →
      (sysMaster m = true → b.bit .CAL_STATE_RUN = false → Completes (.calImageWrite t m i v) s fun u =>
        Store.get u.cal.window i 0 = v ∧ (∀ k, k ≠ i.val → Store.get u.cal.window k 0 = Store.get b.cal.window k 0) ∧
        b.Keeps u (fun _ _ => false)) ∧
      (sysMaster m = true → b.bit .CAL_STATE_RUN = true → Completes (.calImageWrite t m i v) s fun u =>
        u.bit .CAL_EV_WERR = true ∧ u.cal.window = b.cal.window ∧ b.Keeps u (fun f _ => f == .CAL_EV_WERR)) ∧
      (sysMaster m = false → Completes (.calImageWrite t m i v) s fun u =>
        u.cal.window = b.cal.window ∧ b.Keeps u (fun _ _ => false))) ∧
    (b.timebase = true → (b.tods[p]).secDone < (b.tod p b.now / 1000000000000).floor.toNat → Completes (.secondBoundary t p) s fun u =>
      (b.bit .CAL_STATE_RUN = true → u.cal.inForce = b.cal.inForce ∧ u.cal.waiting = b.cal.waiting) ∧
      (b.bit .CAL_STATE_RUN = false → u.cal.waiting = b.cal.waiting.filter (fun w => !b.calAtSecond p w.1) ∧
        ((b.cal.waiting.map Prod.fst).Nodup → ∀ w ∈ b.cal.waiting, b.calAtSecond p w.1 = true →
          Store.get u.cal.inForce w.1 .trim = w.2)))

/-- Calibration runs, their image and its application: every part holds. -/
def Obligations.Calibration : Prop := Piece.CalibrationRun ∧ Piece.CalibrationImage

/-! ## Start-up, boot and resets -/

/-- R18, R310, R362 to R364, R371, R373: main supplies becoming good, falling away, and a cold reset leave AON and the boot flash as they are and
every other field at its reset value, and after a brown-out the supplies bring no cause of their own; step 3 puts the silicon trims in force
and clears the memories of the engines. -/
def Obligations.PowerResets : Prop :=
  ∀ (s : State) (t : Nat) (m : Master) (key : Byte) (otpOk : Bool),
    let b := s.enter t
    let cleared := fun (u : State) (cause : Option Field) =>
      (∀ f k, aonKeeps (f.key k) = false → f.settles = false → u.rd f k = State.reset.rd f k) ∧
      (∀ f, isField [.RESET_CAUSE_POR, .RESET_CAUSE_BOR, .RESET_CAUSE_COLD, .RESET_CAUSE_WARM] (f.key 0) = true →
        u.rd f = if cause = some f then 1 else b.rd f) ∧
      u.flash = b.flash ∧ u.timebase = false ∧ u.planes = State.reset.planes ∧ u.aplls = State.reset.aplls ∧ u.outs = State.reset.outs ∧
      u.tods = State.reset.tods ∧ u.inputs = State.reset.inputs ∧ u.engines = State.reset.engines ∧ u.tok = { State.reset.tok with downFrom := some b.now } ∧
      u.links = State.reset.links ∧ u.mbox = State.reset.mbox ∧ u.keeper = State.reset.keeper ∧ u.hif = State.reset.hif ∧
      u.events = State.reset.events ∧ u.faults = State.reset.faults ∧ u.pins.alive = false
    let begun := fun (u : State) (cause : Option Field) => cleared u cause ∧ u.grn = b.grn ∧ u.boot.supplies = true ∧
      u.boot.stepAt = b.now ∧ u.rd .DEV_STATE_TIMING = 0 ∧ u.pins.faultN = true
    let refused := b.boot.keeperRan = false ∨ b.bit .DEV_STATE_WARM = true
    let step3 := b.boot.supplies = true ∧ b.rd .DEV_STATE_TIMING = 1 ∧ b.boot.stepAt + 220000000 ≤ b.now
    (b.boot.supplies = false → Completes (.suppliesGood t) s fun u =>
      begun u (if b.boot.brown then none else some .RESET_CAUSE_POR)) ∧
    (b.boot.supplies = true → Completes (.suppliesGood t) s fun u => b.Keeps u (fun _ _ => false)) ∧
    (b.boot.supplies = true ∨ b.boot.brown = true → Completes (.mainSupplyLoss t) s fun u => cleared u none ∧ u.boot.supplies = false ∧
      u.boot.keep = true ∧ u.pins.faultN = false) ∧
    (b.boot.supplies = false → b.boot.brown = false → Completes (.mainSupplyLoss t) s fun u => b.Keeps u (fun _ _ => false)) ∧
    (b.answers m .SOFT_RESET →
      (key = 0xA5 → sysMaster m = true → ¬ refused → Completes (.softResetCold t m key) s fun u => begun u (some .RESET_CAUSE_COLD)) ∧
      (key = 0xA5 → sysMaster m = true → refused → Completes (.softResetCold t m key) s fun u =>
        u.bit .SOFT_RESET_REFUSED = true ∧ b.Keeps u (fun f _ => f == .SOFT_RESET_REFUSED)) ∧
      (key ≠ 0xA5 ∨ sysMaster m = false → Completes (.softResetCold t m key) s fun u => b.Keeps u (fun _ _ => false))) ∧
    (step3 → Completes (.trimLoadDone t otpOk) s fun u =>
      u.rd .DEV_STATE_TIMING = 2 ∧ u.boot.otpBad = !otpOk ∧ u.boot.stepAt = b.now ∧
      (∀ e : Fin 4, (u.engines[e]).imem = [] ∧ (u.engines[e]).dmem = []) ∧
      (otpOk = false → u.rd .DEV_STATE_ERR = 4 ∧ (b.records 62 = true → u.bitOf .FLT_STATUS 0 62 = true)) ∧
      (∀ (x : Fin 2) (bin j : Fin 16), u.rdI .APLLx_GAIN (16 * x.val + bin.val) = (if otpOk then toSigned 12 (Config.trimGain x bin) else 0) ∧
        u.rdI .APLLx_TAP (256 * x.val + 16 * bin.val + j.val) = (if otpOk then toSigned 16 (Config.trimTap x bin j) else 0))) ∧
    (¬ step3 → Completes (.trimLoadDone t otpOk) s fun u => b.Keeps u (fun _ _ => false))

/-- R365, R368, R369, R374: the boot configuration is loaded from the first copy accepted, or as zeros where neither is, and the boot ROM starts the first good keeper image or
enters the recovery service. -/
def Obligations.BootImages : Prop :=
  ∀ (s : State) (t : Nat) (readA readB : Bool),
    let b := s.enter t
    let first := b.flashBytes 0 1600
    let second := b.flashBytes 0x1000 1600
    let loads := b.boot.supplies = true ∧ 2 ≤ b.rd .DEV_STATE_TIMING ∧ b.boot.cfgRead = false
    let holds := fun (u : State) (r : List Byte) =>
      u.rd .XO_NOM = leAt r 8 4 ∧ u.boot.cfgRead = true ∧
      (∀ x : Fin 2, u.bit .APLLx_CTRL_EN x = (leAt r 12 4).testBit x ∧ u.rd .APLLx_N x = leAt r (16 + 16 * x.val) 4 % 2 ^ Field.APLLx_N.info.width ∧
        u.rd .APLLx_NUM x = leAt r (20 + 16 * x.val) 4 ∧ u.rd .APLLx_DEN x = leAt r (24 + 16 * x.val) 4) ∧
      (∀ n : Fin 64, b.outOn n = false → let o := 48 + 24 * n.val
        u.rd .OUTn_INT n = leAt r (o + 8) 8 % 2 ^ 34 ∧ u.rd .OUTn_NUM n = leAt r (o + 16) 4 ∧ u.rd .OUTn_DEN n = leAt r (o + 20) 4 ∧
        ∀ f, f ∈ [Field.OUTn_CFG_EN, .OUTn_CFG_FMT, .OUTn_CFG_MODE, .OUTn_CFG_START] → u.rd f n = fieldOf f (BitVec.ofNat 32 (leAt r o 4)))
    let loaded := fun (u : State) (r : List Byte) (copy : Nat) =>
      u.bit .BOOT_STAT_CFG_VALID = true ∧ u.rd .BOOT_STAT_CFG_COPY = copy ∧ holds u r
    let boots := b.mcpRuns = true ∧ 2 ≤ b.rd .DEV_STATE_TIMING ∧ b.rd .DEV_STATE_KEEPER = kpLoading
    let x := b.imageFirst
    let fails := fun (k : Nat) => b.imageFault k (if k = 0 then readA else readB)
    let starts := fun (u : State) (k why : Nat) => u.rd .DEV_STATE_KEEPER = kpRunning ∧ u.rd .BOOT_STAT_IMAGE = k ∧
      u.rd .BOOT_STAT_FALLBACK = why ∧ u.bit .DEV_STATE_WARM = false ∧ u.boot.keeperRan = true ∧ u.keeper.startAt = b.now ∧
      u.keeper.version = BitVec.ofNat 32 (leAt (b.flashBytes (imageBase k) 8) 4 4) ∧ u.outs = b.outs ∧ u.planes = b.planes
    x < 2 ∧
    (loads → Completes (.bootcfgRead t) s fun u =>
      (cfgOk first = true → loaded u first 0) ∧ (cfgOk first = false → cfgOk second = true → loaded u second 1)) ∧
    (loads → cfgOk first = false → cfgOk second = false → Completes (.bootcfgRead t) s fun u =>
      u.rd .DEV_STATE_ERR = (if b.rd .DEV_STATE_ERR = 4 then 4 else 1) ∧ holds u (List.replicate 1600 0) ∧
      u.rd .BOOT_STAT_CFG_VALID = b.rd .BOOT_STAT_CFG_VALID ∧ u.flash = b.flash ∧ u.planes = b.planes) ∧
    (¬ loads → Completes (.bootcfgRead t) s fun u => b.Keeps u (fun _ _ => false)) ∧
    (boots → b.keeper.toRecovery = false → Completes (.keeperBoot t readA readB) s fun u =>
      (fails x = none → starts u x 0) ∧
      (∀ why, fails x = some why → fails (1 - x) = none →
        starts u (1 - x) why ∧ 1 ≤ why ∧ why ≤ 4 ∧ (b.records 21 = true → u.bitOf .FLT_STATUS 0 21 = true)) ∧
      (fails x ≠ none → fails (1 - x) ≠ none →
        u.rd .DEV_STATE_KEEPER = kpRecovery ∧ u.rd .DEV_STATE_ERR = (if b.rd .DEV_STATE_ERR = 4 then 4 else 5) ∧
        b.Keeps u (fun f _ => f == .DEV_STATE_KEEPER || f == .DEV_STATE_ERR || f == .DEV_STATE_WARM))) ∧
    (boots → b.keeper.toRecovery = true → Completes (.keeperBoot t readA readB) s fun u =>
      u.rd .DEV_STATE_KEEPER = kpRecovery ∧ u.keeper.toRecovery = false ∧
      State.Keeps b { u with keeper := b.keeper } (fun f _ => f == .DEV_STATE_KEEPER || f == .DEV_STATE_WARM)) ∧
    (¬ boots → Completes (.keeperBoot t readA readB) s fun u => b.Keeps u (fun _ _ => false))

/-- R134, R140, R186, R289, R370 to R373: a warm reset preempts the open regions at once, holds YAC, TOK, MGT and LNZ from 2 to 20 µs on and leaves
outputs, APLLs and time of day running; RECOVER restarts the MCP alone. -/
def Obligations.WarmReset : Prop :=
  ∀ (s : State) (t since : Nat) (m : Master) (key : Byte),
    let b := s.enter t
    let held := s.warmStep t
    let refused := b.boot.keeperRan = false ∨ b.bit .DEV_STATE_WARM = true
    let host := m = .pcie ∨ m = .spi
    (b.answers m .SOFT_RESET →
      (key = 0xA5 → sysMaster m = true → ¬ refused → Completes (.softResetWarm t m key) s fun u =>
        u.bit .DEV_STATE_WARM = true ∧ u.bit .RESET_CAUSE_WARM = true ∧ u.boot.warmAt = some b.now ∧ u.boot.held = false ∧
        u.clk.held = b.clk.held ∧ u.engines = b.engines ∧ u.aplls = b.aplls ∧ u.tods = b.tods ∧
        u.timebase = b.timebase ∧ u.xo = b.xo ∧ u.sheafs = b.sheafs ∧ (b.bit .CAL_STATE_RUN = false → u.outs = b.outs) ∧
        (∀ p : Fin 4, (b.planes[p]).region.isSome = true → u.rd .PLn_COMMIT_RESULT p = resPreempted ∧ u.boot.cut.testBit p = true) ∧
        (∀ p : Fin 4, (u.planes[p]).region = none ∧ (u.planes[p]).c = (b.planes[p]).c)) ∧
      (key = 0xA5 → sysMaster m = true → refused → Completes (.softResetWarm t m key) s fun u =>
        u.bit .SOFT_RESET_REFUSED = true ∧ b.Keeps u (fun f _ => f == .SOFT_RESET_REFUSED)) ∧
      (key ≠ 0xA5 ∨ sysMaster m = false → Completes (.softResetWarm t m key) s fun u => b.Keeps u (fun _ _ => false)) ∧
      (key = 0xA5 → host → Completes (.softResetRecover t m key) s fun u =>
        u.rd .DEV_STATE_KEEPER = kpLoading ∧ u.keeper.toRecovery = true ∧ u.outs = b.outs ∧ u.aplls = b.aplls ∧ u.tods = b.tods ∧
        u.engines = b.engines ∧ u.links = b.links ∧ u.boot = b.boot) ∧
      (key ≠ 0xA5 ∨ ¬ host → Completes (.softResetRecover t m key) s fun u => b.Keeps u (fun _ _ => false))) ∧
    (∀ w, b.boot.warmAt = some w → w + 20000000 ≤ b.now → Completes (.warmResetRelease t) s fun u =>
      u.boot.warmAt = none ∧ (∀ c, c ∈ [3, 4, 5, 7] → u.clk.held.testBit c = false) ∧ u.keeper.bootAt = b.now ∧
      u.outs = b.outs ∧ u.aplls = b.aplls ∧ u.tods = b.tods ∧
      (∀ e : Fin 4, b.bit .YEe_BOOT e = false → u.yeState e = b.yeState e ∧ u.engines[e] = b.engines[e])) ∧
    ((∀ w, b.boot.warmAt = some w → b.now < w + 20000000) → Completes (.warmResetRelease t) s fun u => b.Keeps u (fun _ _ => false)) ∧
    (s.boot.warmAt = some since → s.boot.held = false → since + 2000000 ≤ t → s.now ≤ since + 2000000 →
      held.boot.held = true ∧ (∀ c, c ∈ [3, 4, 5, 7] → held.clk.held.testBit c = true) ∧ held.rd .DEV_STATE_KEEPER = kpLoading ∧
      held.outs = s.outs ∧ held.aplls = s.aplls ∧ held.tods = s.tods ∧ held.timebase = s.timebase ∧ held.xo = s.xo ∧
      held.sheafs = s.sheafs ∧ held.now = since + 2000000 ∧
      (∀ e : Fin 4, held.yeState e = stReset ∧ (held.engines[e]).imem = (s.engines[e]).imem ∧
        (held.engines[e]).dmem = (s.engines[e]).dmem) ∧
      (∀ p : Fin 4, (held.planes[p]).region = none ∧ (held.planes[p]).c = (s.planes[p]).c ∧
        (s.boot.cut.testBit p = false → (s.planes[p]).region = none → held.rd .PLn_COMMIT_RESULT p = 0) ∧
        (s.rd .PLn_STATE_STATE p = 1 ∨ s.rd .PLn_STATE_STATE p = 2 ∨ s.rd .PLn_STATE_STATE p = 4 → held.rd .PLn_STATE_STATE p = 3)) ∧
      held.rd .FLT_LEVEL_LEVEL = 0 ∧ held.faults.open_ = [] ∧ (∀ n : Fin 16, held.rd .MBn_LOCK n = 0) ∧
      held.rd .BOOT_STAT_IMAGE = 0 ∧ held.rd .BOOT_STAT_CFG_VALID = 0) ∧
    (s.boot.warmAt = some since → since + 2000000 ≤ t → s.hif.spiHeld = [] → b.boot.held = true) ∧
    (b.boot.held = true → ∀ r, r.warmHeld = true → b.reach r = false)

/-! ## The host interface -/

/-- R376 to R380, R382: the link's resets and its training, BAR0 requests, configuration space, and MSI-X messages, sent or kept in the PBA. -/
def Piece.PcieAndMsix : Prop :=
  ∀ (s : State) (t : Nat) (m : Master) (k : HifReset) (addr n : Nat) (lock on mask bm d3 : Bool) (v w : Word) (data : List (Word × Fin 16))
    (x : Fin 64),
    let b := s.enter t
    let acts := match k with
      | .linkDown => b.hif.up = true
      | .flr => b.pcieServes = true
      | .perst | .hotReset | .island => True
    let serves := b.pcieServes = true
    let opened := b.hif.up = true ∧ on = true ∧ mask = false ∧ bm = true ∧ d3 = false
    let msg := Sent.msix x (b.hif.table[x]).addr (b.hif.table[x]).data
    let only := fun (u : State) => State.Keeps b { u with hif := b.hif, sent := b.sent } (fun _ _ => false)
    (acts → Completes (.hifReset t k) s fun u =>
      u.hif = { HifState.init with up := b.hif.up && k == .flr, ferr := b.hif.ferr } ∧ u.msiDue = 0 ∧
      u.masters[(1 : Fin 16)] = MasterState.init ∧ u.rd .INT_EN = 0 ∧ u.bit .EVR_HCFG_EN = false ∧
      (b.hif.up = true → k ≠ .flr → b.records 35 = true → u.bitOf .FLT_STATUS 0 35 = true) ∧
      u.outs = b.outs ∧ u.aplls = b.aplls ∧ u.tods = b.tods ∧ u.engines = b.engines ∧ u.links = b.links) ∧
    (¬ acts → Completes (.hifReset t k) s fun u => b.Keeps u (fun _ _ => false)) ∧
    (b.hifReach = true → Completes (.pcieLinkUp t) s fun u => u.hif = { b.hif with up := true } ∧ only u) ∧
    (b.hifReach = false → Completes (.pcieLinkUp t) s fun u => b.Keeps u (fun _ _ => false)) ∧
    (serves → n ≤ 16 → lock = false → Completes (.pcieMemRead t addr n lock) s fun u =>
      ∃ ws, u.sent = b.sent ++ [.completion ws] ∧ ws.length = n ∧ (n = 1 → ws = [(b.busRead .pcie addr).1])) ∧
    (serves → 16 < n ∨ lock = true → Completes (.pcieMemRead t addr n lock) s fun u =>
      u.sent = b.sent ++ [.unsupported] ∧ (b.records 36 = true → u.bitOf .FLT_STATUS 0 36 = true) ∧ only u) ∧
    (¬ serves → Completes (.pcieMemRead t addr n lock) s fun u => b.Keeps u (fun _ _ => false)) ∧
    (serves → Completes (.pcieMemWrite t addr [(v, 15)] false) s fun u => exec (.registerWrite t .pcie addr v) s = .next u) ∧
    (serves → Completes (.pcieMemWrite t addr [(v, 15), (w, 15)] false) s fun u => exec (.burstPairWrite t .pcie addr v w) s = .next u) ∧
    (serves → 16 < data.length ∨ lock = true ∨ (∃ y ∈ data, y.2 ≠ 15) → Completes (.pcieMemWrite t addr data lock) s fun u =>
      (b.records 36 = true → u.bitOf .FLT_STATUS 0 36 = true) ∧ b.Keeps u (fun _ _ => false)) ∧
    (¬ serves → Completes (.pcieMemWrite t addr data lock) s fun u => b.Keeps u (fun _ _ => false)) ∧
    (serves → Completes (.pcieConfigWrite t bm d3 on mask) s fun u =>
      u.hif.busMaster = bm ∧ u.hif.d3 = d3 ∧ u.hif.msixOn = on ∧ u.hif.msixMask = mask ∧ u.hif.table = b.hif.table ∧ u.hif.up = b.hif.up ∧
      (opened → b.pbaBit x = true → (b.hif.table[x]).mask = false → msg ∈ u.sent ∧ u.pbaBit x = false) ∧
      (¬ opened → u.sent = b.sent ∧ u.hif.pba = b.hif.pba) ∧ only u) ∧
    (¬ serves → Completes (.pcieConfigWrite t bm d3 on mask) s fun u => b.Keeps u (fun _ _ => false)) ∧
    (b.msiDue.toNat.testBit x = true → b.Calm → Completes (.msixSend t x) s fun u =>
      u.msiDue.toNat.testBit x = false ∧
      (b.msixOpen = true → (b.hif.table[x]).mask = false → u.sent = b.sent ++ [msg] ∧ u.hif = b.hif) ∧
      (b.msixOpen = false ∨ (b.hif.table[x]).mask = true → u.sent = b.sent ∧ u.pbaBit x = true) ∧ only u) ∧
    (b.msiDue.toNat.testBit x = false → Completes (.msixSend t x) s fun u => b.Keeps u (fun _ _ => false)) ∧
    (b.hasMaster m = true → b.hifReach = true → Completes (.msixUnmask t m x) s fun u =>
      (u.hif.table[x]).mask = false ∧ (∀ y, y ≠ x → u.hif.table[y] = b.hif.table[y]) ∧
      (b.msixOpen = true → b.pbaBit x = true → msg ∈ u.sent ∧ u.pbaBit x = false) ∧
      (b.msixOpen = false → u.sent = b.sent ∧ u.hif.pba = b.hif.pba) ∧ only u)

/-- R383 to R386: a READ frame performs the writes held before it and returns words, a WRITE frame's words wait, a pair whole, STATUS reports and clears
FERR, and every other frame is an error. What a frame with another command byte captures is open (entry 15). -/
def Piece.SpiFrames : Prop :=
  ∀ (s : State) (t : Nat) (addr v w : Word) (n : Nat) (ending : SpiEnd) (cmd : Byte) (words : List (Word × Nat)) (cut : Bool),
    let b := s.begin t
    let e := s.enter t
    let a := addr.toNat
    let held := b.hif.spiHeld
    let failed := fun (c u : State) => u.hif.ferr = true ∧ (c.records 38 = true → u.bitOf .FLT_STATUS 0 38 = true)
    let takes := fun (u : State) (l : List (Nat × List Word)) =>
      u.hif = { b.hif with spiHeld := l } ∧ State.Keeps b { u with hif := b.hif } (fun _ _ => false)
    let fail := fun (u : State) => failed b u ∧ u.hif.spiHeld = held ∧ State.Keeps b { u with hif := b.hif, draw := b.draw } (fun _ _ => false)
    b.boot.supplies = true →
    (a % 4 = 0 → a + 4 * n ≤ 0x400000 → Completes (.spiRead t addr n ending) s fun u =>
      u.hif.spiHeld = [] ∧ (∃ ws, u.sent = e.sent ++ [.spi ws] ∧ ws.length = n ∧ (n = 1 → ws = [(e.busRead .spi a).1])) ∧
      (ending = .whole → u.hif.ferr = e.hif.ferr) ∧ (ending = .stalled → u.hif.ferr = true) ∧
      (ending = .cut → u.hif.ferr = true)) ∧
    (a % 4 = 0 → 0x400000 < a + 4 * n → Completes (.spiRead t addr n ending) s fun u =>
      u.hif.ferr = true ∧ ∃ ws, u.sent = e.sent ++ [.spi ws] ∧ ws.length = (0x400000 - a) / 4) ∧
    (a % 4 ≠ 0 → Completes (.spiRead t addr n ending) s fun u => failed e u ∧ u.sent = e.sent) ∧
    (a % 4 = 0 → a < 0x400000 → b.heldWords < 16 → Completes (.spiWrite t 2 addr [(v, 0)] false) s fun u => takes u (held ++ [(a, [v])])) ∧
    (a % 4 = 0 → a + 4 < 0x400000 → b.heldWords < 15 → Completes (.spiWrite t 2 addr [(v, 0), (w, 0)] false) s fun u =>
      takes u (if isPairLo a then held ++ [(a, [v, w])] else held ++ [(a, [v]), (a + 4, [w])])) ∧
    (a % 4 = 0 → 16 ≤ b.heldWords ∨ 0x400000 ≤ a → Completes (.spiWrite t 2 addr [(v, 0)] false) s fun u => fail u) ∧
    (a % 4 ≠ 0 → Completes (.spiWrite t 2 addr words cut) s fun u => fail u) ∧
    (a % 4 = 0 → Completes (.spiWrite t 2 addr [] true) s fun u => fail u) ∧
    (cmd ≠ 0x0B → cmd ≠ 0x05 → cmd ≠ 0x02 → Completes (.spiWrite t cmd addr words cut) s fun u => fail u) ∧
    (Completes (.spiStatus t 0) s fun u =>
      u.sent = [.spiStatus (BitVec.ofNat 8 ((!held.isEmpty).toNat + b.hif.ferr.toNat * 2 + b.intN.toNat * 4))] ∧
      u.hif = { b.hif with ferr := false } ∧ State.Keeps b { u with hif := b.hif, sent := b.sent } (fun _ _ => false)) ∧
    (Completes (.spiStatus t n) s fun u => u.hif.ferr = false)

/-- PCIe requests, MSI-X and SPI frames: every part holds. -/
def Obligations.HostPorts : Prop := Piece.PcieAndMsix ∧ Piece.SpiFrames
end

