-- ==== Sys2Proof/Laws/State.lean ====
section
/-!
SUPPORT. What each update of the state leaves: one lemma for each update and field. Then the same for a read of a register
field, since every update but `wr` leaves the registers as they are.
-/
namespace Sys2Proof.Machine

variable (s : State)

/-! ## wr -/

@[simp] theorem State.wr_now (f : Field) (n v : Nat) : (s.wr f n v).now = s.now := rfl
@[simp] theorem State.wr_timebase (f : Field) (n v : Nat) : (s.wr f n v).timebase = s.timebase := rfl
@[simp] theorem State.wr_tick0 (f : Field) (n v : Nat) : (s.wr f n v).tick0 = s.tick0 := rfl
@[simp] theorem State.wr_tick (f : Field) (n v : Nat) : (s.wr f n v).tick = s.tick := rfl
@[simp] theorem State.wr_due (f : Field) (n v : Nat) : (s.wr f n v).due = s.due := rfl
@[simp] theorem State.wr_regs (f : Field) (n v : Nat) : (s.wr f n v).regs = Store.set s.regs (f.key n) (v % 2 ^ f.info.width) (f.reset n) := rfl
@[simp] theorem State.wr_masters (f : Field) (n v : Nat) : (s.wr f n v).masters = s.masters := rfl
@[simp] theorem State.wr_draw (f : Field) (n v : Nat) : (s.wr f n v).draw = s.draw := rfl
@[simp] theorem State.wr_inputs (f : Field) (n v : Nat) : (s.wr f n v).inputs = s.inputs := rfl
@[simp] theorem State.wr_xo (f : Field) (n v : Nat) : (s.wr f n v).xo = s.xo := rfl
@[simp] theorem State.wr_planes (f : Field) (n v : Nat) : (s.wr f n v).planes = s.planes := rfl
@[simp] theorem State.wr_aplls (f : Field) (n v : Nat) : (s.wr f n v).aplls = s.aplls := rfl
@[simp] theorem State.wr_outs (f : Field) (n v : Nat) : (s.wr f n v).outs = s.outs := rfl
@[simp] theorem State.wr_banks (f : Field) (n v : Nat) : (s.wr f n v).banks = s.banks := rfl
@[simp] theorem State.wr_sheafs (f : Field) (n v : Nat) : (s.wr f n v).sheafs = s.sheafs := rfl
@[simp] theorem State.wr_tods (f : Field) (n v : Nat) : (s.wr f n v).tods = s.tods := rfl
@[simp] theorem State.wr_utc (f : Field) (n v : Nat) : (s.wr f n v).utc = s.utc := rfl
@[simp] theorem State.wr_stamps (f : Field) (n v : Nat) : (s.wr f n v).stamps = s.stamps := rfl
@[simp] theorem State.wr_stampNow (f : Field) (n v : Nat) : (s.wr f n v).stampNow = s.stampNow := rfl
@[simp] theorem State.wr_faults (f : Field) (n v : Nat) : (s.wr f n v).faults = s.faults := rfl
@[simp] theorem State.wr_events (f : Field) (n v : Nat) : (s.wr f n v).events = s.events := rfl
@[simp] theorem State.wr_evpend (f : Field) (n v : Nat) : (s.wr f n v).evpend = s.evpend := rfl
@[simp] theorem State.wr_evovf (f : Field) (n v : Nat) : (s.wr f n v).evovf = s.evovf := rfl
@[simp] theorem State.wr_sets (f : Field) (n v : Nat) : (s.wr f n v).sets = s.sets := rfl
@[simp] theorem State.wr_wakes (f : Field) (n v : Nat) : (s.wr f n v).wakes = s.wakes := rfl
@[simp] theorem State.wr_msiDue (f : Field) (n v : Nat) : (s.wr f n v).msiDue = s.msiDue := rfl
@[simp] theorem State.wr_cal (f : Field) (n v : Nat) : (s.wr f n v).cal = s.cal := rfl
@[simp] theorem State.wr_boot (f : Field) (n v : Nat) : (s.wr f n v).boot = s.boot := rfl
@[simp] theorem State.wr_mbox (f : Field) (n v : Nat) : (s.wr f n v).mbox = s.mbox := rfl
@[simp] theorem State.wr_keeper (f : Field) (n v : Nat) : (s.wr f n v).keeper = s.keeper := rfl
@[simp] theorem State.wr_flash (f : Field) (n v : Nat) : (s.wr f n v).flash = s.flash := rfl
@[simp] theorem State.wr_flashDirty (f : Field) (n v : Nat) : (s.wr f n v).flashDirty = s.flashDirty := rfl
@[simp] theorem State.wr_clk (f : Field) (n v : Nat) : (s.wr f n v).clk = s.clk := rfl
@[simp] theorem State.wr_hif (f : Field) (n v : Nat) : (s.wr f n v).hif = s.hif := rfl
@[simp] theorem State.wr_sent (f : Field) (n v : Nat) : (s.wr f n v).sent = s.sent := rfl
@[simp] theorem State.wr_pins (f : Field) (n v : Nat) : (s.wr f n v).pins = s.pins := rfl
@[simp] theorem State.wr_engines (f : Field) (n v : Nat) : (s.wr f n v).engines = s.engines := rfl
@[simp] theorem State.wr_tok (f : Field) (n v : Nat) : (s.wr f n v).tok = s.tok := rfl
@[simp] theorem State.wr_grn (f : Field) (n v : Nat) : (s.wr f n v).grn = s.grn := rfl
@[simp] theorem State.wr_links (f : Field) (n v : Nat) : (s.wr f n v).links = s.links := rfl
@[simp] theorem State.wr_pending (f : Field) (n v : Nat) : (s.wr f n v).pending = s.pending := rfl

/-! ## setInp -/

@[simp] theorem State.setInp_now (n : Fin 16) (x : InputState) : (s.setInp n x).now = s.now := rfl
@[simp] theorem State.setInp_timebase (n : Fin 16) (x : InputState) : (s.setInp n x).timebase = s.timebase := rfl
@[simp] theorem State.setInp_tick0 (n : Fin 16) (x : InputState) : (s.setInp n x).tick0 = s.tick0 := rfl
@[simp] theorem State.setInp_tick (n : Fin 16) (x : InputState) : (s.setInp n x).tick = s.tick := rfl
@[simp] theorem State.setInp_due (n : Fin 16) (x : InputState) : (s.setInp n x).due = s.due := rfl
@[simp] theorem State.setInp_regs (n : Fin 16) (x : InputState) : (s.setInp n x).regs = s.regs := rfl
@[simp] theorem State.setInp_masters (n : Fin 16) (x : InputState) : (s.setInp n x).masters = s.masters := rfl
@[simp] theorem State.setInp_draw (n : Fin 16) (x : InputState) : (s.setInp n x).draw = s.draw := rfl
@[simp] theorem State.setInp_inputs (n : Fin 16) (x : InputState) : (s.setInp n x).inputs = s.inputs.set n x := rfl
@[simp] theorem State.setInp_xo (n : Fin 16) (x : InputState) : (s.setInp n x).xo = s.xo := rfl
@[simp] theorem State.setInp_planes (n : Fin 16) (x : InputState) : (s.setInp n x).planes = s.planes := rfl
@[simp] theorem State.setInp_aplls (n : Fin 16) (x : InputState) : (s.setInp n x).aplls = s.aplls := rfl
@[simp] theorem State.setInp_outs (n : Fin 16) (x : InputState) : (s.setInp n x).outs = s.outs := rfl
@[simp] theorem State.setInp_banks (n : Fin 16) (x : InputState) : (s.setInp n x).banks = s.banks := rfl
@[simp] theorem State.setInp_sheafs (n : Fin 16) (x : InputState) : (s.setInp n x).sheafs = s.sheafs := rfl
@[simp] theorem State.setInp_tods (n : Fin 16) (x : InputState) : (s.setInp n x).tods = s.tods := rfl
@[simp] theorem State.setInp_utc (n : Fin 16) (x : InputState) : (s.setInp n x).utc = s.utc := rfl
@[simp] theorem State.setInp_stamps (n : Fin 16) (x : InputState) : (s.setInp n x).stamps = s.stamps := rfl
@[simp] theorem State.setInp_stampNow (n : Fin 16) (x : InputState) : (s.setInp n x).stampNow = s.stampNow := rfl
@[simp] theorem State.setInp_faults (n : Fin 16) (x : InputState) : (s.setInp n x).faults = s.faults := rfl
@[simp] theorem State.setInp_events (n : Fin 16) (x : InputState) : (s.setInp n x).events = s.events := rfl
@[simp] theorem State.setInp_evpend (n : Fin 16) (x : InputState) : (s.setInp n x).evpend = s.evpend := rfl
@[simp] theorem State.setInp_evovf (n : Fin 16) (x : InputState) : (s.setInp n x).evovf = s.evovf := rfl
@[simp] theorem State.setInp_sets (n : Fin 16) (x : InputState) : (s.setInp n x).sets = s.sets := rfl
@[simp] theorem State.setInp_wakes (n : Fin 16) (x : InputState) : (s.setInp n x).wakes = s.wakes := rfl
@[simp] theorem State.setInp_msiDue (n : Fin 16) (x : InputState) : (s.setInp n x).msiDue = s.msiDue := rfl
@[simp] theorem State.setInp_cal (n : Fin 16) (x : InputState) : (s.setInp n x).cal = s.cal := rfl
@[simp] theorem State.setInp_boot (n : Fin 16) (x : InputState) : (s.setInp n x).boot = s.boot := rfl
@[simp] theorem State.setInp_mbox (n : Fin 16) (x : InputState) : (s.setInp n x).mbox = s.mbox := rfl
@[simp] theorem State.setInp_keeper (n : Fin 16) (x : InputState) : (s.setInp n x).keeper = s.keeper := rfl
@[simp] theorem State.setInp_flash (n : Fin 16) (x : InputState) : (s.setInp n x).flash = s.flash := rfl
@[simp] theorem State.setInp_flashDirty (n : Fin 16) (x : InputState) : (s.setInp n x).flashDirty = s.flashDirty := rfl
@[simp] theorem State.setInp_clk (n : Fin 16) (x : InputState) : (s.setInp n x).clk = s.clk := rfl
@[simp] theorem State.setInp_hif (n : Fin 16) (x : InputState) : (s.setInp n x).hif = s.hif := rfl
@[simp] theorem State.setInp_sent (n : Fin 16) (x : InputState) : (s.setInp n x).sent = s.sent := rfl
@[simp] theorem State.setInp_pins (n : Fin 16) (x : InputState) : (s.setInp n x).pins = s.pins := rfl
@[simp] theorem State.setInp_engines (n : Fin 16) (x : InputState) : (s.setInp n x).engines = s.engines := rfl
@[simp] theorem State.setInp_tok (n : Fin 16) (x : InputState) : (s.setInp n x).tok = s.tok := rfl
@[simp] theorem State.setInp_grn (n : Fin 16) (x : InputState) : (s.setInp n x).grn = s.grn := rfl
@[simp] theorem State.setInp_links (n : Fin 16) (x : InputState) : (s.setInp n x).links = s.links := rfl
@[simp] theorem State.setInp_pending (n : Fin 16) (x : InputState) : (s.setInp n x).pending = s.pending := rfl
@[simp] theorem State.setInp_rd (n : Fin 16) (x : InputState) (g : Field) (idx : Nat) : (s.setInp n x).rd g idx = s.rd g idx := rfl

/-! ## setPlane -/

@[simp] theorem State.setPlane_now (p : Fin 4) (x : PlaneState) : (s.setPlane p x).now = s.now := rfl
@[simp] theorem State.setPlane_timebase (p : Fin 4) (x : PlaneState) : (s.setPlane p x).timebase = s.timebase := rfl
@[simp] theorem State.setPlane_tick0 (p : Fin 4) (x : PlaneState) : (s.setPlane p x).tick0 = s.tick0 := rfl
@[simp] theorem State.setPlane_tick (p : Fin 4) (x : PlaneState) : (s.setPlane p x).tick = s.tick := rfl
@[simp] theorem State.setPlane_due (p : Fin 4) (x : PlaneState) : (s.setPlane p x).due = s.due := rfl
@[simp] theorem State.setPlane_regs (p : Fin 4) (x : PlaneState) : (s.setPlane p x).regs = s.regs := rfl
@[simp] theorem State.setPlane_masters (p : Fin 4) (x : PlaneState) : (s.setPlane p x).masters = s.masters := rfl
@[simp] theorem State.setPlane_draw (p : Fin 4) (x : PlaneState) : (s.setPlane p x).draw = s.draw := rfl
@[simp] theorem State.setPlane_inputs (p : Fin 4) (x : PlaneState) : (s.setPlane p x).inputs = s.inputs := rfl
@[simp] theorem State.setPlane_xo (p : Fin 4) (x : PlaneState) : (s.setPlane p x).xo = s.xo := rfl
@[simp] theorem State.setPlane_planes (p : Fin 4) (x : PlaneState) : (s.setPlane p x).planes = s.planes.set p x := rfl
@[simp] theorem State.setPlane_aplls (p : Fin 4) (x : PlaneState) : (s.setPlane p x).aplls = s.aplls := rfl
@[simp] theorem State.setPlane_outs (p : Fin 4) (x : PlaneState) : (s.setPlane p x).outs = s.outs := rfl
@[simp] theorem State.setPlane_banks (p : Fin 4) (x : PlaneState) : (s.setPlane p x).banks = s.banks := rfl
@[simp] theorem State.setPlane_sheafs (p : Fin 4) (x : PlaneState) : (s.setPlane p x).sheafs = s.sheafs := rfl
@[simp] theorem State.setPlane_tods (p : Fin 4) (x : PlaneState) : (s.setPlane p x).tods = s.tods := rfl
@[simp] theorem State.setPlane_utc (p : Fin 4) (x : PlaneState) : (s.setPlane p x).utc = s.utc := rfl
@[simp] theorem State.setPlane_stamps (p : Fin 4) (x : PlaneState) : (s.setPlane p x).stamps = s.stamps := rfl
@[simp] theorem State.setPlane_stampNow (p : Fin 4) (x : PlaneState) : (s.setPlane p x).stampNow = s.stampNow := rfl
@[simp] theorem State.setPlane_faults (p : Fin 4) (x : PlaneState) : (s.setPlane p x).faults = s.faults := rfl
@[simp] theorem State.setPlane_events (p : Fin 4) (x : PlaneState) : (s.setPlane p x).events = s.events := rfl
@[simp] theorem State.setPlane_evpend (p : Fin 4) (x : PlaneState) : (s.setPlane p x).evpend = s.evpend := rfl
@[simp] theorem State.setPlane_evovf (p : Fin 4) (x : PlaneState) : (s.setPlane p x).evovf = s.evovf := rfl
@[simp] theorem State.setPlane_sets (p : Fin 4) (x : PlaneState) : (s.setPlane p x).sets = s.sets := rfl
@[simp] theorem State.setPlane_wakes (p : Fin 4) (x : PlaneState) : (s.setPlane p x).wakes = s.wakes := rfl
@[simp] theorem State.setPlane_msiDue (p : Fin 4) (x : PlaneState) : (s.setPlane p x).msiDue = s.msiDue := rfl
@[simp] theorem State.setPlane_cal (p : Fin 4) (x : PlaneState) : (s.setPlane p x).cal = s.cal := rfl
@[simp] theorem State.setPlane_boot (p : Fin 4) (x : PlaneState) : (s.setPlane p x).boot = s.boot := rfl
@[simp] theorem State.setPlane_mbox (p : Fin 4) (x : PlaneState) : (s.setPlane p x).mbox = s.mbox := rfl
@[simp] theorem State.setPlane_keeper (p : Fin 4) (x : PlaneState) : (s.setPlane p x).keeper = s.keeper := rfl
@[simp] theorem State.setPlane_flash (p : Fin 4) (x : PlaneState) : (s.setPlane p x).flash = s.flash := rfl
@[simp] theorem State.setPlane_flashDirty (p : Fin 4) (x : PlaneState) : (s.setPlane p x).flashDirty = s.flashDirty := rfl
@[simp] theorem State.setPlane_clk (p : Fin 4) (x : PlaneState) : (s.setPlane p x).clk = s.clk := rfl
@[simp] theorem State.setPlane_hif (p : Fin 4) (x : PlaneState) : (s.setPlane p x).hif = s.hif := rfl
@[simp] theorem State.setPlane_sent (p : Fin 4) (x : PlaneState) : (s.setPlane p x).sent = s.sent := rfl
@[simp] theorem State.setPlane_pins (p : Fin 4) (x : PlaneState) : (s.setPlane p x).pins = s.pins := rfl
@[simp] theorem State.setPlane_engines (p : Fin 4) (x : PlaneState) : (s.setPlane p x).engines = s.engines := rfl
@[simp] theorem State.setPlane_tok (p : Fin 4) (x : PlaneState) : (s.setPlane p x).tok = s.tok := rfl
@[simp] theorem State.setPlane_grn (p : Fin 4) (x : PlaneState) : (s.setPlane p x).grn = s.grn := rfl
@[simp] theorem State.setPlane_links (p : Fin 4) (x : PlaneState) : (s.setPlane p x).links = s.links := rfl
@[simp] theorem State.setPlane_pending (p : Fin 4) (x : PlaneState) : (s.setPlane p x).pending = s.pending := rfl
@[simp] theorem State.setPlane_rd (p : Fin 4) (x : PlaneState) (g : Field) (idx : Nat) : (s.setPlane p x).rd g idx = s.rd g idx := rfl

/-! ## setApll -/

@[simp] theorem State.setApll_now (i : Fin 2) (x : ApllState) : (s.setApll i x).now = s.now := rfl
@[simp] theorem State.setApll_timebase (i : Fin 2) (x : ApllState) : (s.setApll i x).timebase = s.timebase := rfl
@[simp] theorem State.setApll_tick0 (i : Fin 2) (x : ApllState) : (s.setApll i x).tick0 = s.tick0 := rfl
@[simp] theorem State.setApll_tick (i : Fin 2) (x : ApllState) : (s.setApll i x).tick = s.tick := rfl
@[simp] theorem State.setApll_due (i : Fin 2) (x : ApllState) : (s.setApll i x).due = s.due := rfl
@[simp] theorem State.setApll_regs (i : Fin 2) (x : ApllState) : (s.setApll i x).regs = s.regs := rfl
@[simp] theorem State.setApll_masters (i : Fin 2) (x : ApllState) : (s.setApll i x).masters = s.masters := rfl
@[simp] theorem State.setApll_draw (i : Fin 2) (x : ApllState) : (s.setApll i x).draw = s.draw := rfl
@[simp] theorem State.setApll_inputs (i : Fin 2) (x : ApllState) : (s.setApll i x).inputs = s.inputs := rfl
@[simp] theorem State.setApll_xo (i : Fin 2) (x : ApllState) : (s.setApll i x).xo = s.xo := rfl
@[simp] theorem State.setApll_planes (i : Fin 2) (x : ApllState) : (s.setApll i x).planes = s.planes := rfl
@[simp] theorem State.setApll_aplls (i : Fin 2) (x : ApllState) : (s.setApll i x).aplls = s.aplls.set i x := rfl
@[simp] theorem State.setApll_outs (i : Fin 2) (x : ApllState) : (s.setApll i x).outs = s.outs := rfl
@[simp] theorem State.setApll_banks (i : Fin 2) (x : ApllState) : (s.setApll i x).banks = s.banks := rfl
@[simp] theorem State.setApll_sheafs (i : Fin 2) (x : ApllState) : (s.setApll i x).sheafs = s.sheafs := rfl
@[simp] theorem State.setApll_tods (i : Fin 2) (x : ApllState) : (s.setApll i x).tods = s.tods := rfl
@[simp] theorem State.setApll_utc (i : Fin 2) (x : ApllState) : (s.setApll i x).utc = s.utc := rfl
@[simp] theorem State.setApll_stamps (i : Fin 2) (x : ApllState) : (s.setApll i x).stamps = s.stamps := rfl
@[simp] theorem State.setApll_stampNow (i : Fin 2) (x : ApllState) : (s.setApll i x).stampNow = s.stampNow := rfl
@[simp] theorem State.setApll_faults (i : Fin 2) (x : ApllState) : (s.setApll i x).faults = s.faults := rfl
@[simp] theorem State.setApll_events (i : Fin 2) (x : ApllState) : (s.setApll i x).events = s.events := rfl
@[simp] theorem State.setApll_evpend (i : Fin 2) (x : ApllState) : (s.setApll i x).evpend = s.evpend := rfl
@[simp] theorem State.setApll_evovf (i : Fin 2) (x : ApllState) : (s.setApll i x).evovf = s.evovf := rfl
@[simp] theorem State.setApll_sets (i : Fin 2) (x : ApllState) : (s.setApll i x).sets = s.sets := rfl
@[simp] theorem State.setApll_wakes (i : Fin 2) (x : ApllState) : (s.setApll i x).wakes = s.wakes := rfl
@[simp] theorem State.setApll_msiDue (i : Fin 2) (x : ApllState) : (s.setApll i x).msiDue = s.msiDue := rfl
@[simp] theorem State.setApll_cal (i : Fin 2) (x : ApllState) : (s.setApll i x).cal = s.cal := rfl
@[simp] theorem State.setApll_boot (i : Fin 2) (x : ApllState) : (s.setApll i x).boot = s.boot := rfl
@[simp] theorem State.setApll_mbox (i : Fin 2) (x : ApllState) : (s.setApll i x).mbox = s.mbox := rfl
@[simp] theorem State.setApll_keeper (i : Fin 2) (x : ApllState) : (s.setApll i x).keeper = s.keeper := rfl
@[simp] theorem State.setApll_flash (i : Fin 2) (x : ApllState) : (s.setApll i x).flash = s.flash := rfl
@[simp] theorem State.setApll_flashDirty (i : Fin 2) (x : ApllState) : (s.setApll i x).flashDirty = s.flashDirty := rfl
@[simp] theorem State.setApll_clk (i : Fin 2) (x : ApllState) : (s.setApll i x).clk = s.clk := rfl
@[simp] theorem State.setApll_hif (i : Fin 2) (x : ApllState) : (s.setApll i x).hif = s.hif := rfl
@[simp] theorem State.setApll_sent (i : Fin 2) (x : ApllState) : (s.setApll i x).sent = s.sent := rfl
@[simp] theorem State.setApll_pins (i : Fin 2) (x : ApllState) : (s.setApll i x).pins = s.pins := rfl
@[simp] theorem State.setApll_engines (i : Fin 2) (x : ApllState) : (s.setApll i x).engines = s.engines := rfl
@[simp] theorem State.setApll_tok (i : Fin 2) (x : ApllState) : (s.setApll i x).tok = s.tok := rfl
@[simp] theorem State.setApll_grn (i : Fin 2) (x : ApllState) : (s.setApll i x).grn = s.grn := rfl
@[simp] theorem State.setApll_links (i : Fin 2) (x : ApllState) : (s.setApll i x).links = s.links := rfl
@[simp] theorem State.setApll_pending (i : Fin 2) (x : ApllState) : (s.setApll i x).pending = s.pending := rfl
@[simp] theorem State.setApll_rd (i : Fin 2) (x : ApllState) (g : Field) (idx : Nat) : (s.setApll i x).rd g idx = s.rd g idx := rfl

/-! ## setOut -/

@[simp] theorem State.setOut_now (n : Fin 64) (x : OutState) : (s.setOut n x).now = s.now := rfl
@[simp] theorem State.setOut_timebase (n : Fin 64) (x : OutState) : (s.setOut n x).timebase = s.timebase := rfl
@[simp] theorem State.setOut_tick0 (n : Fin 64) (x : OutState) : (s.setOut n x).tick0 = s.tick0 := rfl
@[simp] theorem State.setOut_tick (n : Fin 64) (x : OutState) : (s.setOut n x).tick = s.tick := rfl
@[simp] theorem State.setOut_due (n : Fin 64) (x : OutState) : (s.setOut n x).due = s.due := rfl
@[simp] theorem State.setOut_regs (n : Fin 64) (x : OutState) : (s.setOut n x).regs = s.regs := rfl
@[simp] theorem State.setOut_masters (n : Fin 64) (x : OutState) : (s.setOut n x).masters = s.masters := rfl
@[simp] theorem State.setOut_draw (n : Fin 64) (x : OutState) : (s.setOut n x).draw = s.draw := rfl
@[simp] theorem State.setOut_inputs (n : Fin 64) (x : OutState) : (s.setOut n x).inputs = s.inputs := rfl
@[simp] theorem State.setOut_xo (n : Fin 64) (x : OutState) : (s.setOut n x).xo = s.xo := rfl
@[simp] theorem State.setOut_planes (n : Fin 64) (x : OutState) : (s.setOut n x).planes = s.planes := rfl
@[simp] theorem State.setOut_aplls (n : Fin 64) (x : OutState) : (s.setOut n x).aplls = s.aplls := rfl
@[simp] theorem State.setOut_outs (n : Fin 64) (x : OutState) : (s.setOut n x).outs = s.outs.set n x := rfl
@[simp] theorem State.setOut_banks (n : Fin 64) (x : OutState) : (s.setOut n x).banks = s.banks := rfl
@[simp] theorem State.setOut_sheafs (n : Fin 64) (x : OutState) : (s.setOut n x).sheafs = s.sheafs := rfl
@[simp] theorem State.setOut_tods (n : Fin 64) (x : OutState) : (s.setOut n x).tods = s.tods := rfl
@[simp] theorem State.setOut_utc (n : Fin 64) (x : OutState) : (s.setOut n x).utc = s.utc := rfl
@[simp] theorem State.setOut_stamps (n : Fin 64) (x : OutState) : (s.setOut n x).stamps = s.stamps := rfl
@[simp] theorem State.setOut_stampNow (n : Fin 64) (x : OutState) : (s.setOut n x).stampNow = s.stampNow := rfl
@[simp] theorem State.setOut_faults (n : Fin 64) (x : OutState) : (s.setOut n x).faults = s.faults := rfl
@[simp] theorem State.setOut_events (n : Fin 64) (x : OutState) : (s.setOut n x).events = s.events := rfl
@[simp] theorem State.setOut_evpend (n : Fin 64) (x : OutState) : (s.setOut n x).evpend = s.evpend := rfl
@[simp] theorem State.setOut_evovf (n : Fin 64) (x : OutState) : (s.setOut n x).evovf = s.evovf := rfl
@[simp] theorem State.setOut_sets (n : Fin 64) (x : OutState) : (s.setOut n x).sets = s.sets := rfl
@[simp] theorem State.setOut_wakes (n : Fin 64) (x : OutState) : (s.setOut n x).wakes = s.wakes := rfl
@[simp] theorem State.setOut_msiDue (n : Fin 64) (x : OutState) : (s.setOut n x).msiDue = s.msiDue := rfl
@[simp] theorem State.setOut_cal (n : Fin 64) (x : OutState) : (s.setOut n x).cal = s.cal := rfl
@[simp] theorem State.setOut_boot (n : Fin 64) (x : OutState) : (s.setOut n x).boot = s.boot := rfl
@[simp] theorem State.setOut_mbox (n : Fin 64) (x : OutState) : (s.setOut n x).mbox = s.mbox := rfl
@[simp] theorem State.setOut_keeper (n : Fin 64) (x : OutState) : (s.setOut n x).keeper = s.keeper := rfl
@[simp] theorem State.setOut_flash (n : Fin 64) (x : OutState) : (s.setOut n x).flash = s.flash := rfl
@[simp] theorem State.setOut_flashDirty (n : Fin 64) (x : OutState) : (s.setOut n x).flashDirty = s.flashDirty := rfl
@[simp] theorem State.setOut_clk (n : Fin 64) (x : OutState) : (s.setOut n x).clk = s.clk := rfl
@[simp] theorem State.setOut_hif (n : Fin 64) (x : OutState) : (s.setOut n x).hif = s.hif := rfl
@[simp] theorem State.setOut_sent (n : Fin 64) (x : OutState) : (s.setOut n x).sent = s.sent := rfl
@[simp] theorem State.setOut_pins (n : Fin 64) (x : OutState) : (s.setOut n x).pins = s.pins := rfl
@[simp] theorem State.setOut_engines (n : Fin 64) (x : OutState) : (s.setOut n x).engines = s.engines := rfl
@[simp] theorem State.setOut_tok (n : Fin 64) (x : OutState) : (s.setOut n x).tok = s.tok := rfl
@[simp] theorem State.setOut_grn (n : Fin 64) (x : OutState) : (s.setOut n x).grn = s.grn := rfl
@[simp] theorem State.setOut_links (n : Fin 64) (x : OutState) : (s.setOut n x).links = s.links := rfl
@[simp] theorem State.setOut_pending (n : Fin 64) (x : OutState) : (s.setOut n x).pending = s.pending := rfl
@[simp] theorem State.setOut_rd (n : Fin 64) (x : OutState) (g : Field) (idx : Nat) : (s.setOut n x).rd g idx = s.rd g idx := rfl

/-! ## setBank -/

@[simp] theorem State.setBank_now (b : Fin 8) (x : BankState) : (s.setBank b x).now = s.now := rfl
@[simp] theorem State.setBank_timebase (b : Fin 8) (x : BankState) : (s.setBank b x).timebase = s.timebase := rfl
@[simp] theorem State.setBank_tick0 (b : Fin 8) (x : BankState) : (s.setBank b x).tick0 = s.tick0 := rfl
@[simp] theorem State.setBank_tick (b : Fin 8) (x : BankState) : (s.setBank b x).tick = s.tick := rfl
@[simp] theorem State.setBank_due (b : Fin 8) (x : BankState) : (s.setBank b x).due = s.due := rfl
@[simp] theorem State.setBank_regs (b : Fin 8) (x : BankState) : (s.setBank b x).regs = s.regs := rfl
@[simp] theorem State.setBank_masters (b : Fin 8) (x : BankState) : (s.setBank b x).masters = s.masters := rfl
@[simp] theorem State.setBank_draw (b : Fin 8) (x : BankState) : (s.setBank b x).draw = s.draw := rfl
@[simp] theorem State.setBank_inputs (b : Fin 8) (x : BankState) : (s.setBank b x).inputs = s.inputs := rfl
@[simp] theorem State.setBank_xo (b : Fin 8) (x : BankState) : (s.setBank b x).xo = s.xo := rfl
@[simp] theorem State.setBank_planes (b : Fin 8) (x : BankState) : (s.setBank b x).planes = s.planes := rfl
@[simp] theorem State.setBank_aplls (b : Fin 8) (x : BankState) : (s.setBank b x).aplls = s.aplls := rfl
@[simp] theorem State.setBank_outs (b : Fin 8) (x : BankState) : (s.setBank b x).outs = s.outs := rfl
@[simp] theorem State.setBank_banks (b : Fin 8) (x : BankState) : (s.setBank b x).banks = s.banks.set b x := rfl
@[simp] theorem State.setBank_sheafs (b : Fin 8) (x : BankState) : (s.setBank b x).sheafs = s.sheafs := rfl
@[simp] theorem State.setBank_tods (b : Fin 8) (x : BankState) : (s.setBank b x).tods = s.tods := rfl
@[simp] theorem State.setBank_utc (b : Fin 8) (x : BankState) : (s.setBank b x).utc = s.utc := rfl
@[simp] theorem State.setBank_stamps (b : Fin 8) (x : BankState) : (s.setBank b x).stamps = s.stamps := rfl
@[simp] theorem State.setBank_stampNow (b : Fin 8) (x : BankState) : (s.setBank b x).stampNow = s.stampNow := rfl
@[simp] theorem State.setBank_faults (b : Fin 8) (x : BankState) : (s.setBank b x).faults = s.faults := rfl
@[simp] theorem State.setBank_events (b : Fin 8) (x : BankState) : (s.setBank b x).events = s.events := rfl
@[simp] theorem State.setBank_evpend (b : Fin 8) (x : BankState) : (s.setBank b x).evpend = s.evpend := rfl
@[simp] theorem State.setBank_evovf (b : Fin 8) (x : BankState) : (s.setBank b x).evovf = s.evovf := rfl
@[simp] theorem State.setBank_sets (b : Fin 8) (x : BankState) : (s.setBank b x).sets = s.sets := rfl
@[simp] theorem State.setBank_wakes (b : Fin 8) (x : BankState) : (s.setBank b x).wakes = s.wakes := rfl
@[simp] theorem State.setBank_msiDue (b : Fin 8) (x : BankState) : (s.setBank b x).msiDue = s.msiDue := rfl
@[simp] theorem State.setBank_cal (b : Fin 8) (x : BankState) : (s.setBank b x).cal = s.cal := rfl
@[simp] theorem State.setBank_boot (b : Fin 8) (x : BankState) : (s.setBank b x).boot = s.boot := rfl
@[simp] theorem State.setBank_mbox (b : Fin 8) (x : BankState) : (s.setBank b x).mbox = s.mbox := rfl
@[simp] theorem State.setBank_keeper (b : Fin 8) (x : BankState) : (s.setBank b x).keeper = s.keeper := rfl
@[simp] theorem State.setBank_flash (b : Fin 8) (x : BankState) : (s.setBank b x).flash = s.flash := rfl
@[simp] theorem State.setBank_flashDirty (b : Fin 8) (x : BankState) : (s.setBank b x).flashDirty = s.flashDirty := rfl
@[simp] theorem State.setBank_clk (b : Fin 8) (x : BankState) : (s.setBank b x).clk = s.clk := rfl
@[simp] theorem State.setBank_hif (b : Fin 8) (x : BankState) : (s.setBank b x).hif = s.hif := rfl
@[simp] theorem State.setBank_sent (b : Fin 8) (x : BankState) : (s.setBank b x).sent = s.sent := rfl
@[simp] theorem State.setBank_pins (b : Fin 8) (x : BankState) : (s.setBank b x).pins = s.pins := rfl
@[simp] theorem State.setBank_engines (b : Fin 8) (x : BankState) : (s.setBank b x).engines = s.engines := rfl
@[simp] theorem State.setBank_tok (b : Fin 8) (x : BankState) : (s.setBank b x).tok = s.tok := rfl
@[simp] theorem State.setBank_grn (b : Fin 8) (x : BankState) : (s.setBank b x).grn = s.grn := rfl
@[simp] theorem State.setBank_links (b : Fin 8) (x : BankState) : (s.setBank b x).links = s.links := rfl
@[simp] theorem State.setBank_pending (b : Fin 8) (x : BankState) : (s.setBank b x).pending = s.pending := rfl
@[simp] theorem State.setBank_rd (b : Fin 8) (x : BankState) (g : Field) (idx : Nat) : (s.setBank b x).rd g idx = s.rd g idx := rfl

/-! ## setSheaf -/

@[simp] theorem State.setSheaf_now (k : Fin 16) (x : Option SheafJob) : (s.setSheaf k x).now = s.now := rfl
@[simp] theorem State.setSheaf_timebase (k : Fin 16) (x : Option SheafJob) : (s.setSheaf k x).timebase = s.timebase := rfl
@[simp] theorem State.setSheaf_tick0 (k : Fin 16) (x : Option SheafJob) : (s.setSheaf k x).tick0 = s.tick0 := rfl
@[simp] theorem State.setSheaf_tick (k : Fin 16) (x : Option SheafJob) : (s.setSheaf k x).tick = s.tick := rfl
@[simp] theorem State.setSheaf_due (k : Fin 16) (x : Option SheafJob) : (s.setSheaf k x).due = s.due := rfl
@[simp] theorem State.setSheaf_regs (k : Fin 16) (x : Option SheafJob) : (s.setSheaf k x).regs = s.regs := rfl
@[simp] theorem State.setSheaf_masters (k : Fin 16) (x : Option SheafJob) : (s.setSheaf k x).masters = s.masters := rfl
@[simp] theorem State.setSheaf_draw (k : Fin 16) (x : Option SheafJob) : (s.setSheaf k x).draw = s.draw := rfl
@[simp] theorem State.setSheaf_inputs (k : Fin 16) (x : Option SheafJob) : (s.setSheaf k x).inputs = s.inputs := rfl
@[simp] theorem State.setSheaf_xo (k : Fin 16) (x : Option SheafJob) : (s.setSheaf k x).xo = s.xo := rfl
@[simp] theorem State.setSheaf_planes (k : Fin 16) (x : Option SheafJob) : (s.setSheaf k x).planes = s.planes := rfl
@[simp] theorem State.setSheaf_aplls (k : Fin 16) (x : Option SheafJob) : (s.setSheaf k x).aplls = s.aplls := rfl
@[simp] theorem State.setSheaf_outs (k : Fin 16) (x : Option SheafJob) : (s.setSheaf k x).outs = s.outs := rfl
@[simp] theorem State.setSheaf_banks (k : Fin 16) (x : Option SheafJob) : (s.setSheaf k x).banks = s.banks := rfl
@[simp] theorem State.setSheaf_sheafs (k : Fin 16) (x : Option SheafJob) : (s.setSheaf k x).sheafs = s.sheafs.set k x := rfl
@[simp] theorem State.setSheaf_tods (k : Fin 16) (x : Option SheafJob) : (s.setSheaf k x).tods = s.tods := rfl
@[simp] theorem State.setSheaf_utc (k : Fin 16) (x : Option SheafJob) : (s.setSheaf k x).utc = s.utc := rfl
@[simp] theorem State.setSheaf_stamps (k : Fin 16) (x : Option SheafJob) : (s.setSheaf k x).stamps = s.stamps := rfl
@[simp] theorem State.setSheaf_stampNow (k : Fin 16) (x : Option SheafJob) : (s.setSheaf k x).stampNow = s.stampNow := rfl
@[simp] theorem State.setSheaf_faults (k : Fin 16) (x : Option SheafJob) : (s.setSheaf k x).faults = s.faults := rfl
@[simp] theorem State.setSheaf_events (k : Fin 16) (x : Option SheafJob) : (s.setSheaf k x).events = s.events := rfl
@[simp] theorem State.setSheaf_evpend (k : Fin 16) (x : Option SheafJob) : (s.setSheaf k x).evpend = s.evpend := rfl
@[simp] theorem State.setSheaf_evovf (k : Fin 16) (x : Option SheafJob) : (s.setSheaf k x).evovf = s.evovf := rfl
@[simp] theorem State.setSheaf_sets (k : Fin 16) (x : Option SheafJob) : (s.setSheaf k x).sets = s.sets := rfl
@[simp] theorem State.setSheaf_wakes (k : Fin 16) (x : Option SheafJob) : (s.setSheaf k x).wakes = s.wakes := rfl
@[simp] theorem State.setSheaf_msiDue (k : Fin 16) (x : Option SheafJob) : (s.setSheaf k x).msiDue = s.msiDue := rfl
@[simp] theorem State.setSheaf_cal (k : Fin 16) (x : Option SheafJob) : (s.setSheaf k x).cal = s.cal := rfl
@[simp] theorem State.setSheaf_boot (k : Fin 16) (x : Option SheafJob) : (s.setSheaf k x).boot = s.boot := rfl
@[simp] theorem State.setSheaf_mbox (k : Fin 16) (x : Option SheafJob) : (s.setSheaf k x).mbox = s.mbox := rfl
@[simp] theorem State.setSheaf_keeper (k : Fin 16) (x : Option SheafJob) : (s.setSheaf k x).keeper = s.keeper := rfl
@[simp] theorem State.setSheaf_flash (k : Fin 16) (x : Option SheafJob) : (s.setSheaf k x).flash = s.flash := rfl
@[simp] theorem State.setSheaf_flashDirty (k : Fin 16) (x : Option SheafJob) : (s.setSheaf k x).flashDirty = s.flashDirty := rfl
@[simp] theorem State.setSheaf_clk (k : Fin 16) (x : Option SheafJob) : (s.setSheaf k x).clk = s.clk := rfl
@[simp] theorem State.setSheaf_hif (k : Fin 16) (x : Option SheafJob) : (s.setSheaf k x).hif = s.hif := rfl
@[simp] theorem State.setSheaf_sent (k : Fin 16) (x : Option SheafJob) : (s.setSheaf k x).sent = s.sent := rfl
@[simp] theorem State.setSheaf_pins (k : Fin 16) (x : Option SheafJob) : (s.setSheaf k x).pins = s.pins := rfl
@[simp] theorem State.setSheaf_engines (k : Fin 16) (x : Option SheafJob) : (s.setSheaf k x).engines = s.engines := rfl
@[simp] theorem State.setSheaf_tok (k : Fin 16) (x : Option SheafJob) : (s.setSheaf k x).tok = s.tok := rfl
@[simp] theorem State.setSheaf_grn (k : Fin 16) (x : Option SheafJob) : (s.setSheaf k x).grn = s.grn := rfl
@[simp] theorem State.setSheaf_links (k : Fin 16) (x : Option SheafJob) : (s.setSheaf k x).links = s.links := rfl
@[simp] theorem State.setSheaf_pending (k : Fin 16) (x : Option SheafJob) : (s.setSheaf k x).pending = s.pending := rfl
@[simp] theorem State.setSheaf_rd (k : Fin 16) (x : Option SheafJob) (g : Field) (idx : Nat) : (s.setSheaf k x).rd g idx = s.rd g idx := rfl

/-! ## setTod -/

@[simp] theorem State.setTod_now (p : Fin 4) (x : TodState) : (s.setTod p x).now = s.now := rfl
@[simp] theorem State.setTod_timebase (p : Fin 4) (x : TodState) : (s.setTod p x).timebase = s.timebase := rfl
@[simp] theorem State.setTod_tick0 (p : Fin 4) (x : TodState) : (s.setTod p x).tick0 = s.tick0 := rfl
@[simp] theorem State.setTod_tick (p : Fin 4) (x : TodState) : (s.setTod p x).tick = s.tick := rfl
@[simp] theorem State.setTod_due (p : Fin 4) (x : TodState) : (s.setTod p x).due = s.due := rfl
@[simp] theorem State.setTod_regs (p : Fin 4) (x : TodState) : (s.setTod p x).regs = s.regs := rfl
@[simp] theorem State.setTod_masters (p : Fin 4) (x : TodState) : (s.setTod p x).masters = s.masters := rfl
@[simp] theorem State.setTod_draw (p : Fin 4) (x : TodState) : (s.setTod p x).draw = s.draw := rfl
@[simp] theorem State.setTod_inputs (p : Fin 4) (x : TodState) : (s.setTod p x).inputs = s.inputs := rfl
@[simp] theorem State.setTod_xo (p : Fin 4) (x : TodState) : (s.setTod p x).xo = s.xo := rfl
@[simp] theorem State.setTod_planes (p : Fin 4) (x : TodState) : (s.setTod p x).planes = s.planes := rfl
@[simp] theorem State.setTod_aplls (p : Fin 4) (x : TodState) : (s.setTod p x).aplls = s.aplls := rfl
@[simp] theorem State.setTod_outs (p : Fin 4) (x : TodState) : (s.setTod p x).outs = s.outs := rfl
@[simp] theorem State.setTod_banks (p : Fin 4) (x : TodState) : (s.setTod p x).banks = s.banks := rfl
@[simp] theorem State.setTod_sheafs (p : Fin 4) (x : TodState) : (s.setTod p x).sheafs = s.sheafs := rfl
@[simp] theorem State.setTod_tods (p : Fin 4) (x : TodState) : (s.setTod p x).tods = s.tods.set p x := rfl
@[simp] theorem State.setTod_utc (p : Fin 4) (x : TodState) : (s.setTod p x).utc = s.utc := rfl
@[simp] theorem State.setTod_stamps (p : Fin 4) (x : TodState) : (s.setTod p x).stamps = s.stamps := rfl
@[simp] theorem State.setTod_stampNow (p : Fin 4) (x : TodState) : (s.setTod p x).stampNow = s.stampNow := rfl
@[simp] theorem State.setTod_faults (p : Fin 4) (x : TodState) : (s.setTod p x).faults = s.faults := rfl
@[simp] theorem State.setTod_events (p : Fin 4) (x : TodState) : (s.setTod p x).events = s.events := rfl
@[simp] theorem State.setTod_evpend (p : Fin 4) (x : TodState) : (s.setTod p x).evpend = s.evpend := rfl
@[simp] theorem State.setTod_evovf (p : Fin 4) (x : TodState) : (s.setTod p x).evovf = s.evovf := rfl
@[simp] theorem State.setTod_sets (p : Fin 4) (x : TodState) : (s.setTod p x).sets = s.sets := rfl
@[simp] theorem State.setTod_wakes (p : Fin 4) (x : TodState) : (s.setTod p x).wakes = s.wakes := rfl
@[simp] theorem State.setTod_msiDue (p : Fin 4) (x : TodState) : (s.setTod p x).msiDue = s.msiDue := rfl
@[simp] theorem State.setTod_cal (p : Fin 4) (x : TodState) : (s.setTod p x).cal = s.cal := rfl
@[simp] theorem State.setTod_boot (p : Fin 4) (x : TodState) : (s.setTod p x).boot = s.boot := rfl
@[simp] theorem State.setTod_mbox (p : Fin 4) (x : TodState) : (s.setTod p x).mbox = s.mbox := rfl
@[simp] theorem State.setTod_keeper (p : Fin 4) (x : TodState) : (s.setTod p x).keeper = s.keeper := rfl
@[simp] theorem State.setTod_flash (p : Fin 4) (x : TodState) : (s.setTod p x).flash = s.flash := rfl
@[simp] theorem State.setTod_flashDirty (p : Fin 4) (x : TodState) : (s.setTod p x).flashDirty = s.flashDirty := rfl
@[simp] theorem State.setTod_clk (p : Fin 4) (x : TodState) : (s.setTod p x).clk = s.clk := rfl
@[simp] theorem State.setTod_hif (p : Fin 4) (x : TodState) : (s.setTod p x).hif = s.hif := rfl
@[simp] theorem State.setTod_sent (p : Fin 4) (x : TodState) : (s.setTod p x).sent = s.sent := rfl
@[simp] theorem State.setTod_pins (p : Fin 4) (x : TodState) : (s.setTod p x).pins = s.pins := rfl
@[simp] theorem State.setTod_engines (p : Fin 4) (x : TodState) : (s.setTod p x).engines = s.engines := rfl
@[simp] theorem State.setTod_tok (p : Fin 4) (x : TodState) : (s.setTod p x).tok = s.tok := rfl
@[simp] theorem State.setTod_grn (p : Fin 4) (x : TodState) : (s.setTod p x).grn = s.grn := rfl
@[simp] theorem State.setTod_links (p : Fin 4) (x : TodState) : (s.setTod p x).links = s.links := rfl
@[simp] theorem State.setTod_pending (p : Fin 4) (x : TodState) : (s.setTod p x).pending = s.pending := rfl
@[simp] theorem State.setTod_rd (p : Fin 4) (x : TodState) (g : Field) (idx : Nat) : (s.setTod p x).rd g idx = s.rd g idx := rfl

/-! ## setStamp -/

@[simp] theorem State.setStamp_now (j : Fin 16) (x : StampState) : (s.setStamp j x).now = s.now := rfl
@[simp] theorem State.setStamp_timebase (j : Fin 16) (x : StampState) : (s.setStamp j x).timebase = s.timebase := rfl
@[simp] theorem State.setStamp_tick0 (j : Fin 16) (x : StampState) : (s.setStamp j x).tick0 = s.tick0 := rfl
@[simp] theorem State.setStamp_tick (j : Fin 16) (x : StampState) : (s.setStamp j x).tick = s.tick := rfl
@[simp] theorem State.setStamp_due (j : Fin 16) (x : StampState) : (s.setStamp j x).due = s.due := rfl
@[simp] theorem State.setStamp_regs (j : Fin 16) (x : StampState) : (s.setStamp j x).regs = s.regs := rfl
@[simp] theorem State.setStamp_masters (j : Fin 16) (x : StampState) : (s.setStamp j x).masters = s.masters := rfl
@[simp] theorem State.setStamp_draw (j : Fin 16) (x : StampState) : (s.setStamp j x).draw = s.draw := rfl
@[simp] theorem State.setStamp_inputs (j : Fin 16) (x : StampState) : (s.setStamp j x).inputs = s.inputs := rfl
@[simp] theorem State.setStamp_xo (j : Fin 16) (x : StampState) : (s.setStamp j x).xo = s.xo := rfl
@[simp] theorem State.setStamp_planes (j : Fin 16) (x : StampState) : (s.setStamp j x).planes = s.planes := rfl
@[simp] theorem State.setStamp_aplls (j : Fin 16) (x : StampState) : (s.setStamp j x).aplls = s.aplls := rfl
@[simp] theorem State.setStamp_outs (j : Fin 16) (x : StampState) : (s.setStamp j x).outs = s.outs := rfl
@[simp] theorem State.setStamp_banks (j : Fin 16) (x : StampState) : (s.setStamp j x).banks = s.banks := rfl
@[simp] theorem State.setStamp_sheafs (j : Fin 16) (x : StampState) : (s.setStamp j x).sheafs = s.sheafs := rfl
@[simp] theorem State.setStamp_tods (j : Fin 16) (x : StampState) : (s.setStamp j x).tods = s.tods := rfl
@[simp] theorem State.setStamp_utc (j : Fin 16) (x : StampState) : (s.setStamp j x).utc = s.utc := rfl
@[simp] theorem State.setStamp_stamps (j : Fin 16) (x : StampState) : (s.setStamp j x).stamps = s.stamps.set j x := rfl
@[simp] theorem State.setStamp_stampNow (j : Fin 16) (x : StampState) : (s.setStamp j x).stampNow = s.stampNow := rfl
@[simp] theorem State.setStamp_faults (j : Fin 16) (x : StampState) : (s.setStamp j x).faults = s.faults := rfl
@[simp] theorem State.setStamp_events (j : Fin 16) (x : StampState) : (s.setStamp j x).events = s.events := rfl
@[simp] theorem State.setStamp_evpend (j : Fin 16) (x : StampState) : (s.setStamp j x).evpend = s.evpend := rfl
@[simp] theorem State.setStamp_evovf (j : Fin 16) (x : StampState) : (s.setStamp j x).evovf = s.evovf := rfl
@[simp] theorem State.setStamp_sets (j : Fin 16) (x : StampState) : (s.setStamp j x).sets = s.sets := rfl
@[simp] theorem State.setStamp_wakes (j : Fin 16) (x : StampState) : (s.setStamp j x).wakes = s.wakes := rfl
@[simp] theorem State.setStamp_msiDue (j : Fin 16) (x : StampState) : (s.setStamp j x).msiDue = s.msiDue := rfl
@[simp] theorem State.setStamp_cal (j : Fin 16) (x : StampState) : (s.setStamp j x).cal = s.cal := rfl
@[simp] theorem State.setStamp_boot (j : Fin 16) (x : StampState) : (s.setStamp j x).boot = s.boot := rfl
@[simp] theorem State.setStamp_mbox (j : Fin 16) (x : StampState) : (s.setStamp j x).mbox = s.mbox := rfl
@[simp] theorem State.setStamp_keeper (j : Fin 16) (x : StampState) : (s.setStamp j x).keeper = s.keeper := rfl
@[simp] theorem State.setStamp_flash (j : Fin 16) (x : StampState) : (s.setStamp j x).flash = s.flash := rfl
@[simp] theorem State.setStamp_flashDirty (j : Fin 16) (x : StampState) : (s.setStamp j x).flashDirty = s.flashDirty := rfl
@[simp] theorem State.setStamp_clk (j : Fin 16) (x : StampState) : (s.setStamp j x).clk = s.clk := rfl
@[simp] theorem State.setStamp_hif (j : Fin 16) (x : StampState) : (s.setStamp j x).hif = s.hif := rfl
@[simp] theorem State.setStamp_sent (j : Fin 16) (x : StampState) : (s.setStamp j x).sent = s.sent := rfl
@[simp] theorem State.setStamp_pins (j : Fin 16) (x : StampState) : (s.setStamp j x).pins = s.pins := rfl
@[simp] theorem State.setStamp_engines (j : Fin 16) (x : StampState) : (s.setStamp j x).engines = s.engines := rfl
@[simp] theorem State.setStamp_tok (j : Fin 16) (x : StampState) : (s.setStamp j x).tok = s.tok := rfl
@[simp] theorem State.setStamp_grn (j : Fin 16) (x : StampState) : (s.setStamp j x).grn = s.grn := rfl
@[simp] theorem State.setStamp_links (j : Fin 16) (x : StampState) : (s.setStamp j x).links = s.links := rfl
@[simp] theorem State.setStamp_pending (j : Fin 16) (x : StampState) : (s.setStamp j x).pending = s.pending := rfl
@[simp] theorem State.setStamp_rd (j : Fin 16) (x : StampState) (g : Field) (idx : Nat) : (s.setStamp j x).rd g idx = s.rd g idx := rfl

/-! ## setLink -/

@[simp] theorem State.setLink_now (n : Fin 4) (x : LinkState) : (s.setLink n x).now = s.now := rfl
@[simp] theorem State.setLink_timebase (n : Fin 4) (x : LinkState) : (s.setLink n x).timebase = s.timebase := rfl
@[simp] theorem State.setLink_tick0 (n : Fin 4) (x : LinkState) : (s.setLink n x).tick0 = s.tick0 := rfl
@[simp] theorem State.setLink_tick (n : Fin 4) (x : LinkState) : (s.setLink n x).tick = s.tick := rfl
@[simp] theorem State.setLink_due (n : Fin 4) (x : LinkState) : (s.setLink n x).due = s.due := rfl
@[simp] theorem State.setLink_regs (n : Fin 4) (x : LinkState) : (s.setLink n x).regs = s.regs := rfl
@[simp] theorem State.setLink_masters (n : Fin 4) (x : LinkState) : (s.setLink n x).masters = s.masters := rfl
@[simp] theorem State.setLink_draw (n : Fin 4) (x : LinkState) : (s.setLink n x).draw = s.draw := rfl
@[simp] theorem State.setLink_inputs (n : Fin 4) (x : LinkState) : (s.setLink n x).inputs = s.inputs := rfl
@[simp] theorem State.setLink_xo (n : Fin 4) (x : LinkState) : (s.setLink n x).xo = s.xo := rfl
@[simp] theorem State.setLink_planes (n : Fin 4) (x : LinkState) : (s.setLink n x).planes = s.planes := rfl
@[simp] theorem State.setLink_aplls (n : Fin 4) (x : LinkState) : (s.setLink n x).aplls = s.aplls := rfl
@[simp] theorem State.setLink_outs (n : Fin 4) (x : LinkState) : (s.setLink n x).outs = s.outs := rfl
@[simp] theorem State.setLink_banks (n : Fin 4) (x : LinkState) : (s.setLink n x).banks = s.banks := rfl
@[simp] theorem State.setLink_sheafs (n : Fin 4) (x : LinkState) : (s.setLink n x).sheafs = s.sheafs := rfl
@[simp] theorem State.setLink_tods (n : Fin 4) (x : LinkState) : (s.setLink n x).tods = s.tods := rfl
@[simp] theorem State.setLink_utc (n : Fin 4) (x : LinkState) : (s.setLink n x).utc = s.utc := rfl
@[simp] theorem State.setLink_stamps (n : Fin 4) (x : LinkState) : (s.setLink n x).stamps = s.stamps := rfl
@[simp] theorem State.setLink_stampNow (n : Fin 4) (x : LinkState) : (s.setLink n x).stampNow = s.stampNow := rfl
@[simp] theorem State.setLink_faults (n : Fin 4) (x : LinkState) : (s.setLink n x).faults = s.faults := rfl
@[simp] theorem State.setLink_events (n : Fin 4) (x : LinkState) : (s.setLink n x).events = s.events := rfl
@[simp] theorem State.setLink_evpend (n : Fin 4) (x : LinkState) : (s.setLink n x).evpend = s.evpend := rfl
@[simp] theorem State.setLink_evovf (n : Fin 4) (x : LinkState) : (s.setLink n x).evovf = s.evovf := rfl
@[simp] theorem State.setLink_sets (n : Fin 4) (x : LinkState) : (s.setLink n x).sets = s.sets := rfl
@[simp] theorem State.setLink_wakes (n : Fin 4) (x : LinkState) : (s.setLink n x).wakes = s.wakes := rfl
@[simp] theorem State.setLink_msiDue (n : Fin 4) (x : LinkState) : (s.setLink n x).msiDue = s.msiDue := rfl
@[simp] theorem State.setLink_cal (n : Fin 4) (x : LinkState) : (s.setLink n x).cal = s.cal := rfl
@[simp] theorem State.setLink_boot (n : Fin 4) (x : LinkState) : (s.setLink n x).boot = s.boot := rfl
@[simp] theorem State.setLink_mbox (n : Fin 4) (x : LinkState) : (s.setLink n x).mbox = s.mbox := rfl
@[simp] theorem State.setLink_keeper (n : Fin 4) (x : LinkState) : (s.setLink n x).keeper = s.keeper := rfl
@[simp] theorem State.setLink_flash (n : Fin 4) (x : LinkState) : (s.setLink n x).flash = s.flash := rfl
@[simp] theorem State.setLink_flashDirty (n : Fin 4) (x : LinkState) : (s.setLink n x).flashDirty = s.flashDirty := rfl
@[simp] theorem State.setLink_clk (n : Fin 4) (x : LinkState) : (s.setLink n x).clk = s.clk := rfl
@[simp] theorem State.setLink_hif (n : Fin 4) (x : LinkState) : (s.setLink n x).hif = s.hif := rfl
@[simp] theorem State.setLink_sent (n : Fin 4) (x : LinkState) : (s.setLink n x).sent = s.sent := rfl
@[simp] theorem State.setLink_pins (n : Fin 4) (x : LinkState) : (s.setLink n x).pins = s.pins := rfl
@[simp] theorem State.setLink_engines (n : Fin 4) (x : LinkState) : (s.setLink n x).engines = s.engines := rfl
@[simp] theorem State.setLink_tok (n : Fin 4) (x : LinkState) : (s.setLink n x).tok = s.tok := rfl
@[simp] theorem State.setLink_grn (n : Fin 4) (x : LinkState) : (s.setLink n x).grn = s.grn := rfl
@[simp] theorem State.setLink_links (n : Fin 4) (x : LinkState) : (s.setLink n x).links = s.links.set n x := rfl
@[simp] theorem State.setLink_pending (n : Fin 4) (x : LinkState) : (s.setLink n x).pending = s.pending := rfl
@[simp] theorem State.setLink_rd (n : Fin 4) (x : LinkState) (g : Field) (idx : Nat) : (s.setLink n x).rd g idx = s.rd g idx := rfl

/-! ## setMaster -/

@[simp] theorem State.setMaster_now (m : Master) (x : MasterState) : (s.setMaster m x).now = s.now := rfl
@[simp] theorem State.setMaster_timebase (m : Master) (x : MasterState) : (s.setMaster m x).timebase = s.timebase := rfl
@[simp] theorem State.setMaster_tick0 (m : Master) (x : MasterState) : (s.setMaster m x).tick0 = s.tick0 := rfl
@[simp] theorem State.setMaster_tick (m : Master) (x : MasterState) : (s.setMaster m x).tick = s.tick := rfl
@[simp] theorem State.setMaster_due (m : Master) (x : MasterState) : (s.setMaster m x).due = s.due := rfl
@[simp] theorem State.setMaster_regs (m : Master) (x : MasterState) : (s.setMaster m x).regs = s.regs := rfl
@[simp] theorem State.setMaster_masters (m : Master) (x : MasterState) : (s.setMaster m x).masters = s.masters.set m.id x := rfl
@[simp] theorem State.setMaster_draw (m : Master) (x : MasterState) : (s.setMaster m x).draw = s.draw := rfl
@[simp] theorem State.setMaster_inputs (m : Master) (x : MasterState) : (s.setMaster m x).inputs = s.inputs := rfl
@[simp] theorem State.setMaster_xo (m : Master) (x : MasterState) : (s.setMaster m x).xo = s.xo := rfl
@[simp] theorem State.setMaster_planes (m : Master) (x : MasterState) : (s.setMaster m x).planes = s.planes := rfl
@[simp] theorem State.setMaster_aplls (m : Master) (x : MasterState) : (s.setMaster m x).aplls = s.aplls := rfl
@[simp] theorem State.setMaster_outs (m : Master) (x : MasterState) : (s.setMaster m x).outs = s.outs := rfl
@[simp] theorem State.setMaster_banks (m : Master) (x : MasterState) : (s.setMaster m x).banks = s.banks := rfl
@[simp] theorem State.setMaster_sheafs (m : Master) (x : MasterState) : (s.setMaster m x).sheafs = s.sheafs := rfl
@[simp] theorem State.setMaster_tods (m : Master) (x : MasterState) : (s.setMaster m x).tods = s.tods := rfl
@[simp] theorem State.setMaster_utc (m : Master) (x : MasterState) : (s.setMaster m x).utc = s.utc := rfl
@[simp] theorem State.setMaster_stamps (m : Master) (x : MasterState) : (s.setMaster m x).stamps = s.stamps := rfl
@[simp] theorem State.setMaster_stampNow (m : Master) (x : MasterState) : (s.setMaster m x).stampNow = s.stampNow := rfl
@[simp] theorem State.setMaster_faults (m : Master) (x : MasterState) : (s.setMaster m x).faults = s.faults := rfl
@[simp] theorem State.setMaster_events (m : Master) (x : MasterState) : (s.setMaster m x).events = s.events := rfl
@[simp] theorem State.setMaster_evpend (m : Master) (x : MasterState) : (s.setMaster m x).evpend = s.evpend := rfl
@[simp] theorem State.setMaster_evovf (m : Master) (x : MasterState) : (s.setMaster m x).evovf = s.evovf := rfl
@[simp] theorem State.setMaster_sets (m : Master) (x : MasterState) : (s.setMaster m x).sets = s.sets := rfl
@[simp] theorem State.setMaster_wakes (m : Master) (x : MasterState) : (s.setMaster m x).wakes = s.wakes := rfl
@[simp] theorem State.setMaster_msiDue (m : Master) (x : MasterState) : (s.setMaster m x).msiDue = s.msiDue := rfl
@[simp] theorem State.setMaster_cal (m : Master) (x : MasterState) : (s.setMaster m x).cal = s.cal := rfl
@[simp] theorem State.setMaster_boot (m : Master) (x : MasterState) : (s.setMaster m x).boot = s.boot := rfl
@[simp] theorem State.setMaster_mbox (m : Master) (x : MasterState) : (s.setMaster m x).mbox = s.mbox := rfl
@[simp] theorem State.setMaster_keeper (m : Master) (x : MasterState) : (s.setMaster m x).keeper = s.keeper := rfl
@[simp] theorem State.setMaster_flash (m : Master) (x : MasterState) : (s.setMaster m x).flash = s.flash := rfl
@[simp] theorem State.setMaster_flashDirty (m : Master) (x : MasterState) : (s.setMaster m x).flashDirty = s.flashDirty := rfl
@[simp] theorem State.setMaster_clk (m : Master) (x : MasterState) : (s.setMaster m x).clk = s.clk := rfl
@[simp] theorem State.setMaster_hif (m : Master) (x : MasterState) : (s.setMaster m x).hif = s.hif := rfl
@[simp] theorem State.setMaster_sent (m : Master) (x : MasterState) : (s.setMaster m x).sent = s.sent := rfl
@[simp] theorem State.setMaster_pins (m : Master) (x : MasterState) : (s.setMaster m x).pins = s.pins := rfl
@[simp] theorem State.setMaster_engines (m : Master) (x : MasterState) : (s.setMaster m x).engines = s.engines := rfl
@[simp] theorem State.setMaster_tok (m : Master) (x : MasterState) : (s.setMaster m x).tok = s.tok := rfl
@[simp] theorem State.setMaster_grn (m : Master) (x : MasterState) : (s.setMaster m x).grn = s.grn := rfl
@[simp] theorem State.setMaster_links (m : Master) (x : MasterState) : (s.setMaster m x).links = s.links := rfl
@[simp] theorem State.setMaster_pending (m : Master) (x : MasterState) : (s.setMaster m x).pending = s.pending := rfl
@[simp] theorem State.setMaster_rd (m : Master) (x : MasterState) (g : Field) (idx : Nat) : (s.setMaster m x).rd g idx = s.rd g idx := rfl

/-! ## setMbox -/

@[simp] theorem State.setMbox_now (n : Fin 16) (x : Mailbox) : (s.setMbox n x).now = s.now := rfl
@[simp] theorem State.setMbox_timebase (n : Fin 16) (x : Mailbox) : (s.setMbox n x).timebase = s.timebase := rfl
@[simp] theorem State.setMbox_tick0 (n : Fin 16) (x : Mailbox) : (s.setMbox n x).tick0 = s.tick0 := rfl
@[simp] theorem State.setMbox_tick (n : Fin 16) (x : Mailbox) : (s.setMbox n x).tick = s.tick := rfl
@[simp] theorem State.setMbox_due (n : Fin 16) (x : Mailbox) : (s.setMbox n x).due = s.due := rfl
@[simp] theorem State.setMbox_regs (n : Fin 16) (x : Mailbox) : (s.setMbox n x).regs = s.regs := rfl
@[simp] theorem State.setMbox_masters (n : Fin 16) (x : Mailbox) : (s.setMbox n x).masters = s.masters := rfl
@[simp] theorem State.setMbox_draw (n : Fin 16) (x : Mailbox) : (s.setMbox n x).draw = s.draw := rfl
@[simp] theorem State.setMbox_inputs (n : Fin 16) (x : Mailbox) : (s.setMbox n x).inputs = s.inputs := rfl
@[simp] theorem State.setMbox_xo (n : Fin 16) (x : Mailbox) : (s.setMbox n x).xo = s.xo := rfl
@[simp] theorem State.setMbox_planes (n : Fin 16) (x : Mailbox) : (s.setMbox n x).planes = s.planes := rfl
@[simp] theorem State.setMbox_aplls (n : Fin 16) (x : Mailbox) : (s.setMbox n x).aplls = s.aplls := rfl
@[simp] theorem State.setMbox_outs (n : Fin 16) (x : Mailbox) : (s.setMbox n x).outs = s.outs := rfl
@[simp] theorem State.setMbox_banks (n : Fin 16) (x : Mailbox) : (s.setMbox n x).banks = s.banks := rfl
@[simp] theorem State.setMbox_sheafs (n : Fin 16) (x : Mailbox) : (s.setMbox n x).sheafs = s.sheafs := rfl
@[simp] theorem State.setMbox_tods (n : Fin 16) (x : Mailbox) : (s.setMbox n x).tods = s.tods := rfl
@[simp] theorem State.setMbox_utc (n : Fin 16) (x : Mailbox) : (s.setMbox n x).utc = s.utc := rfl
@[simp] theorem State.setMbox_stamps (n : Fin 16) (x : Mailbox) : (s.setMbox n x).stamps = s.stamps := rfl
@[simp] theorem State.setMbox_stampNow (n : Fin 16) (x : Mailbox) : (s.setMbox n x).stampNow = s.stampNow := rfl
@[simp] theorem State.setMbox_faults (n : Fin 16) (x : Mailbox) : (s.setMbox n x).faults = s.faults := rfl
@[simp] theorem State.setMbox_events (n : Fin 16) (x : Mailbox) : (s.setMbox n x).events = s.events := rfl
@[simp] theorem State.setMbox_evpend (n : Fin 16) (x : Mailbox) : (s.setMbox n x).evpend = s.evpend := rfl
@[simp] theorem State.setMbox_evovf (n : Fin 16) (x : Mailbox) : (s.setMbox n x).evovf = s.evovf := rfl
@[simp] theorem State.setMbox_sets (n : Fin 16) (x : Mailbox) : (s.setMbox n x).sets = s.sets := rfl
@[simp] theorem State.setMbox_wakes (n : Fin 16) (x : Mailbox) : (s.setMbox n x).wakes = s.wakes := rfl
@[simp] theorem State.setMbox_msiDue (n : Fin 16) (x : Mailbox) : (s.setMbox n x).msiDue = s.msiDue := rfl
@[simp] theorem State.setMbox_cal (n : Fin 16) (x : Mailbox) : (s.setMbox n x).cal = s.cal := rfl
@[simp] theorem State.setMbox_boot (n : Fin 16) (x : Mailbox) : (s.setMbox n x).boot = s.boot := rfl
@[simp] theorem State.setMbox_mbox (n : Fin 16) (x : Mailbox) : (s.setMbox n x).mbox = s.mbox.set n x := rfl
@[simp] theorem State.setMbox_keeper (n : Fin 16) (x : Mailbox) : (s.setMbox n x).keeper = s.keeper := rfl
@[simp] theorem State.setMbox_flash (n : Fin 16) (x : Mailbox) : (s.setMbox n x).flash = s.flash := rfl
@[simp] theorem State.setMbox_flashDirty (n : Fin 16) (x : Mailbox) : (s.setMbox n x).flashDirty = s.flashDirty := rfl
@[simp] theorem State.setMbox_clk (n : Fin 16) (x : Mailbox) : (s.setMbox n x).clk = s.clk := rfl
@[simp] theorem State.setMbox_hif (n : Fin 16) (x : Mailbox) : (s.setMbox n x).hif = s.hif := rfl
@[simp] theorem State.setMbox_sent (n : Fin 16) (x : Mailbox) : (s.setMbox n x).sent = s.sent := rfl
@[simp] theorem State.setMbox_pins (n : Fin 16) (x : Mailbox) : (s.setMbox n x).pins = s.pins := rfl
@[simp] theorem State.setMbox_engines (n : Fin 16) (x : Mailbox) : (s.setMbox n x).engines = s.engines := rfl
@[simp] theorem State.setMbox_tok (n : Fin 16) (x : Mailbox) : (s.setMbox n x).tok = s.tok := rfl
@[simp] theorem State.setMbox_grn (n : Fin 16) (x : Mailbox) : (s.setMbox n x).grn = s.grn := rfl
@[simp] theorem State.setMbox_links (n : Fin 16) (x : Mailbox) : (s.setMbox n x).links = s.links := rfl
@[simp] theorem State.setMbox_pending (n : Fin 16) (x : Mailbox) : (s.setMbox n x).pending = s.pending := rfl
@[simp] theorem State.setMbox_rd (n : Fin 16) (x : Mailbox) (g : Field) (idx : Nat) : (s.setMbox n x).rd g idx = s.rd g idx := rfl

/-! ## setYe -/

@[simp] theorem State.setYe_now (e : Fin 4) (x : Engine) : (s.setYe e x).now = s.now := rfl
@[simp] theorem State.setYe_timebase (e : Fin 4) (x : Engine) : (s.setYe e x).timebase = s.timebase := rfl
@[simp] theorem State.setYe_tick0 (e : Fin 4) (x : Engine) : (s.setYe e x).tick0 = s.tick0 := rfl
@[simp] theorem State.setYe_tick (e : Fin 4) (x : Engine) : (s.setYe e x).tick = s.tick := rfl
@[simp] theorem State.setYe_due (e : Fin 4) (x : Engine) : (s.setYe e x).due = s.due := rfl
@[simp] theorem State.setYe_regs (e : Fin 4) (x : Engine) : (s.setYe e x).regs = s.regs := rfl
@[simp] theorem State.setYe_masters (e : Fin 4) (x : Engine) : (s.setYe e x).masters = s.masters := rfl
@[simp] theorem State.setYe_draw (e : Fin 4) (x : Engine) : (s.setYe e x).draw = s.draw := rfl
@[simp] theorem State.setYe_inputs (e : Fin 4) (x : Engine) : (s.setYe e x).inputs = s.inputs := rfl
@[simp] theorem State.setYe_xo (e : Fin 4) (x : Engine) : (s.setYe e x).xo = s.xo := rfl
@[simp] theorem State.setYe_planes (e : Fin 4) (x : Engine) : (s.setYe e x).planes = s.planes := rfl
@[simp] theorem State.setYe_aplls (e : Fin 4) (x : Engine) : (s.setYe e x).aplls = s.aplls := rfl
@[simp] theorem State.setYe_outs (e : Fin 4) (x : Engine) : (s.setYe e x).outs = s.outs := rfl
@[simp] theorem State.setYe_banks (e : Fin 4) (x : Engine) : (s.setYe e x).banks = s.banks := rfl
@[simp] theorem State.setYe_sheafs (e : Fin 4) (x : Engine) : (s.setYe e x).sheafs = s.sheafs := rfl
@[simp] theorem State.setYe_tods (e : Fin 4) (x : Engine) : (s.setYe e x).tods = s.tods := rfl
@[simp] theorem State.setYe_utc (e : Fin 4) (x : Engine) : (s.setYe e x).utc = s.utc := rfl
@[simp] theorem State.setYe_stamps (e : Fin 4) (x : Engine) : (s.setYe e x).stamps = s.stamps := rfl
@[simp] theorem State.setYe_stampNow (e : Fin 4) (x : Engine) : (s.setYe e x).stampNow = s.stampNow := rfl
@[simp] theorem State.setYe_faults (e : Fin 4) (x : Engine) : (s.setYe e x).faults = s.faults := rfl
@[simp] theorem State.setYe_events (e : Fin 4) (x : Engine) : (s.setYe e x).events = s.events := rfl
@[simp] theorem State.setYe_evpend (e : Fin 4) (x : Engine) : (s.setYe e x).evpend = s.evpend := rfl
@[simp] theorem State.setYe_evovf (e : Fin 4) (x : Engine) : (s.setYe e x).evovf = s.evovf := rfl
@[simp] theorem State.setYe_sets (e : Fin 4) (x : Engine) : (s.setYe e x).sets = s.sets := rfl
@[simp] theorem State.setYe_wakes (e : Fin 4) (x : Engine) : (s.setYe e x).wakes = s.wakes := rfl
@[simp] theorem State.setYe_msiDue (e : Fin 4) (x : Engine) : (s.setYe e x).msiDue = s.msiDue := rfl
@[simp] theorem State.setYe_cal (e : Fin 4) (x : Engine) : (s.setYe e x).cal = s.cal := rfl
@[simp] theorem State.setYe_boot (e : Fin 4) (x : Engine) : (s.setYe e x).boot = s.boot := rfl
@[simp] theorem State.setYe_mbox (e : Fin 4) (x : Engine) : (s.setYe e x).mbox = s.mbox := rfl
@[simp] theorem State.setYe_keeper (e : Fin 4) (x : Engine) : (s.setYe e x).keeper = s.keeper := rfl
@[simp] theorem State.setYe_flash (e : Fin 4) (x : Engine) : (s.setYe e x).flash = s.flash := rfl
@[simp] theorem State.setYe_flashDirty (e : Fin 4) (x : Engine) : (s.setYe e x).flashDirty = s.flashDirty := rfl
@[simp] theorem State.setYe_clk (e : Fin 4) (x : Engine) : (s.setYe e x).clk = s.clk := rfl
@[simp] theorem State.setYe_hif (e : Fin 4) (x : Engine) : (s.setYe e x).hif = s.hif := rfl
@[simp] theorem State.setYe_sent (e : Fin 4) (x : Engine) : (s.setYe e x).sent = s.sent := rfl
@[simp] theorem State.setYe_pins (e : Fin 4) (x : Engine) : (s.setYe e x).pins = s.pins := rfl
@[simp] theorem State.setYe_engines (e : Fin 4) (x : Engine) : (s.setYe e x).engines = s.engines.set e x := rfl
@[simp] theorem State.setYe_tok (e : Fin 4) (x : Engine) : (s.setYe e x).tok = s.tok := rfl
@[simp] theorem State.setYe_grn (e : Fin 4) (x : Engine) : (s.setYe e x).grn = s.grn := rfl
@[simp] theorem State.setYe_links (e : Fin 4) (x : Engine) : (s.setYe e x).links = s.links := rfl
@[simp] theorem State.setYe_pending (e : Fin 4) (x : Engine) : (s.setYe e x).pending = s.pending := rfl
@[simp] theorem State.setYe_rd (e : Fin 4) (x : Engine) (g : Field) (idx : Nat) : (s.setYe e x).rd g idx = s.rd g idx := rfl

/-! ## setTok -/

@[simp] theorem State.setTok_now (x : TokState) : (s.setTok x).now = s.now := rfl
@[simp] theorem State.setTok_timebase (x : TokState) : (s.setTok x).timebase = s.timebase := rfl
@[simp] theorem State.setTok_tick0 (x : TokState) : (s.setTok x).tick0 = s.tick0 := rfl
@[simp] theorem State.setTok_tick (x : TokState) : (s.setTok x).tick = s.tick := rfl
@[simp] theorem State.setTok_due (x : TokState) : (s.setTok x).due = s.due := rfl
@[simp] theorem State.setTok_regs (x : TokState) : (s.setTok x).regs = s.regs := rfl
@[simp] theorem State.setTok_masters (x : TokState) : (s.setTok x).masters = s.masters := rfl
@[simp] theorem State.setTok_draw (x : TokState) : (s.setTok x).draw = s.draw := rfl
@[simp] theorem State.setTok_inputs (x : TokState) : (s.setTok x).inputs = s.inputs := rfl
@[simp] theorem State.setTok_xo (x : TokState) : (s.setTok x).xo = s.xo := rfl
@[simp] theorem State.setTok_planes (x : TokState) : (s.setTok x).planes = s.planes := rfl
@[simp] theorem State.setTok_aplls (x : TokState) : (s.setTok x).aplls = s.aplls := rfl
@[simp] theorem State.setTok_outs (x : TokState) : (s.setTok x).outs = s.outs := rfl
@[simp] theorem State.setTok_banks (x : TokState) : (s.setTok x).banks = s.banks := rfl
@[simp] theorem State.setTok_sheafs (x : TokState) : (s.setTok x).sheafs = s.sheafs := rfl
@[simp] theorem State.setTok_tods (x : TokState) : (s.setTok x).tods = s.tods := rfl
@[simp] theorem State.setTok_utc (x : TokState) : (s.setTok x).utc = s.utc := rfl
@[simp] theorem State.setTok_stamps (x : TokState) : (s.setTok x).stamps = s.stamps := rfl
@[simp] theorem State.setTok_stampNow (x : TokState) : (s.setTok x).stampNow = s.stampNow := rfl
@[simp] theorem State.setTok_faults (x : TokState) : (s.setTok x).faults = s.faults := rfl
@[simp] theorem State.setTok_events (x : TokState) : (s.setTok x).events = s.events := rfl
@[simp] theorem State.setTok_evpend (x : TokState) : (s.setTok x).evpend = s.evpend := rfl
@[simp] theorem State.setTok_evovf (x : TokState) : (s.setTok x).evovf = s.evovf := rfl
@[simp] theorem State.setTok_sets (x : TokState) : (s.setTok x).sets = s.sets := rfl
@[simp] theorem State.setTok_wakes (x : TokState) : (s.setTok x).wakes = s.wakes := rfl
@[simp] theorem State.setTok_msiDue (x : TokState) : (s.setTok x).msiDue = s.msiDue := rfl
@[simp] theorem State.setTok_cal (x : TokState) : (s.setTok x).cal = s.cal := rfl
@[simp] theorem State.setTok_boot (x : TokState) : (s.setTok x).boot = s.boot := rfl
@[simp] theorem State.setTok_mbox (x : TokState) : (s.setTok x).mbox = s.mbox := rfl
@[simp] theorem State.setTok_keeper (x : TokState) : (s.setTok x).keeper = s.keeper := rfl
@[simp] theorem State.setTok_flash (x : TokState) : (s.setTok x).flash = s.flash := rfl
@[simp] theorem State.setTok_flashDirty (x : TokState) : (s.setTok x).flashDirty = s.flashDirty := rfl
@[simp] theorem State.setTok_clk (x : TokState) : (s.setTok x).clk = s.clk := rfl
@[simp] theorem State.setTok_hif (x : TokState) : (s.setTok x).hif = s.hif := rfl
@[simp] theorem State.setTok_sent (x : TokState) : (s.setTok x).sent = s.sent := rfl
@[simp] theorem State.setTok_pins (x : TokState) : (s.setTok x).pins = s.pins := rfl
@[simp] theorem State.setTok_engines (x : TokState) : (s.setTok x).engines = s.engines := rfl
@[simp] theorem State.setTok_tok (x : TokState) : (s.setTok x).tok = x := rfl
@[simp] theorem State.setTok_grn (x : TokState) : (s.setTok x).grn = s.grn := rfl
@[simp] theorem State.setTok_links (x : TokState) : (s.setTok x).links = s.links := rfl
@[simp] theorem State.setTok_pending (x : TokState) : (s.setTok x).pending = s.pending := rfl
@[simp] theorem State.setTok_rd (x : TokState) (g : Field) (idx : Nat) : (s.setTok x).rd g idx = s.rd g idx := rfl

/-! ## setGrn -/

@[simp] theorem State.setGrn_now (x : GranaryState) : (s.setGrn x).now = s.now := rfl
@[simp] theorem State.setGrn_timebase (x : GranaryState) : (s.setGrn x).timebase = s.timebase := rfl
@[simp] theorem State.setGrn_tick0 (x : GranaryState) : (s.setGrn x).tick0 = s.tick0 := rfl
@[simp] theorem State.setGrn_tick (x : GranaryState) : (s.setGrn x).tick = s.tick := rfl
@[simp] theorem State.setGrn_due (x : GranaryState) : (s.setGrn x).due = s.due := rfl
@[simp] theorem State.setGrn_regs (x : GranaryState) : (s.setGrn x).regs = s.regs := rfl
@[simp] theorem State.setGrn_masters (x : GranaryState) : (s.setGrn x).masters = s.masters := rfl
@[simp] theorem State.setGrn_draw (x : GranaryState) : (s.setGrn x).draw = s.draw := rfl
@[simp] theorem State.setGrn_inputs (x : GranaryState) : (s.setGrn x).inputs = s.inputs := rfl
@[simp] theorem State.setGrn_xo (x : GranaryState) : (s.setGrn x).xo = s.xo := rfl
@[simp] theorem State.setGrn_planes (x : GranaryState) : (s.setGrn x).planes = s.planes := rfl
@[simp] theorem State.setGrn_aplls (x : GranaryState) : (s.setGrn x).aplls = s.aplls := rfl
@[simp] theorem State.setGrn_outs (x : GranaryState) : (s.setGrn x).outs = s.outs := rfl
@[simp] theorem State.setGrn_banks (x : GranaryState) : (s.setGrn x).banks = s.banks := rfl
@[simp] theorem State.setGrn_sheafs (x : GranaryState) : (s.setGrn x).sheafs = s.sheafs := rfl
@[simp] theorem State.setGrn_tods (x : GranaryState) : (s.setGrn x).tods = s.tods := rfl
@[simp] theorem State.setGrn_utc (x : GranaryState) : (s.setGrn x).utc = s.utc := rfl
@[simp] theorem State.setGrn_stamps (x : GranaryState) : (s.setGrn x).stamps = s.stamps := rfl
@[simp] theorem State.setGrn_stampNow (x : GranaryState) : (s.setGrn x).stampNow = s.stampNow := rfl
@[simp] theorem State.setGrn_faults (x : GranaryState) : (s.setGrn x).faults = s.faults := rfl
@[simp] theorem State.setGrn_events (x : GranaryState) : (s.setGrn x).events = s.events := rfl
@[simp] theorem State.setGrn_evpend (x : GranaryState) : (s.setGrn x).evpend = s.evpend := rfl
@[simp] theorem State.setGrn_evovf (x : GranaryState) : (s.setGrn x).evovf = s.evovf := rfl
@[simp] theorem State.setGrn_sets (x : GranaryState) : (s.setGrn x).sets = s.sets := rfl
@[simp] theorem State.setGrn_wakes (x : GranaryState) : (s.setGrn x).wakes = s.wakes := rfl
@[simp] theorem State.setGrn_msiDue (x : GranaryState) : (s.setGrn x).msiDue = s.msiDue := rfl
@[simp] theorem State.setGrn_cal (x : GranaryState) : (s.setGrn x).cal = s.cal := rfl
@[simp] theorem State.setGrn_boot (x : GranaryState) : (s.setGrn x).boot = s.boot := rfl
@[simp] theorem State.setGrn_mbox (x : GranaryState) : (s.setGrn x).mbox = s.mbox := rfl
@[simp] theorem State.setGrn_keeper (x : GranaryState) : (s.setGrn x).keeper = s.keeper := rfl
@[simp] theorem State.setGrn_flash (x : GranaryState) : (s.setGrn x).flash = s.flash := rfl
@[simp] theorem State.setGrn_flashDirty (x : GranaryState) : (s.setGrn x).flashDirty = s.flashDirty := rfl
@[simp] theorem State.setGrn_clk (x : GranaryState) : (s.setGrn x).clk = s.clk := rfl
@[simp] theorem State.setGrn_hif (x : GranaryState) : (s.setGrn x).hif = s.hif := rfl
@[simp] theorem State.setGrn_sent (x : GranaryState) : (s.setGrn x).sent = s.sent := rfl
@[simp] theorem State.setGrn_pins (x : GranaryState) : (s.setGrn x).pins = s.pins := rfl
@[simp] theorem State.setGrn_engines (x : GranaryState) : (s.setGrn x).engines = s.engines := rfl
@[simp] theorem State.setGrn_tok (x : GranaryState) : (s.setGrn x).tok = s.tok := rfl
@[simp] theorem State.setGrn_grn (x : GranaryState) : (s.setGrn x).grn = x := rfl
@[simp] theorem State.setGrn_links (x : GranaryState) : (s.setGrn x).links = s.links := rfl
@[simp] theorem State.setGrn_pending (x : GranaryState) : (s.setGrn x).pending = s.pending := rfl
@[simp] theorem State.setGrn_rd (x : GranaryState) (g : Field) (idx : Nat) : (s.setGrn x).rd g idx = s.rd g idx := rfl

/-! ## setKeeper -/

@[simp] theorem State.setKeeper_now (x : KeeperState) : (s.setKeeper x).now = s.now := rfl
@[simp] theorem State.setKeeper_timebase (x : KeeperState) : (s.setKeeper x).timebase = s.timebase := rfl
@[simp] theorem State.setKeeper_tick0 (x : KeeperState) : (s.setKeeper x).tick0 = s.tick0 := rfl
@[simp] theorem State.setKeeper_tick (x : KeeperState) : (s.setKeeper x).tick = s.tick := rfl
@[simp] theorem State.setKeeper_due (x : KeeperState) : (s.setKeeper x).due = s.due := rfl
@[simp] theorem State.setKeeper_regs (x : KeeperState) : (s.setKeeper x).regs = s.regs := rfl
@[simp] theorem State.setKeeper_masters (x : KeeperState) : (s.setKeeper x).masters = s.masters := rfl
@[simp] theorem State.setKeeper_draw (x : KeeperState) : (s.setKeeper x).draw = s.draw := rfl
@[simp] theorem State.setKeeper_inputs (x : KeeperState) : (s.setKeeper x).inputs = s.inputs := rfl
@[simp] theorem State.setKeeper_xo (x : KeeperState) : (s.setKeeper x).xo = s.xo := rfl
@[simp] theorem State.setKeeper_planes (x : KeeperState) : (s.setKeeper x).planes = s.planes := rfl
@[simp] theorem State.setKeeper_aplls (x : KeeperState) : (s.setKeeper x).aplls = s.aplls := rfl
@[simp] theorem State.setKeeper_outs (x : KeeperState) : (s.setKeeper x).outs = s.outs := rfl
@[simp] theorem State.setKeeper_banks (x : KeeperState) : (s.setKeeper x).banks = s.banks := rfl
@[simp] theorem State.setKeeper_sheafs (x : KeeperState) : (s.setKeeper x).sheafs = s.sheafs := rfl
@[simp] theorem State.setKeeper_tods (x : KeeperState) : (s.setKeeper x).tods = s.tods := rfl
@[simp] theorem State.setKeeper_utc (x : KeeperState) : (s.setKeeper x).utc = s.utc := rfl
@[simp] theorem State.setKeeper_stamps (x : KeeperState) : (s.setKeeper x).stamps = s.stamps := rfl
@[simp] theorem State.setKeeper_stampNow (x : KeeperState) : (s.setKeeper x).stampNow = s.stampNow := rfl
@[simp] theorem State.setKeeper_faults (x : KeeperState) : (s.setKeeper x).faults = s.faults := rfl
@[simp] theorem State.setKeeper_events (x : KeeperState) : (s.setKeeper x).events = s.events := rfl
@[simp] theorem State.setKeeper_evpend (x : KeeperState) : (s.setKeeper x).evpend = s.evpend := rfl
@[simp] theorem State.setKeeper_evovf (x : KeeperState) : (s.setKeeper x).evovf = s.evovf := rfl
@[simp] theorem State.setKeeper_sets (x : KeeperState) : (s.setKeeper x).sets = s.sets := rfl
@[simp] theorem State.setKeeper_wakes (x : KeeperState) : (s.setKeeper x).wakes = s.wakes := rfl
@[simp] theorem State.setKeeper_msiDue (x : KeeperState) : (s.setKeeper x).msiDue = s.msiDue := rfl
@[simp] theorem State.setKeeper_cal (x : KeeperState) : (s.setKeeper x).cal = s.cal := rfl
@[simp] theorem State.setKeeper_boot (x : KeeperState) : (s.setKeeper x).boot = s.boot := rfl
@[simp] theorem State.setKeeper_mbox (x : KeeperState) : (s.setKeeper x).mbox = s.mbox := rfl
@[simp] theorem State.setKeeper_keeper (x : KeeperState) : (s.setKeeper x).keeper = x := rfl
@[simp] theorem State.setKeeper_flash (x : KeeperState) : (s.setKeeper x).flash = s.flash := rfl
@[simp] theorem State.setKeeper_flashDirty (x : KeeperState) : (s.setKeeper x).flashDirty = s.flashDirty := rfl
@[simp] theorem State.setKeeper_clk (x : KeeperState) : (s.setKeeper x).clk = s.clk := rfl
@[simp] theorem State.setKeeper_hif (x : KeeperState) : (s.setKeeper x).hif = s.hif := rfl
@[simp] theorem State.setKeeper_sent (x : KeeperState) : (s.setKeeper x).sent = s.sent := rfl
@[simp] theorem State.setKeeper_pins (x : KeeperState) : (s.setKeeper x).pins = s.pins := rfl
@[simp] theorem State.setKeeper_engines (x : KeeperState) : (s.setKeeper x).engines = s.engines := rfl
@[simp] theorem State.setKeeper_tok (x : KeeperState) : (s.setKeeper x).tok = s.tok := rfl
@[simp] theorem State.setKeeper_grn (x : KeeperState) : (s.setKeeper x).grn = s.grn := rfl
@[simp] theorem State.setKeeper_links (x : KeeperState) : (s.setKeeper x).links = s.links := rfl
@[simp] theorem State.setKeeper_pending (x : KeeperState) : (s.setKeeper x).pending = s.pending := rfl
@[simp] theorem State.setKeeper_rd (x : KeeperState) (g : Field) (idx : Nat) : (s.setKeeper x).rd g idx = s.rd g idx := rfl

/-! ## setClk -/

@[simp] theorem State.setClk_now (x : ClkState) : (s.setClk x).now = s.now := rfl
@[simp] theorem State.setClk_timebase (x : ClkState) : (s.setClk x).timebase = s.timebase := rfl
@[simp] theorem State.setClk_tick0 (x : ClkState) : (s.setClk x).tick0 = s.tick0 := rfl
@[simp] theorem State.setClk_tick (x : ClkState) : (s.setClk x).tick = s.tick := rfl
@[simp] theorem State.setClk_due (x : ClkState) : (s.setClk x).due = s.due := rfl
@[simp] theorem State.setClk_regs (x : ClkState) : (s.setClk x).regs = s.regs := rfl
@[simp] theorem State.setClk_masters (x : ClkState) : (s.setClk x).masters = s.masters := rfl
@[simp] theorem State.setClk_draw (x : ClkState) : (s.setClk x).draw = s.draw := rfl
@[simp] theorem State.setClk_inputs (x : ClkState) : (s.setClk x).inputs = s.inputs := rfl
@[simp] theorem State.setClk_xo (x : ClkState) : (s.setClk x).xo = s.xo := rfl
@[simp] theorem State.setClk_planes (x : ClkState) : (s.setClk x).planes = s.planes := rfl
@[simp] theorem State.setClk_aplls (x : ClkState) : (s.setClk x).aplls = s.aplls := rfl
@[simp] theorem State.setClk_outs (x : ClkState) : (s.setClk x).outs = s.outs := rfl
@[simp] theorem State.setClk_banks (x : ClkState) : (s.setClk x).banks = s.banks := rfl
@[simp] theorem State.setClk_sheafs (x : ClkState) : (s.setClk x).sheafs = s.sheafs := rfl
@[simp] theorem State.setClk_tods (x : ClkState) : (s.setClk x).tods = s.tods := rfl
@[simp] theorem State.setClk_utc (x : ClkState) : (s.setClk x).utc = s.utc := rfl
@[simp] theorem State.setClk_stamps (x : ClkState) : (s.setClk x).stamps = s.stamps := rfl
@[simp] theorem State.setClk_stampNow (x : ClkState) : (s.setClk x).stampNow = s.stampNow := rfl
@[simp] theorem State.setClk_faults (x : ClkState) : (s.setClk x).faults = s.faults := rfl
@[simp] theorem State.setClk_events (x : ClkState) : (s.setClk x).events = s.events := rfl
@[simp] theorem State.setClk_evpend (x : ClkState) : (s.setClk x).evpend = s.evpend := rfl
@[simp] theorem State.setClk_evovf (x : ClkState) : (s.setClk x).evovf = s.evovf := rfl
@[simp] theorem State.setClk_sets (x : ClkState) : (s.setClk x).sets = s.sets := rfl
@[simp] theorem State.setClk_wakes (x : ClkState) : (s.setClk x).wakes = s.wakes := rfl
@[simp] theorem State.setClk_msiDue (x : ClkState) : (s.setClk x).msiDue = s.msiDue := rfl
@[simp] theorem State.setClk_cal (x : ClkState) : (s.setClk x).cal = s.cal := rfl
@[simp] theorem State.setClk_boot (x : ClkState) : (s.setClk x).boot = s.boot := rfl
@[simp] theorem State.setClk_mbox (x : ClkState) : (s.setClk x).mbox = s.mbox := rfl
@[simp] theorem State.setClk_keeper (x : ClkState) : (s.setClk x).keeper = s.keeper := rfl
@[simp] theorem State.setClk_flash (x : ClkState) : (s.setClk x).flash = s.flash := rfl
@[simp] theorem State.setClk_flashDirty (x : ClkState) : (s.setClk x).flashDirty = s.flashDirty := rfl
@[simp] theorem State.setClk_clk (x : ClkState) : (s.setClk x).clk = x := rfl
@[simp] theorem State.setClk_hif (x : ClkState) : (s.setClk x).hif = s.hif := rfl
@[simp] theorem State.setClk_sent (x : ClkState) : (s.setClk x).sent = s.sent := rfl
@[simp] theorem State.setClk_pins (x : ClkState) : (s.setClk x).pins = s.pins := rfl
@[simp] theorem State.setClk_engines (x : ClkState) : (s.setClk x).engines = s.engines := rfl
@[simp] theorem State.setClk_tok (x : ClkState) : (s.setClk x).tok = s.tok := rfl
@[simp] theorem State.setClk_grn (x : ClkState) : (s.setClk x).grn = s.grn := rfl
@[simp] theorem State.setClk_links (x : ClkState) : (s.setClk x).links = s.links := rfl
@[simp] theorem State.setClk_pending (x : ClkState) : (s.setClk x).pending = s.pending := rfl
@[simp] theorem State.setClk_rd (x : ClkState) (g : Field) (idx : Nat) : (s.setClk x).rd g idx = s.rd g idx := rfl

/-! ## setCal -/

@[simp] theorem State.setCal_now (x : CalData) : (s.setCal x).now = s.now := rfl
@[simp] theorem State.setCal_timebase (x : CalData) : (s.setCal x).timebase = s.timebase := rfl
@[simp] theorem State.setCal_tick0 (x : CalData) : (s.setCal x).tick0 = s.tick0 := rfl
@[simp] theorem State.setCal_tick (x : CalData) : (s.setCal x).tick = s.tick := rfl
@[simp] theorem State.setCal_due (x : CalData) : (s.setCal x).due = s.due := rfl
@[simp] theorem State.setCal_regs (x : CalData) : (s.setCal x).regs = s.regs := rfl
@[simp] theorem State.setCal_masters (x : CalData) : (s.setCal x).masters = s.masters := rfl
@[simp] theorem State.setCal_draw (x : CalData) : (s.setCal x).draw = s.draw := rfl
@[simp] theorem State.setCal_inputs (x : CalData) : (s.setCal x).inputs = s.inputs := rfl
@[simp] theorem State.setCal_xo (x : CalData) : (s.setCal x).xo = s.xo := rfl
@[simp] theorem State.setCal_planes (x : CalData) : (s.setCal x).planes = s.planes := rfl
@[simp] theorem State.setCal_aplls (x : CalData) : (s.setCal x).aplls = s.aplls := rfl
@[simp] theorem State.setCal_outs (x : CalData) : (s.setCal x).outs = s.outs := rfl
@[simp] theorem State.setCal_banks (x : CalData) : (s.setCal x).banks = s.banks := rfl
@[simp] theorem State.setCal_sheafs (x : CalData) : (s.setCal x).sheafs = s.sheafs := rfl
@[simp] theorem State.setCal_tods (x : CalData) : (s.setCal x).tods = s.tods := rfl
@[simp] theorem State.setCal_utc (x : CalData) : (s.setCal x).utc = s.utc := rfl
@[simp] theorem State.setCal_stamps (x : CalData) : (s.setCal x).stamps = s.stamps := rfl
@[simp] theorem State.setCal_stampNow (x : CalData) : (s.setCal x).stampNow = s.stampNow := rfl
@[simp] theorem State.setCal_faults (x : CalData) : (s.setCal x).faults = s.faults := rfl
@[simp] theorem State.setCal_events (x : CalData) : (s.setCal x).events = s.events := rfl
@[simp] theorem State.setCal_evpend (x : CalData) : (s.setCal x).evpend = s.evpend := rfl
@[simp] theorem State.setCal_evovf (x : CalData) : (s.setCal x).evovf = s.evovf := rfl
@[simp] theorem State.setCal_sets (x : CalData) : (s.setCal x).sets = s.sets := rfl
@[simp] theorem State.setCal_wakes (x : CalData) : (s.setCal x).wakes = s.wakes := rfl
@[simp] theorem State.setCal_msiDue (x : CalData) : (s.setCal x).msiDue = s.msiDue := rfl
@[simp] theorem State.setCal_cal (x : CalData) : (s.setCal x).cal = x := rfl
@[simp] theorem State.setCal_boot (x : CalData) : (s.setCal x).boot = s.boot := rfl
@[simp] theorem State.setCal_mbox (x : CalData) : (s.setCal x).mbox = s.mbox := rfl
@[simp] theorem State.setCal_keeper (x : CalData) : (s.setCal x).keeper = s.keeper := rfl
@[simp] theorem State.setCal_flash (x : CalData) : (s.setCal x).flash = s.flash := rfl
@[simp] theorem State.setCal_flashDirty (x : CalData) : (s.setCal x).flashDirty = s.flashDirty := rfl
@[simp] theorem State.setCal_clk (x : CalData) : (s.setCal x).clk = s.clk := rfl
@[simp] theorem State.setCal_hif (x : CalData) : (s.setCal x).hif = s.hif := rfl
@[simp] theorem State.setCal_sent (x : CalData) : (s.setCal x).sent = s.sent := rfl
@[simp] theorem State.setCal_pins (x : CalData) : (s.setCal x).pins = s.pins := rfl
@[simp] theorem State.setCal_engines (x : CalData) : (s.setCal x).engines = s.engines := rfl
@[simp] theorem State.setCal_tok (x : CalData) : (s.setCal x).tok = s.tok := rfl
@[simp] theorem State.setCal_grn (x : CalData) : (s.setCal x).grn = s.grn := rfl
@[simp] theorem State.setCal_links (x : CalData) : (s.setCal x).links = s.links := rfl
@[simp] theorem State.setCal_pending (x : CalData) : (s.setCal x).pending = s.pending := rfl
@[simp] theorem State.setCal_rd (x : CalData) (g : Field) (idx : Nat) : (s.setCal x).rd g idx = s.rd g idx := rfl

/-! ## at_ -/

@[simp] theorem State.at__now (t : Nat) : (s.at_ t).now = max s.now t := rfl
@[simp] theorem State.at__timebase (t : Nat) : (s.at_ t).timebase = s.timebase := rfl
@[simp] theorem State.at__tick0 (t : Nat) : (s.at_ t).tick0 = s.tick0 := rfl
@[simp] theorem State.at__tick (t : Nat) : (s.at_ t).tick = s.tick := rfl
@[simp] theorem State.at__due (t : Nat) : (s.at_ t).due = s.due := rfl
@[simp] theorem State.at__regs (t : Nat) : (s.at_ t).regs = s.regs := rfl
@[simp] theorem State.at__masters (t : Nat) : (s.at_ t).masters = s.masters := rfl
@[simp] theorem State.at__draw (t : Nat) : (s.at_ t).draw = s.draw := rfl
@[simp] theorem State.at__inputs (t : Nat) : (s.at_ t).inputs = s.inputs := rfl
@[simp] theorem State.at__xo (t : Nat) : (s.at_ t).xo = s.xo := rfl
@[simp] theorem State.at__planes (t : Nat) : (s.at_ t).planes = s.planes := rfl
@[simp] theorem State.at__aplls (t : Nat) : (s.at_ t).aplls = s.aplls := rfl
@[simp] theorem State.at__outs (t : Nat) : (s.at_ t).outs = s.outs := rfl
@[simp] theorem State.at__banks (t : Nat) : (s.at_ t).banks = s.banks := rfl
@[simp] theorem State.at__sheafs (t : Nat) : (s.at_ t).sheafs = s.sheafs := rfl
@[simp] theorem State.at__tods (t : Nat) : (s.at_ t).tods = s.tods := rfl
@[simp] theorem State.at__utc (t : Nat) : (s.at_ t).utc = s.utc := rfl
@[simp] theorem State.at__stamps (t : Nat) : (s.at_ t).stamps = s.stamps := rfl
@[simp] theorem State.at__stampNow (t : Nat) : (s.at_ t).stampNow = s.stampNow := rfl
@[simp] theorem State.at__faults (t : Nat) : (s.at_ t).faults = s.faults := rfl
@[simp] theorem State.at__events (t : Nat) : (s.at_ t).events = s.events := rfl
@[simp] theorem State.at__evpend (t : Nat) : (s.at_ t).evpend = s.evpend := rfl
@[simp] theorem State.at__evovf (t : Nat) : (s.at_ t).evovf = s.evovf := rfl
@[simp] theorem State.at__sets (t : Nat) : (s.at_ t).sets = s.sets := rfl
@[simp] theorem State.at__wakes (t : Nat) : (s.at_ t).wakes = s.wakes := rfl
@[simp] theorem State.at__msiDue (t : Nat) : (s.at_ t).msiDue = s.msiDue := rfl
@[simp] theorem State.at__cal (t : Nat) : (s.at_ t).cal = s.cal := rfl
@[simp] theorem State.at__boot (t : Nat) : (s.at_ t).boot = s.boot := rfl
@[simp] theorem State.at__mbox (t : Nat) : (s.at_ t).mbox = s.mbox := rfl
@[simp] theorem State.at__keeper (t : Nat) : (s.at_ t).keeper = s.keeper := rfl
@[simp] theorem State.at__flash (t : Nat) : (s.at_ t).flash = s.flash := rfl
@[simp] theorem State.at__flashDirty (t : Nat) : (s.at_ t).flashDirty = s.flashDirty := rfl
@[simp] theorem State.at__clk (t : Nat) : (s.at_ t).clk = s.clk := rfl
@[simp] theorem State.at__hif (t : Nat) : (s.at_ t).hif = s.hif := rfl
@[simp] theorem State.at__sent (t : Nat) : (s.at_ t).sent = s.sent := rfl
@[simp] theorem State.at__pins (t : Nat) : (s.at_ t).pins = s.pins := rfl
@[simp] theorem State.at__engines (t : Nat) : (s.at_ t).engines = s.engines := rfl
@[simp] theorem State.at__tok (t : Nat) : (s.at_ t).tok = s.tok := rfl
@[simp] theorem State.at__grn (t : Nat) : (s.at_ t).grn = s.grn := rfl
@[simp] theorem State.at__links (t : Nat) : (s.at_ t).links = s.links := rfl
@[simp] theorem State.at__pending (t : Nat) : (s.at_ t).pending = s.pending := rfl
@[simp] theorem State.at__rd (t : Nat) (g : Field) (idx : Nat) : (s.at_ t).rd g idx = s.rd g idx := rfl

end Sys2Proof.Machine
end

