-- ==== Sys2Proof/Laws/Store.lean ====
section
/-!
SUPPORT. The laws of the sparse store: a read after a write to the same key gives the value written, a write leaves every
other key alone, and every write keeps the canonical form.
-/
namespace Sys2Proof.Machine

variable {α : Type}

theorem Store.get_put (m : List (Nat × α)) (k : Nat) (v : α) (j : Nat) (d : α) :
    Store.get (Store.put m k v) j d = if k = j then v else Store.get m j d := by
  induction m with
  | nil => simp [Store.put, Store.get]
  | cons p r ih =>
    obtain ⟨k', v'⟩ := p
    simp only [Store.put]
    split
    · simp [Store.get]
    · split
      · rename_i h1 h2; subst h2; simp only [Store.get]; split <;> rfl
      · rename_i h1 h2
        simp only [Store.get, ih]
        by_cases hkj : k = j
        · subst hkj; simp [Ne.symm h2]
        · simp [hkj]

theorem Store.get_drop (m : List (Nat × α)) (k j : Nat) (d : α) :
    Store.get (Store.drop m k) j d = if k = j then d else Store.get m j d := by
  induction m with
  | nil => simp [Store.drop, Store.get]
  | cons p r ih =>
    obtain ⟨k', v'⟩ := p
    simp only [Store.drop]
    by_cases h : k' = k
    · subst h; simp only [if_true, ih, Store.get]; split <;> rfl
    · simp only [h, if_false, Store.get, ih]
      by_cases hkj : k = j
      · subst hkj; simp [h]
      · simp [hkj]

/-- A read after a write: the written value at its key, every other key as before. -/
theorem Store.get_set [DecidableEq α] (m : List (Nat × α)) (k : Nat) (v d : α) (j : Nat) (d' : α)
    (hd : k = j → d' = d) :
    Store.get (Store.set m k v d) j d' = if k = j then v else Store.get m j d' := by
  unfold Store.set
  split
  · rename_i h; rw [Store.get_drop]; split
    · rename_i hk; rw [hd hk, h]
    · rfl
  · rw [Store.get_put]

/-- Every key of `m` lies above `lo`. -/
def Store.above (lo : Nat) (m : List (Nat × α)) : Prop := ∀ p ∈ m, lo < p.1

theorem Store.wf_cons [DecidableEq α] (dflt : Nat → α) (k : Nat) (v : α) (r : List (Nat × α)) :
    Store.wf dflt ((k, v) :: r) = true ↔ v ≠ dflt k ∧ Store.above k r ∧ Store.wf dflt r = true := by
  induction r generalizing k v with
  | nil => simp [Store.wf, Store.above]
  | cons p r ih =>
    obtain ⟨k', v'⟩ := p
    simp only [Store.wf, Bool.and_eq_true, decide_eq_true_eq]
    constructor
    · rintro ⟨⟨h1, h2⟩, h3⟩
      refine ⟨h1, ?_, h3⟩
      intro q hq
      rcases List.mem_cons.1 hq with rfl | hq
      · exact h2
      · exact Nat.lt_trans h2 (((ih k' v').1 h3).2.1 q hq)
    · rintro ⟨h1, h2, h3⟩
      exact ⟨⟨h1, h2 _ (List.mem_cons_self ..)⟩, h3⟩

theorem Store.mem_put (m : List (Nat × α)) (k : Nat) (v : α) (q : Nat × α) (h : q ∈ Store.put m k v) :
    q = (k, v) ∨ q ∈ m := by
  induction m with
  | nil => simp [Store.put] at h; exact Or.inl h
  | cons p r ih =>
    obtain ⟨k', v'⟩ := p
    simp only [Store.put] at h
    split at h
    · simpa using h
    · split at h
      · rcases List.mem_cons.1 h with h | h
        · exact Or.inl h
        · exact Or.inr (List.mem_cons_of_mem _ h)
      · rcases List.mem_cons.1 h with h | h
        · exact Or.inr (h ▸ List.mem_cons_self ..)
        · rcases ih h with h | h
          · exact Or.inl h
          · exact Or.inr (List.mem_cons_of_mem _ h)

theorem Store.mem_drop (m : List (Nat × α)) (k : Nat) (q : Nat × α) (h : q ∈ Store.drop m k) : q ∈ m := by
  induction m with
  | nil => exact h
  | cons p r ih =>
    obtain ⟨k', v'⟩ := p
    simp only [Store.drop] at h
    split at h
    · exact List.mem_cons_of_mem _ (ih h)
    · rcases List.mem_cons.1 h with h | h
      · exact h ▸ List.mem_cons_self ..
      · exact List.mem_cons_of_mem _ (ih h)

theorem Store.wf_put [DecidableEq α] (dflt : Nat → α) (m : List (Nat × α)) (k : Nat) (v : α)
    (hv : v ≠ dflt k) (h : Store.wf dflt m = true) : Store.wf dflt (Store.put m k v) = true := by
  induction m with
  | nil => simp [Store.put, Store.wf, hv]
  | cons p r ih =>
    obtain ⟨k', v'⟩ := p
    have hc := (Store.wf_cons dflt k' v' r).1 h
    simp only [Store.put]
    split
    · rename_i hlt
      rw [Store.wf_cons]
      refine ⟨hv, ?_, h⟩
      intro q hq
      rcases List.mem_cons.1 hq with rfl | hq
      · exact hlt
      · exact Nat.lt_trans hlt (hc.2.1 q hq)
    · split
      · rename_i h2; subst h2; rw [Store.wf_cons]; exact ⟨hv, hc.2.1, hc.2.2⟩
      · rename_i h1 h2
        rw [Store.wf_cons]
        refine ⟨hc.1, ?_, ih hc.2.2⟩
        intro q hq
        rcases Store.mem_put _ _ _ _ hq with rfl | hq
        · show k' < k; omega
        · exact hc.2.1 q hq

theorem Store.wf_drop [DecidableEq α] (dflt : Nat → α) (m : List (Nat × α)) (k : Nat)
    (h : Store.wf dflt m = true) : Store.wf dflt (Store.drop m k) = true := by
  induction m with
  | nil => rfl
  | cons p r ih =>
    obtain ⟨k', v'⟩ := p
    have hc := (Store.wf_cons dflt k' v' r).1 h
    simp only [Store.drop]
    split
    · exact ih hc.2.2
    · rw [Store.wf_cons]
      exact ⟨hc.1, fun q hq => hc.2.1 q (Store.mem_drop _ _ _ hq), ih hc.2.2⟩

/-- Every write keeps the canonical form. -/
theorem Store.wf_set [DecidableEq α] (dflt : Nat → α) (m : List (Nat × α)) (k : Nat) (v : α)
    (h : Store.wf dflt m = true) : Store.wf dflt (Store.set m k v (dflt k)) = true := by
  unfold Store.set
  split
  · exact Store.wf_drop dflt m k h
  · rename_i hv; exact Store.wf_put dflt m k v hv h

end Sys2Proof.Machine
end

