-- ==== Sys2Proof/Laws/Regs.lean ====
section
/-!
SUPPORT. Reads of register fields after writes of register fields.
-/
namespace Sys2Proof.Machine

theorem Field.ctorIdx_lt (f : Field) : f.ctorIdx < 1024 := by cases f <;> decide

theorem Field.ctorIdx_inj {f g : Field} (h : f.ctorIdx = g.ctorIdx) : f = g := by
  have := congrArg Field.ofNat h
  rwa [Field.ofNat_ctorIdx, Field.ofNat_ctorIdx] at this

/-- The key of a field names the field and its instance. -/
theorem Field.key_inj {f g : Field} {n m : Nat} : f.key n = g.key m ↔ f = g ∧ n = m := by
  constructor
  · intro h
    have hf := f.ctorIdx_lt
    have hg := g.ctorIdx_lt
    unfold Field.key at h
    have h1 : f.ctorIdx = g.ctorIdx := by omega
    exact ⟨Field.ctorIdx_inj h1, by omega⟩
  · rintro ⟨rfl, rfl⟩; rfl

/-- A read after a write: the written value at its field and instance, every other field as before. -/
theorem State.rd_wr (s : State) (f g : Field) (n m v : Nat) :
    (s.wr f n v).rd g m = if f = g ∧ n = m then v % 2 ^ f.info.width else s.rd g m := by
  unfold State.rd
  rw [State.wr_regs, Store.get_set]
  · simp only [Field.key_inj]
    split
    · rename_i h
      obtain ⟨rfl, rfl⟩ := h
      exact Nat.mod_mod _ _
    · rfl
  · intro h
    obtain ⟨rfl, rfl⟩ := Field.key_inj.1 h
    rfl

/-- A field reads within its width. -/
theorem State.rd_lt (s : State) (f : Field) (n : Nat) : s.rd f n < 2 ^ f.info.width := Nat.mod_lt _ (Nat.two_pow_pos _)

@[simp] theorem State.rd_wr_self (s : State) (f : Field) (n v : Nat) : (s.wr f n v).rd f n = v % 2 ^ f.info.width := by
  simp [State.rd_wr]

theorem State.rd_wr_ne (s : State) {f g : Field} (h : f ≠ g) (n m v : Nat) : (s.wr f n v).rd g m = s.rd g m := by
  simp [State.rd_wr, h]

/-- A register of another instance is left alone. -/
theorem State.rd_wr_inst (s : State) (f g : Field) {n m : Nat} (h : n ≠ m) (v : Nat) : (s.wr f n v).rd g m = s.rd g m := by
  simp [State.rd_wr, h]

/-- Registers alone decide what a field reads as. -/
theorem State.rd_congr {s t : State} (h : t.regs = s.regs) (f : Field) (n : Nat) : t.rd f n = s.rd f n := by
  unfold State.rd; rw [h]

end Sys2Proof.Machine
end

