-- ==== Sys2Proof/Laws/Signals.lean ====
section
/-!
SUPPORT. What raising a signal can do: interrupt bits, event lines, entries and faults touch the registers of the fault
collector, the event path and INT_STAT, and nothing else of the state.
-/
namespace Sys2Proof.Machine

/-- `t` is `s` with signals raised: everything else is as it was, no interrupt bit, fault bit or event line falls. -/
structure Signals (s t : State) : Prop where
  rest : t = { s with regs := t.regs, faults := t.faults, events := t.events, evpend := t.evpend, evovf := t.evovf, pulsed := t.pulsed, sets := t.sets, wakes := t.wakes, msiDue := t.msiDue }
  regs : ∀ f n, f.signal = false → t.rd f n = s.rd f n
  ints : ∀ v, v < 27 → s.bitOf .INT_STAT 0 v = true → t.bitOf .INT_STAT 0 v = true
  flts : ∀ v, v < 64 → s.bitOf .FLT_STATUS 0 v = true → t.bitOf .FLT_STATUS 0 v = true
  lines : ∀ (e : Fin 4) (i : Nat), (s.evpend[e]).getLsbD i = true → (t.evpend[e]).getLsbD i = true

theorem Signals.refl (s : State) : Signals s s := ⟨rfl, fun _ _ _ => rfl, fun _ _ h => h, fun _ _ h => h, fun _ _ h => h⟩

theorem Signals.trans {s t u : State} (a : Signals s t) (b : Signals t u) : Signals s u where
  rest := by rw [b.rest, a.rest]
  regs f n h := (b.regs f n h).trans (a.regs f n h)
  ints v h x := b.ints v h (a.ints v h x)
  flts v h x := b.flts v h (a.flts v h x)
  lines e i x := b.lines e i (a.lines e i x)

/-- A signal field written, but for INT_STAT and FLT_STATUS. -/
theorem Signals.wr (s : State) (f : Field) (n v : Nat) (hf : f.signal = true) (h1 : f ≠ .INT_STAT) (h2 : f ≠ .FLT_STATUS) :
    Signals s (s.wr f n v) where
  rest := rfl
  regs g m hg := by
    apply State.rd_wr_ne
    rintro rfl
    simp [hf] at hg
  ints v _ x := by simpa [State.bitOf, State.rd_wr_ne _ h1] using x
  flts v _ x := by simpa [State.bitOf, State.rd_wr_ne _ h2] using x
  lines _ _ x := x

theorem State.bitOf_setBit (s : State) (f g : Field) (n m i j : Nat) (hj : j < g.info.width) :
    (s.setBit f n i).bitOf g m j = ((decide (f = g ∧ n = m ∧ i = j)) || s.bitOf g m j) := by
  unfold State.setBit State.bitOf
  rw [State.rd_wr]
  by_cases h : f = g ∧ n = m
  · obtain ⟨rfl, rfl⟩ := h
    simp [Nat.testBit_mod_two_pow, hj, Nat.testBit_or, Nat.testBit_two_pow, Bool.or_comm]
  · have : ¬ (f = g ∧ n = m ∧ i = j) := fun h' => h ⟨h'.1, h'.2.1⟩
    simp [h, this]

theorem State.bitOf_wr_or (s : State) (f g : Field) (n m x j : Nat) (hj : j < g.info.width) (h : s.bitOf g m j = true) :
    (s.wr f n (s.rd f n ||| x)).bitOf g m j = true := by
  unfold State.bitOf at h ⊢
  rw [State.rd_wr]
  split
  · rename_i e; obtain ⟨rfl, rfl⟩ := e
    simp [Nat.testBit_mod_two_pow, hj, Nat.testBit_or, h]
  · exact h

theorem Signals.setBit (s : State) (f : Field) (n i : Nat) (hf : f.signal = true) : Signals s (s.setBit f n i) where
  rest := rfl
  regs g m hg := by
    apply State.rd_wr_ne
    rintro rfl
    simp [hf] at hg
  ints v h x := by rw [State.bitOf_setBit _ _ _ _ _ _ _ (by exact h), x, Bool.or_true]
  flts v h x := by rw [State.bitOf_setBit _ _ _ _ _ _ _ (by exact h), x, Bool.or_true]
  lines _ _ x := x

/-- The bits that hardware sets on a signal field join those that stand. -/
theorem Signals.hwSet (s : State) (f : Field) (n x : Nat) (hf : f.signal = true) : Signals s (s.hwSet f n x) where
  rest := rfl
  regs g m hg := by
    apply State.rd_wr_ne
    rintro rfl
    simp [hf] at hg
  ints v h y := State.bitOf_wr_or s f .INT_STAT n 0 x v h y
  flts v h y := State.bitOf_wr_or s f .FLT_STATUS n 0 x v h y
  lines _ _ y := y

theorem Signals.noteSet (s : State) (f : Field) (n x : Nat) : Signals s (s.noteSet f n x) :=
  ⟨rfl, fun _ _ _ => rfl, fun _ _ h => h, fun _ _ h => h, fun _ _ h => h⟩

theorem Signals.noteWake (s : State) (c : Nat) : Signals s (s.noteWake c) :=
  ⟨rfl, fun _ _ _ => rfl, fun _ _ h => h, fun _ _ h => h, fun _ _ h => h⟩

theorem Signals.foldl {α : Type} (f : State → α → State) (h : ∀ s a, Signals s (f s a)) (l : List α) (s : State) :
    Signals s (l.foldl f s) := by
  induction l generalizing s with
  | nil => exact Signals.refl s
  | cons a l ih => exact (h s a).trans (ih _)

theorem Signals.faults (s : State) (x : FaultState) : Signals s { s with faults := x } :=
  ⟨rfl, fun _ _ _ => rfl, fun _ _ h => h, fun _ _ h => h, fun _ _ h => h⟩

theorem Signals.events (s : State) (x : EventState) : Signals s { s with events := x } :=
  ⟨rfl, fun _ _ _ => rfl, fun _ _ h => h, fun _ _ h => h, fun _ _ h => h⟩

theorem Signals.msiDue (s : State) (x : DWord) : Signals s { s with msiDue := x } :=
  ⟨rfl, fun _ _ _ => rfl, fun _ _ h => h, fun _ _ h => h, fun _ _ h => h⟩

theorem Signals.ite {s t u : State} (c : Prop) [Decidable c] (a : Signals s t) (b : Signals s u) :
    Signals s (if c then t else u) := by
  split <;> assumption

/-! ## The operations that raise signals -/

/-- The lines' bits joined by one more, and their overflow. -/
theorem Signals.lines_or (s : State) (b : DWord) (o : Vector DWord 4) (q : Nat × DWord) :
    Signals s { s with pulsed := q, evovf := o, evpend := s.evpend.map (· ||| b) } where
  rest := rfl
  regs _ _ _ := rfl
  ints _ _ h := h
  flts _ _ h := h
  lines e j h := by
    simp only [Fin.getElem_fin, Vector.getElem_map] at h ⊢
    simp only [BitVec.getLsbD_or, h, Bool.true_or]

theorem State.pulse_signals (s : State) (i : Nat) : Signals s (s.pulse i) := by
  unfold State.pulse
  extract_lets b s1 c
  have h : Signals s s1 := Signals.foldl _ (fun s e => Signals.ite _ (Signals.noteSet _ _ _ _) (Signals.refl s)) _ _
  exact (h.trans (Signals.noteWake _ _)).trans (Signals.lines_or (s1.noteWake islYac) b _ _)

theorem State.raiseInt_signals (s : State) (v : Nat) : Signals s (s.raiseInt v) := by
  unfold State.raiseInt
  have a := Signals.hwSet s .INT_STAT 0 (2 ^ v) rfl
  exact Signals.ite _ (a.trans (Signals.msiDue _ _)) a

theorem State.incSat_signals (s : State) (f : Field) (n : Nat) (hf : f.signal = true) (h1 : f ≠ .INT_STAT)
    (h2 : f ≠ .FLT_STATUS) : Signals s (s.incSat f n) := by
  unfold State.incSat
  exact Signals.ite _ (Signals.wr _ _ _ _ hf h1 h2) (Signals.wr _ _ _ _ hf h1 h2)

theorem State.tally_signals (s : State) (f : Field) (n : Nat) (hf : f.signal = true) (h1 : f ≠ .INT_STAT)
    (h2 : f ≠ .FLT_STATUS) : Signals s (s.tally f n) := by
  unfold State.tally
  exact (State.incSat_signals s f n hf h1 h2).trans (Signals.noteSet _ _ _ _)

theorem State.push_signals (s : State) (e : Entry) (ahead : Bool) : Signals s (s.push e ahead) := by
  unfold State.push
  extract_lets ring
  split
  · exact Signals.events s _
  · exact Signals.ite _ (Signals.events s _) (Signals.ite _ (Signals.events s _) (Signals.events s _))

theorem State.injection_signals (s : State) : Signals s s.injection := by
  unfold State.injection
  split
  · exact Signals.ite _ (Signals.refl s) (Signals.events s _)
  · exact Signals.events s _

theorem State.startHold_signals (s : State) (src : Nat) : Signals s (s.startHold src) := by
  unfold State.startHold
  exact Signals.ite _ (Signals.refl s) (Signals.events s _)

theorem State.postNow_signals (s : State) (p : Posting) : Signals s (s.postNow p) := by
  have inc : ∀ f, f.signal = true → f ≠ .INT_STAT → f ≠ .FLT_STATUS → Signals s (s.tally f 0) :=
    fun f a b c => s.tally_signals f 0 a b c
  unfold State.postNow
  split
  · exact Signals.ite _ (s.push_signals _ _) ((inc _ rfl (by decide) (by decide)).trans (Signals.events _ _))
  · exact Signals.ite _ ((s.push_signals _ _).trans (State.startHold_signals _ _))
      ((inc _ rfl (by decide) (by decide)).trans (Signals.events _ _))
  · exact Signals.ite _ (s.push_signals _ _) (inc _ rfl (by decide) (by decide))

theorem State.post_signals (s : State) (p : Posting) : Signals s (s.post p) := by
  unfold State.post
  split
  · exact Signals.events s _
  · exact s.postNow_signals p

theorem State.log_signals (s : State) (src d : Nat) : Signals s (s.log src d) := s.post_signals _

theorem State.capture_signals (s : State) (src : Nat) (inj : Bool) (d : Detail) : Signals s (s.capture src inj d) := by
  unfold State.capture
  have w : ∀ (s : State) f n v, f.signal = true → f ≠ .INT_STAT → f ≠ .FLT_STATUS → Signals s (s.wr f n v) :=
    fun s f n v a b c => Signals.wr s f n v a b c
  extract_lets first s1
  have h : Signals s s1 := by
    refine Signals.ite _ (Signals.ite _ (w _ _ _ _ rfl (by decide) (by decide)) (Signals.refl s)) ?_
    exact ((w _ _ _ _ rfl (by decide) (by decide)).trans (w _ _ _ _ rfl (by decide) (by decide))).trans
      (w _ _ _ _ rfl (by decide) (by decide))
  refine h.trans ?_
  split
  · refine Signals.ite _ ?_ (Signals.refl _)
    exact (((((w _ _ _ _ rfl (by decide) (by decide)).trans (w _ _ _ _ rfl (by decide) (by decide))).trans
      (w _ _ _ _ rfl (by decide) (by decide))).trans (w _ _ _ _ rfl (by decide) (by decide))).trans
      (w _ _ _ _ rfl (by decide) (by decide))).trans (w _ _ _ _ rfl (by decide) (by decide))
  · exact Signals.refl _

theorem State.keepPrev_signals (s : State) (src lv : Nat) : Signals s (s.keepPrev src lv) := by
  unfold State.keepPrev
  refine Signals.ite _ ?_ (Signals.refl s)
  exact ((Signals.wr _ _ _ _ rfl (by decide) (by decide)).trans (Signals.wr _ _ _ _ rfl (by decide) (by decide))).trans
    (Signals.hwSet _ _ _ _ rfl)

theorem State.openFault_signals (s : State) (src lv : Nat) (inj act : Bool) : Signals s (s.openFault src lv inj act) := by
  unfold State.openFault
  exact Signals.ite _ (Signals.refl s) (Signals.faults s _)

theorem State.refreshLevel_signals (s : State) : Signals s s.refreshLevel := by
  unfold State.refreshLevel
  refine Signals.trans (t := if _ then s else ((s.wr .FLT_LEVEL_LEVEL 0 _).pulse 60).raiseInt 0) ?_ (Signals.faults _ _)
  refine Signals.ite _ (Signals.refl s) ?_
  exact ((Signals.wr _ _ _ _ rfl (by decide) (by decide)).trans (State.pulse_signals _ _)).trans (State.raiseInt_signals _ _)

theorem State.quietRestart_signals (s : State) (lv : Nat) : Signals s (s.quietRestart lv) := by
  unfold State.quietRestart
  exact Signals.ite _ (Signals.faults s _) (Signals.refl s)

theorem State.openWindow_signals (s : State) (src inst : Nat) (inj : Bool) : Signals s (s.openWindow src inst inj) := by
  unfold State.openWindow
  exact Signals.ite _ (Signals.refl s) (Signals.faults s _)

theorem State.recordConseq_signals (s : State) (src : Nat) (inj : Bool) (d : Detail) :
    Signals s (s.recordConseq src inj d) := by
  unfold State.recordConseq
  refine ((Signals.hwSet s .FLT_CONSEQ 0 (2 ^ src) rfl).trans ?_).trans (State.post_signals _ _)
  exact Signals.ite _ (Signals.wr _ _ _ _ rfl (by decide) (by decide)) (Signals.refl _)

/-- The part of `recordReal` after FLT_STATUS is set. -/
theorem State.recordReal_after (s : State) (src : Nat) (d : Detail) :
    Signals (s.setBit .FLT_STATUS 0 src) (s.recordReal src d) := by
  unfold State.recordReal
  extract_lets lv s1 s2 s3 s4 s5
  have h2 : Signals s1 s2 := (State.capture_signals _ _ _ _).trans (State.keepPrev_signals _ _ _)
  have h3 : Signals s2 s3 := State.post_signals _ _
  have h4 : Signals s3 s4 := (State.openFault_signals _ _ _ _ _).trans (State.refreshLevel_signals _)
  have h5 : Signals s4 s5 := (State.quietRestart_signals _ _).trans (Signals.noteWake _ _)
  exact (((h2.trans h3).trans h4).trans h5).trans (Signals.ite _ (State.raiseInt_signals _ _) (Signals.refl _))

theorem State.recordReal_signals (s : State) (src : Nat) (d : Detail) : Signals s (s.recordReal src d) :=
  (Signals.setBit s .FLT_STATUS 0 src rfl).trans (s.recordReal_after src d)

theorem State.note_signals (s : State) (src : Nat) (d : Detail) : Signals s (s.note src d) := by
  unfold State.note
  refine Signals.ite _ (Signals.refl s) ?_
  split
  · exact s.recordReal_signals _ _
  · exact s.recordConseq_signals _ _ _

theorem State.raise_signals (s : State) (src : Nat) (d : Detail) : Signals s (s.raise src d) := by
  unfold State.raise
  refine Signals.ite _ (Signals.refl s) ?_
  split
  · exact (s.recordReal_signals _ _).trans (State.openWindow_signals _ _ _ _)
  · exact s.recordConseq_signals _ _ _

theorem State.inject_signals (s : State) (src : Nat) (d : Detail) (re act : Bool) : Signals s (s.inject src d re act) := by
  unfold State.inject
  extract_lets lv s1 s2 s3 s4 s5
  have h1 : Signals s s1 := Signals.hwSet s .FLT_INJSTAT 0 (2 ^ src) rfl
  have h2 : Signals s1 s2 := (State.capture_signals _ _ _ _).trans (State.keepPrev_signals _ _ _)
  have h3 : Signals s2 s3 := (State.injection_signals _).trans (State.post_signals _ _)
  have h4 : Signals s3 s4 := (State.openFault_signals _ _ _ _ _).trans (State.refreshLevel_signals _)
  have h5 : Signals s4 s5 := Signals.ite _ (State.quietRestart_signals _ _) (Signals.refl _)
  exact ((((h1.trans h2).trans h3).trans h4).trans h5).trans (Signals.ite _ (State.openWindow_signals _ _ _ _) (Signals.refl _))

/-- A fault that is recorded leaves its bit of FLT_STATUS set. -/
theorem State.raise_status (s : State) (src : Nat) (d : Detail) (h : s.records src = true) (hs : src < 64) :
    (s.raise src d).bitOf .FLT_STATUS 0 src = true := by
  unfold State.records at h
  simp only [Bool.and_eq_true, Bool.not_eq_true', List.isEmpty_iff] at h
  unfold State.raise
  simp only [h.1, h.2, Bool.false_eq_true, if_false]
  refine (State.openWindow_signals _ _ _ _).flts _ hs ((s.recordReal_after src d).flts _ hs ?_)
  rw [State.bitOf_setBit _ _ _ _ _ _ _ (by exact hs)]
  simp

/-- A flag set by hardware: `f` reads 1, and beyond it only signals are raised. -/
theorem State.flag_signals (s : State) (f : Field) (n : Nat) : Signals (s.hwSet f n 1) (s.flag f n) := by
  unfold State.flag
  split
  · exact State.raiseInt_signals _ _
  · exact Signals.refl _

theorem State.rd_flag (s : State) (f g : Field) (n m : Nat) (hg : g.signal = false) :
    (s.flag f n).rd g m = if f = g ∧ n = m then (s.rd f n ||| 1) % 2 ^ f.info.width else s.rd g m := by
  rw [(s.flag_signals f n).regs g m hg]
  exact State.rd_wr _ _ _ _ _ _

theorem State.flag_rest (s : State) (f : Field) (n : Nat) : s.flag f n = { s with regs := (s.flag f n).regs, faults := (s.flag f n).faults, events := (s.flag f n).events, evpend := (s.flag f n).evpend, evovf := (s.flag f n).evovf, pulsed := (s.flag f n).pulsed, sets := (s.flag f n).sets, wakes := (s.flag f n).wakes, msiDue := (s.flag f n).msiDue } :=
  (s.flag_signals f n).rest

theorem State.rd_setDev (s : State) (f g : Field) (v m : Nat) (hg : g.signal = false) (hv : v < 2 ^ f.info.width) :
    (s.setDev f v).rd g m = if f = g ∧ 0 = m then v else s.rd g m := by
  unfold State.setDev
  split
  · rename_i h
    split
    · rename_i h'; obtain ⟨rfl, rfl⟩ := h'; exact h
    · rfl
  · rw [(State.raiseInt_signals _ _).regs g m hg, State.rd_wr, Nat.mod_eq_of_lt hv]

end Sys2Proof.Machine
end

