-- ==== Sys2Proof/Laws/Settle.lean ====
section
/-!
SUPPORT. What settling at the end of a command can do, and so what a command's answer keeps of the state that its handler made:
everything but the pins, the signals, TB_ROSC, SHED3_CNT and, while the timebase runs from ROSC_A, the planes' bounds.
-/
namespace Sys2Proof.Machine

/-! ## Components that signals leave alone -/

variable {s t u : State}

theorem Signals.now (h : Signals s t) : t.now = s.now := by rw [h.rest]
theorem Signals.timebase (h : Signals s t) : t.timebase = s.timebase := by rw [h.rest]
theorem Signals.tick0 (h : Signals s t) : t.tick0 = s.tick0 := by rw [h.rest]
theorem Signals.tick (h : Signals s t) : t.tick = s.tick := by rw [h.rest]
theorem Signals.due (h : Signals s t) : t.due = s.due := by rw [h.rest]
theorem Signals.masters (h : Signals s t) : t.masters = s.masters := by rw [h.rest]
theorem Signals.draw (h : Signals s t) : t.draw = s.draw := by rw [h.rest]
theorem Signals.inputs (h : Signals s t) : t.inputs = s.inputs := by rw [h.rest]
theorem Signals.xo (h : Signals s t) : t.xo = s.xo := by rw [h.rest]
theorem Signals.planes (h : Signals s t) : t.planes = s.planes := by rw [h.rest]
theorem Signals.aplls (h : Signals s t) : t.aplls = s.aplls := by rw [h.rest]
theorem Signals.outs (h : Signals s t) : t.outs = s.outs := by rw [h.rest]
theorem Signals.banks (h : Signals s t) : t.banks = s.banks := by rw [h.rest]
theorem Signals.sheafs (h : Signals s t) : t.sheafs = s.sheafs := by rw [h.rest]
theorem Signals.tods (h : Signals s t) : t.tods = s.tods := by rw [h.rest]
theorem Signals.stamps (h : Signals s t) : t.stamps = s.stamps := by rw [h.rest]
theorem Signals.stampNow (h : Signals s t) : t.stampNow = s.stampNow := by rw [h.rest]
theorem Signals.boot (h : Signals s t) : t.boot = s.boot := by rw [h.rest]
theorem Signals.mbox (h : Signals s t) : t.mbox = s.mbox := by rw [h.rest]
theorem Signals.keeper (h : Signals s t) : t.keeper = s.keeper := by rw [h.rest]
theorem Signals.flash (h : Signals s t) : t.flash = s.flash := by rw [h.rest]
theorem Signals.flashDirty (h : Signals s t) : t.flashDirty = s.flashDirty := by rw [h.rest]
theorem Signals.clk (h : Signals s t) : t.clk = s.clk := by rw [h.rest]
theorem Signals.hif (h : Signals s t) : t.hif = s.hif := by rw [h.rest]
theorem Signals.sent (h : Signals s t) : t.sent = s.sent := by rw [h.rest]
theorem Signals.engines (h : Signals s t) : t.engines = s.engines := by rw [h.rest]
theorem Signals.tok (h : Signals s t) : t.tok = s.tok := by rw [h.rest]
theorem Signals.grn (h : Signals s t) : t.grn = s.grn := by rw [h.rest]
theorem Signals.links (h : Signals s t) : t.links = s.links := by rw [h.rest]
theorem Signals.cal (h : Signals s t) : t.cal = s.cal := by rw [h.rest]
theorem Signals.pins (h : Signals s t) : t.pins = s.pins := by rw [h.rest]
theorem Signals.pending (h : Signals s t) : t.pending = s.pending := by rw [h.rest]

/-! ## Settling -/

/-- `u` is the answer's state of a command whose handler made `t`. -/
structure Settles (t u : State) : Prop where
  rest : u = { t with regs := u.regs, faults := u.faults, events := u.events, evpend := u.evpend, evovf := u.evovf, pulsed := u.pulsed, sets := u.sets, wakes := u.wakes, msiDue := u.msiDue, pins := u.pins, pending := u.pending }
  regs : ∀ f n, f.settles = false → u.rd f n = t.rd f n
  ints : ∀ v, v < 27 → t.bitOf .INT_STAT 0 v = true → u.bitOf .INT_STAT 0 v = true
  flts : ∀ v, v < 64 → t.bitOf .FLT_STATUS 0 v = true → u.bitOf .FLT_STATUS 0 v = true
  lines : ∀ (e : Fin 4) (i : Nat), (t.evpend[e]).getLsbD i = true → (u.evpend[e]).getLsbD i = true

theorem Settles.trans (a : Settles s t) (b : Settles t u) : Settles s u where
  rest := by rw [b.rest, a.rest]
  regs f n h := (b.regs f n h).trans (a.regs f n h)
  ints v h x := b.ints v h (a.ints v h x)
  flts v h x := b.flts v h (a.flts v h x)
  lines e i x := b.lines e i (a.lines e i x)

theorem Signals.settles (h : Signals t u) : Settles t u where
  rest := by rw [h.rest]
  regs f n hf := h.regs f n (by revert hf; cases f <;> simp [Field.settles, Field.signal])
  ints := h.ints
  flts := h.flts
  lines := h.lines

theorem Settles.wr (t : State) (f : Field) (n v : Nat) (hf : f.settles = true) (h : f.signal = false) :
    Settles t (t.wr f n v) where
  rest := rfl
  regs g m hg := by
    apply State.rd_wr_ne
    rintro rfl
    simp [hf] at hg
  ints v _ x := by
    have : f ≠ .INT_STAT := by rintro rfl; simp [Field.signal] at h
    simpa [State.bitOf, State.rd_wr_ne _ this] using x
  flts v _ x := by
    have : f ≠ .FLT_STATUS := by rintro rfl; simp [Field.signal] at h
    simpa [State.bitOf, State.rd_wr_ne _ this] using x
  lines _ _ x := x

theorem Settles.hwSet (t : State) (f : Field) (n x : Nat) (hf : f.settles = true) (h : f.signal = false) :
    Settles t (t.hwSet f n x) :=
  (Settles.wr t f n _ hf h).trans (Signals.noteSet _ _ _ _).settles

theorem Settles.refl (t : State) : Settles t t := (Signals.refl t).settles

theorem Settles.ite (c : Prop) [Decidable c] (a : Settles s t) (b : Settles s u) : Settles s (if c then t else u) := by
  split <;> assumption

theorem Settles.flag (t : State) (f : Field) (n : Nat) (hf : f.settles = true) (h : f.signal = false) : Settles t (t.flag f n) :=
  (Settles.hwSet t f n 1 hf h).trans (State.flag_signals _ _ _).settles

theorem Settles.forAll (k : Nat) (f : State → Fin k → State) (h : ∀ s i, Settles s (f s i)) (t : State) : Settles t (t.forAll k f) := by
  unfold State.forAll
  generalize List.finRange k = l
  induction l generalizing t with
  | nil => exact Settles.refl t
  | cons a l ih => exact (h t a).trans (ih _)

theorem State.showTotal_settles (t : State) (p : Fin 4) (x : Nat) : Settles t (t.showTotal p x) := by
  unfold State.showTotal
  extract_lets old s1 lim s2 s3 s4 s5
  have h1 : Settles t s1 := Settles.wr t .TEBp_TOTAL p x rfl rfl
  have h3 : Settles s1 s3 := Settles.ite _
    ((Settles.flag s1 .TEBp_EV_OVER p rfl rfl).trans (State.post_signals _ _).settles) (Settles.refl s1)
  have h5 : Settles s3 s5 := Settles.ite _
    ((Settles.flag s3 .TEBp_EV_UNDER p rfl rfl).trans (State.post_signals _ _).settles) (Settles.refl s3)
  exact ((h1.trans h3).trans h5).trans (Settles.ite _ (State.raise_signals _ _ _).settles (Settles.refl s5))

theorem State.unbound_settles (t : State) (p : Fin 4) : Settles t (t.unbound p) :=
  Settles.ite _ (Settles.refl t) (State.showTotal_settles t p _)

theorem State.settle_settles (t : State) : Settles t t.settle := by
  unfold State.settle
  extract_lets s1 s2 s3
  have h1 : Settles t s1 := Settles.wr t .CLK_STAT_TB_ROSC 0 _ rfl rfl
  have h2 : Settles s1 s2 := Settles.ite _ (Settles.forAll 4 _ (fun s p => State.unbound_settles s p) s1) (Settles.refl s1)
  have h3 : Settles s2 s3 := Settles.wr s2 .SHED_STATE_SHED3_CNT 0 _ rfl rfl
  have h4 : Settles s3 { s3 with pins := s3.pinsNow } :=
    ⟨rfl, fun _ _ _ => rfl, fun _ _ h => h, fun _ _ h => h, fun _ _ h => h⟩
  exact ((h1.trans h2).trans h3).trans h4

/-- What a command answers: its handler's state settled, with the queue that it found. -/
theorem finish_settles (s t : State) : ∃ u, finish s t = .next u ∧ Settles t u ∧ u.pending = s.pending := by
  refine ⟨_, rfl, ?_, rfl⟩
  exact (State.settle_settles t).trans ⟨rfl, fun _ _ _ => rfl, fun _ _ h => h, fun _ _ h => h, fun _ _ h => h⟩

/-- While SYS runs from its own source, settling raises no signal and leaves every field but TB_ROSC and SHED3_CNT. -/
theorem finish_calm (s t : State) (h : t.bitOf .CLK_STAT_FB 0 0 = false) :
    ∃ u, finish s t = .next u ∧ Settles t u ∧ u.pending = s.pending ∧ u.faults = t.faults ∧ u.events = t.events ∧
      u.evpend = t.evpend ∧ u.evovf = t.evovf ∧ u.msiDue = t.msiDue ∧
      ∀ f n, f ≠ .CLK_STAT_TB_ROSC → f ≠ .SHED_STATE_SHED3_CNT → u.rd f n = t.rd f n := by
  obtain ⟨u, hu, hs, hp⟩ := finish_settles s t
  have calm : ∀ a, (t.wrB .CLK_STAT_TB_ROSC 0 a).timebaseRosc = false := by
    intro a
    have : (t.wrB .CLK_STAT_TB_ROSC 0 a).rd .CLK_STAT_FB = t.rd .CLK_STAT_FB :=
      State.rd_wr_ne (f := .CLK_STAT_TB_ROSC) t (by decide) 0 0 _
    simp [State.timebaseRosc, State.bitOf, this, show (t.rd .CLK_STAT_FB).testBit 0 = false from h]
  have key : ∃ (a b : Nat), u = { (State.wr (State.wr t .CLK_STAT_TB_ROSC 0 a) .SHED_STATE_SHED3_CNT 0 b) with
      pins := u.pins, pending := u.pending } := by
    unfold finish at hu
    have hu' := (Host.Outcome.next.inj hu).symm
    unfold State.settle at hu'
    simp only [calm, Bool.false_eq_true, if_false] at hu'
    exact ⟨_, _, by rw [hu']; rfl⟩
  obtain ⟨a, b, hk⟩ := key
  refine ⟨u, hu, hs, hp, ?_, ?_, ?_, ?_, ?_, ?_⟩
  · rw [hk]; rfl
  · rw [hk]; rfl
  · rw [hk]; rfl
  · rw [hk]; rfl
  · rw [hk]; rfl
  · intro f n h1 h2
    rw [hk]
    show State.rd (State.wr (State.wr t .CLK_STAT_TB_ROSC 0 a) .SHED_STATE_SHED3_CNT 0 b) f n = _
    rw [State.rd_wr_ne _ (Ne.symm h2), State.rd_wr_ne _ (Ne.symm h1)]

/-! ## Components that settling leaves alone -/

theorem Settles.now (h : Settles t u) : u.now = t.now := by rw [h.rest]
theorem Settles.timebase (h : Settles t u) : u.timebase = t.timebase := by rw [h.rest]
theorem Settles.tick0 (h : Settles t u) : u.tick0 = t.tick0 := by rw [h.rest]
theorem Settles.tick (h : Settles t u) : u.tick = t.tick := by rw [h.rest]
theorem Settles.due (h : Settles t u) : u.due = t.due := by rw [h.rest]
theorem Settles.masters (h : Settles t u) : u.masters = t.masters := by rw [h.rest]
theorem Settles.draw (h : Settles t u) : u.draw = t.draw := by rw [h.rest]
theorem Settles.inputs (h : Settles t u) : u.inputs = t.inputs := by rw [h.rest]
theorem Settles.xo (h : Settles t u) : u.xo = t.xo := by rw [h.rest]
theorem Settles.planes (h : Settles t u) : u.planes = t.planes := by rw [h.rest]
theorem Settles.aplls (h : Settles t u) : u.aplls = t.aplls := by rw [h.rest]
theorem Settles.outs (h : Settles t u) : u.outs = t.outs := by rw [h.rest]
theorem Settles.banks (h : Settles t u) : u.banks = t.banks := by rw [h.rest]
theorem Settles.sheafs (h : Settles t u) : u.sheafs = t.sheafs := by rw [h.rest]
theorem Settles.tods (h : Settles t u) : u.tods = t.tods := by rw [h.rest]
theorem Settles.stamps (h : Settles t u) : u.stamps = t.stamps := by rw [h.rest]
theorem Settles.stampNow (h : Settles t u) : u.stampNow = t.stampNow := by rw [h.rest]
theorem Settles.boot (h : Settles t u) : u.boot = t.boot := by rw [h.rest]
theorem Settles.mbox (h : Settles t u) : u.mbox = t.mbox := by rw [h.rest]
theorem Settles.keeper (h : Settles t u) : u.keeper = t.keeper := by rw [h.rest]
theorem Settles.flash (h : Settles t u) : u.flash = t.flash := by rw [h.rest]
theorem Settles.flashDirty (h : Settles t u) : u.flashDirty = t.flashDirty := by rw [h.rest]
theorem Settles.clk (h : Settles t u) : u.clk = t.clk := by rw [h.rest]
theorem Settles.hif (h : Settles t u) : u.hif = t.hif := by rw [h.rest]
theorem Settles.sent (h : Settles t u) : u.sent = t.sent := by rw [h.rest]
theorem Settles.engines (h : Settles t u) : u.engines = t.engines := by rw [h.rest]
theorem Settles.tok (h : Settles t u) : u.tok = t.tok := by rw [h.rest]
theorem Settles.cal (h : Settles t u) : u.cal = t.cal := by rw [h.rest]
theorem Settles.grn (h : Settles t u) : u.grn = t.grn := by rw [h.rest]
theorem Settles.links (h : Settles t u) : u.links = t.links := by rw [h.rest]

end Sys2Proof.Machine
end

