-- ==== Sys2Proof/Laws/Access.lean ====
section
/-!
SUPPORT. What writing a register's fields does, and which operation an access of a named register is.
-/
namespace Sys2Proof.Machine

variable {s : State} {m : Master} {r : Reg} {n : Nat}

/-- A fold of field writes of values fixed before it. -/
theorem State.rd_foldl_wr (l : List Field) (s : State) (val : Field → Nat) (n : Nat) (g : Field) (k : Nat) :
    (l.foldl (fun t f => t.wr f n (val f)) s).rd g k =
      if g ∈ l ∧ n = k then val g % 2 ^ g.info.width else s.rd g k := by
  induction l generalizing s with
  | nil => simp
  | cons f l ih =>
    rw [List.foldl_cons, ih]
    by_cases hn : n = k
    · subst hn
      by_cases hl : g ∈ l
      · simp [hl]
      · by_cases hf : f = g
        · subst hf; simp
        · rw [State.rd_wr_ne _ hf]; simp [hl, Ne.symm hf]
    · simp [hn, State.rd_wr_inst]

/-- A write of a register sets each of its fields to what its access code gives (R6), and no other field. -/
theorem State.rd_writeReg (s : State) (r : Reg) (n mask v : Nat) (g : Field) (k : Nat) :
    (s.writeReg r n mask v).rd g k =
      if g ∈ r.fields ∧ n = k then s.written g n mask v % 2 ^ g.info.width else s.rd g k :=
  State.rd_foldl_wr r.fields s (fun f => s.written f n mask v) n g k

theorem State.foldl_wr_rest (l : List Field) (s : State) (val : Field → Nat) (n : Nat) :
    l.foldl (fun t f => t.wr f n (val f)) s =
      { s with regs := (l.foldl (fun t f => t.wr f n (val f)) s).regs } := by
  induction l generalizing s with
  | nil => rfl
  | cons f l ih => rw [List.foldl_cons, ih]; rfl

theorem State.writeReg_rest (s : State) (r : Reg) (n mask v : Nat) :
    s.writeReg r n mask v = { s with regs := (s.writeReg r n mask v).regs } :=
  State.foldl_wr_rest r.fields s _ n

/-- An access to a word register that answers. -/
theorem State.regWrite_word (h : s.answers m r) (hp : r.place.shape = .word) (v : Word) :
    s.regWrite m r n v = s.setWord m r n v := by
  unfold State.regWrite State.access State.store
  rw [if_pos h.1, if_pos h.2, hp]

/-- The _LO write of a pair that answers commits the pair with the master's holding register (R8). -/
theorem State.regWrite_pair (h : s.answers m r) (hp : r.place.shape = .pair) (hw : r.writable = true) (v : Word) :
    s.regWrite m r n v = (s.takeHold m v).2.setPair m r n (joinPair v (s.mst m).hold) := by
  unfold State.regWrite State.access State.store
  rw [if_pos h.1, if_pos h.2, hp]
  simp [hw, State.takeHold]

/-- A read of a register that answers. -/
theorem State.regRead_eq (h : s.answers m r) (i : Nat) :
    s.regRead m r n i = (s.load m r n i).2.ret m (s.load m r n i).1 := by
  unfold State.regRead State.readReg State.fetch
  rw [if_pos h.1, if_pos h.2]

@[simp] theorem State.takeHold_rd (s : State) (m : Master) (lo : Word) (f : Field) (k : Nat) :
    (s.takeHold m lo).2.rd f k = s.rd f k := rfl

@[simp] theorem State.ret_rd (s : State) (m : Master) (v : Word) (f : Field) (k : Nat) : (s.ret m v).rd f k = s.rd f k := rfl

@[simp] theorem State.ret_mst (s : State) (m : Master) (v : Word) : (s.ret m v).mst m = { s.mst m with data := v } := by
  simp [State.ret, State.mst]

end Sys2Proof.Machine
end

