-- ==== Sys2Proof/Laws/Placement.lean ====
section
/-!
SUPPORT. What placing a next edge can change: the end of an output's last high time, and what waits for it (R111).
-/
namespace Sys2Proof.Machine

@[simp] theorem State.setOut_self (s : State) (n : Fin 64) : s.setOut n s.outs[n] = s := by
  simp [State.setOut]

/-- What `setLastNext` can do, in full. -/
theorem State.setLastNext_spec (s : State) (n : Fin 64) (t : Rat) :
    ∃ p q d, s.setLastNext n t = s.setOut n { s.outs[n] with pulses := p, sqAt := q, driverNext := d } := by
  unfold State.setLastNext
  extract_lets o
  split
  · split
    · exact ⟨o.pulses, o.sqAt, o.driverNext, (s.setOut_self n).symm⟩
    · exact ⟨_, _, _, rfl⟩
  · exact ⟨o.pulses, o.sqAt, o.driverNext, (s.setOut_self n).symm⟩

/-- What `repredict` can do, in full. -/
theorem State.repredict_spec (s : State) (n : Fin 64) :
    ∃ p q d, s.repredict n = s.setOut n { s.outs[n] with pulses := p, sqAt := q, driverNext := d } := by
  unfold State.repredict
  split
  · split
    · exact s.setLastNext_spec n _
    · exact ⟨(s.outs[n]).pulses, (s.outs[n]).sqAt, (s.outs[n]).driverNext, (s.setOut_self n).symm⟩
  · exact ⟨(s.outs[n]).pulses, (s.outs[n]).sqAt, (s.outs[n]).driverNext, (s.setOut_self n).symm⟩

/-- A prediction leaves the registers and every other output. -/
theorem State.repredict_frame (s : State) (n : Fin 64) :
    (s.repredict n).regs = s.regs ∧ ∀ k, k ≠ n → (s.repredict n).outs[k] = s.outs[k] := by
  obtain ⟨p, q, d, h⟩ := s.repredict_spec n
  refine ⟨by rw [h]; rfl, fun k hk => ?_⟩
  rw [h]
  simp only [State.setOut, Fin.getElem_fin]
  exact Vector.getElem_set_ne _ _ (fun e => hk (Fin.ext e.symm))

end Sys2Proof.Machine
end

