-- ==== Sys2Proof/Laws/React.lean ====
section
/-!
SUPPORT. What the planes do when a source's grade changes (R65, R67, R70, R71): they touch themselves, their commit results and
the signals that a region's end raises. From it, what forming an input's grade anew leaves alone.
-/
namespace Sys2Proof.Machine

/-- `t` is `s` after reactions of the planes. -/
structure Reacts (s t : State) : Prop where
  rest : t = { s with regs := t.regs, planes := t.planes, draw := t.draw, faults := t.faults, events := t.events, evpend := t.evpend, evovf := t.evovf, pulsed := t.pulsed, sets := t.sets, wakes := t.wakes, msiDue := t.msiDue }
  regs : ∀ f n, f.reacts = false → t.rd f n = s.rd f n

variable {s t u : State}

theorem Reacts.refl (s : State) : Reacts s s := ⟨rfl, fun _ _ _ => rfl⟩

theorem Reacts.trans (a : Reacts s t) (b : Reacts t u) : Reacts s u where
  rest := by rw [b.rest, a.rest]
  regs f n h := (b.regs f n h).trans (a.regs f n h)

theorem Field.signal_reacts {f : Field} (h : f.reacts = false) : f.signal = false := by
  revert h; cases f <;> simp [Field.reacts, Field.signal]

theorem Signals.reacts (h : Signals s t) : Reacts s t :=
  ⟨by rw [h.rest], fun f n hf => h.regs f n (Field.signal_reacts hf)⟩

theorem Reacts.wr (s : State) (f : Field) (n v : Nat) (hf : f.reacts = true) : Reacts s (s.wr f n v) where
  rest := rfl
  regs g m hg := by
    apply State.rd_wr_ne
    rintro rfl
    simp [hf] at hg

theorem Reacts.setPlane (s : State) (p : Fin 4) (x : PlaneState) : Reacts s (s.setPlane p x) := ⟨rfl, fun _ _ _ => rfl⟩

theorem Reacts.fresh (s : State) : Reacts s s.fresh.2 := ⟨rfl, fun _ _ _ => rfl⟩

theorem Reacts.ite (c : Prop) [Decidable c] (a : Reacts s t) (b : Reacts s u) : Reacts s (if c then t else u) := by
  split <;> assumption

theorem Reacts.flag (s : State) (f : Field) (n : Nat) (hf : f.reacts = true) : Reacts s (s.flag f n) :=
  ((Reacts.wr s f n _ hf).trans (Signals.noteSet _ _ _ _).reacts).trans (State.flag_signals s f n).reacts

theorem State.closeRegion_reacts (s : State) (p : Fin 4) (r : Nat) : Reacts s (s.closeRegion p r) := by
  unfold State.closeRegion
  exact (((((Reacts.setPlane _ _ _).trans (Reacts.wr _ _ _ _ (by rfl))).trans (Reacts.wr _ _ _ _ (by rfl))).trans
    (Reacts.flag _ _ _ (by rfl))).trans (State.pulse_signals _ _).reacts).trans (State.log_signals _ _ _).reacts

theorem State.openRegion_reacts (s : State) (p : Fin 4) (pref : Nat) (o : Option Nat) : Reacts s (s.openRegion p pref o) := by
  unfold State.openRegion
  exact ((Reacts.setPlane _ _ _).trans (Reacts.wr _ _ _ _ (by rfl))).trans (Reacts.wr _ _ _ _ (by rfl))

theorem State.unready_reacts (s : State) (p : Fin 4) : Reacts s (s.unready p) := by
  unfold State.unready
  exact (Reacts.setPlane _ _ _).trans (Reacts.wr _ _ _ _ (by rfl))

theorem State.startGrowth_reacts (s : State) (p : Fin 4) (a : Nat) (x c : Rat) : Reacts s (s.startGrowth p a x c) := by
  unfold State.startGrowth
  exact (Reacts.setPlane _ _ _).trans (Reacts.wr _ _ _ _ (by rfl))

theorem State.enterGrowth_reacts (s : State) (p : Fin 4) (r : Nat) : Reacts s (s.enterGrowth p r) := by
  unfold State.enterGrowth
  extract_lets hm d s1
  have h1 : Reacts s s1 := Reacts.ite _ (Reacts.fresh s) (Reacts.refl s)
  have h2 : Reacts s1 (s1.wrB .PLn_STATE_SHORT_HIST p hm.2) := Reacts.wr _ _ _ _ (by rfl)
  exact (h1.trans h2).trans (State.startGrowth_reacts _ _ _ _ _)

theorem State.markLoss_reacts (s : State) (p : Fin 4) : Reacts s (s.markLoss p) := Reacts.setPlane _ _ _

theorem State.stopGrowth_reacts (s : State) (p : Fin 4) : Reacts s (s.stopGrowth p) := Reacts.setPlane _ _ _

theorem State.issueCommit_reacts (s : State) (p : Fin 4) (f l : Bool) : Reacts s (s.issueCommit p f l) := by
  unfold State.issueCommit
  split
  · exact Reacts.wr _ _ _ _ (by rfl)
  · refine Reacts.ite _ ?_ (State.closeRegion_reacts _ _ _)
    extract_lets pl s1 s2
    have h2 : Reacts s s2 := (Reacts.setPlane _ _ _).trans (Reacts.wr _ .PLn_COMMIT_RESULT _ _ rfl)
    exact h2.trans (Reacts.ite _ ((State.enterGrowth_reacts _ _ _).trans (State.markLoss_reacts _ _)) (Reacts.refl _))

theorem State.autoCommit_reacts (s : State) (p : Fin 4) (l : Bool) : Reacts s (s.autoCommit p l) := by
  unfold State.autoCommit
  refine Reacts.ite _ (Reacts.refl s) (Reacts.ite _ (Reacts.refl s) ?_)
  exact Reacts.trans (Reacts.ite _ (Reacts.refl s) (State.openRegion_reacts _ _ _ _)) (State.issueCommit_reacts _ _ _ _)

theorem State.prefReact_reacts (s : State) (c g0 g1 : Nat) (p : Fin 4) : Reacts s (s.prefReact c g0 g1 p) := by
  unfold State.prefReact
  split
  · exact Reacts.ite _ (Reacts.ite _ (State.closeRegion_reacts _ _ _) (Reacts.ite _ (Reacts.setPlane _ _ _) (Reacts.refl _)))
      (Reacts.refl _)
  · exact Reacts.refl _

theorem State.candReact_reacts (s : State) (c g0 g1 : Nat) (p : Fin 4) : Reacts s (s.candReact c g0 g1 p) := by
  unfold State.candReact
  refine Reacts.ite _ ?_ (Reacts.refl _)
  exact (State.unready_reacts _ _).trans (Reacts.ite _ (State.closeRegion_reacts _ _ _) (Reacts.refl _))

theorem State.activeReact_reacts (s : State) (c g0 g1 : Nat) (p : Fin 4) : Reacts s (s.activeReact c g0 g1 p) := by
  unfold State.activeReact
  refine Reacts.ite _ (Reacts.ite _ ?_ (Reacts.ite _ (State.autoCommit_reacts _ _ _)
    (Reacts.ite _ (Reacts.setPlane _ _ _) (Reacts.refl _)))) (Reacts.refl _)
  refine Reacts.ite _ ?_ ((Reacts.setPlane _ _ _).trans (State.autoCommit_reacts _ _ _))
  exact (State.closeRegion_reacts _ _ _).trans (Reacts.setPlane _ _ _)

theorem State.planeReact_reacts (c g0 g1 : Nat) (s : State) (p : Fin 4) : Reacts s (State.planeReact c g0 g1 s p) :=
  ((s.prefReact_reacts c g0 g1 p).trans (State.candReact_reacts _ c g0 g1 p)).trans (State.activeReact_reacts _ c g0 g1 p)

/-- A relation that every step of a fold keeps. -/
theorem State.forAll_induct {R : State → State → Prop} (hr : ∀ s, R s s) (ht : ∀ s t u, R s t → R t u → R s u)
    (k : Nat) (f : State → Fin k → State) (hf : ∀ s i, R s (f s i)) (s : State) : R s (s.forAll k f) := by
  unfold State.forAll
  generalize List.finRange k = l
  induction l generalizing s with
  | nil => exact hr s
  | cons a l ih => exact ht _ _ _ (hf s a) (ih (f s a))

theorem State.sourceChange_reacts (s : State) (c g0 g1 : Nat) : Reacts s (s.sourceChange c g0 g1) := by
  unfold State.sourceChange
  refine Reacts.ite _ (Reacts.refl s) ?_
  exact State.forAll_induct Reacts.refl (fun _ _ _ => Reacts.trans) 4 _ (State.planeReact_reacts c g0 g1) s

/-! ## Grades -/

/-- The register fields that forming a grade anew writes. -/
def Field.grades : Field → Bool
  | .INn_QUAL_GRADE | .INn_QUAL_EV | .INn_QUAL_HOLDING => true
  | f => f.reacts

/-- An input with another hold-off. -/
def InputState.withHold (x : InputState) (h : Option Nat) : InputState := { x with holdFrom := h }

/-- `t` is `s` with the grade of input `n` formed anew: of the inputs only the hold-off of `n` may have changed. -/
structure Grades (n : Fin 16) (s t : State) : Prop where
  rest : t = { s with inputs := t.inputs, regs := t.regs, planes := t.planes, draw := t.draw, faults := t.faults, events := t.events, evpend := t.evpend, evovf := t.evovf, pulsed := t.pulsed, sets := t.sets, wakes := t.wakes, msiDue := t.msiDue }
  regs : ∀ f k, f.grades = false → t.rd f k = s.rd f k
  others : ∀ k : Fin 16, k ≠ n → t.inputs[k] = s.inputs[k]
  own : t.inputs[n] = (s.inputs[n]).withHold (t.inputs[n]).holdFrom

variable {n : Fin 16}

theorem Grades.refl (n : Fin 16) (s : State) : Grades n s s := ⟨rfl, fun _ _ _ => rfl, fun _ _ => rfl, rfl⟩

theorem Grades.trans (a : Grades n s t) (b : Grades n t u) : Grades n s u where
  rest := by rw [b.rest, a.rest]
  regs f k h := (b.regs f k h).trans (a.regs f k h)
  others k h := (b.others k h).trans (a.others k h)
  own := by rw [b.own, a.own]; rfl

theorem Grades.ite (c : Prop) [Decidable c] (a : Grades n s t) (b : Grades n s u) : Grades n s (if c then t else u) := by
  split <;> assumption

theorem Reacts.inputs (h : Reacts s t) : t.inputs = s.inputs := by rw [h.rest]

theorem Reacts.grades (h : Reacts s t) : Grades n s t where
  rest := by rw [h.rest]
  regs f k hf := h.regs f k (by revert hf; cases f <;> simp [Field.grades, Field.reacts])
  others k _ := by rw [h.inputs]
  own := by rw [h.inputs]; rfl

theorem Grades.wr (s : State) (f : Field) (k v : Nat) (hf : f.grades = true) : Grades n s (s.wr f k v) where
  rest := rfl
  regs g m hg := by
    apply State.rd_wr_ne
    rintro rfl
    simp [hf] at hg
  others _ _ := rfl
  own := rfl

theorem Grades.hold (s : State) (n : Fin 16) (x : Option Nat) :
    Grades n s (s.setInp n { s.inputs[n] with holdFrom := x }) where
  rest := rfl
  regs _ _ _ := rfl
  others k h := by
    have : n.val ≠ k.val := fun e => h (Fin.ext e.symm)
    simp [this]
  own := by simp [InputState.withHold]

theorem State.setGrade_grades (s : State) (n : Fin 16) (g : Nat) : Grades n s (s.setGrade n g) := by
  unfold State.setGrade
  refine Grades.ite _ (Grades.refl n s) ?_
  extract_lets s1 s2
  have h0 : Grades n s (s.wr .INn_QUAL_GRADE n g) := Grades.wr _ _ _ _ rfl
  have h1 : Grades n s s1 := ((h0.trans (Grades.wr _ .INn_QUAL_EV n _ rfl)).trans (Signals.noteSet _ _ _ _).reacts.grades).trans
    (State.flag_signals _ _ _).reacts.grades
  have h2 : Grades n s1 s2 := ((State.log_signals _ _ _).trans (State.pulse_signals _ _)).reacts.grades
  exact (h1.trans h2).trans (State.sourceChange_reacts _ _ _ _).grades

theorem State.setHold_grades (s : State) (n : Fin 16) (h : Bool) (x : Option Nat) : Grades n s (s.setHold n h x) :=
  (Grades.hold s n x).trans (Grades.wr _ .INn_QUAL_HOLDING _ _ rfl)

theorem State.stopHold_grades (s : State) (n : Fin 16) : Grades n s (s.stopHold n) := State.setHold_grades s n false none

theorem State.regrade_grades (s : State) (n : Fin 16) : Grades n s (s.regrade n) := by
  have set : ∀ (s : State) h x g, Grades n s ((s.setHold n h x).setGrade n g) :=
    fun s h x g => (State.setHold_grades s n h x).trans (State.setGrade_grades _ _ _)
  unfold State.regrade
  refine Grades.ite _ (set _ _ _ _) (Grades.ite _ ?_ (Grades.ite _ (Grades.refl n s) ?_))
  · exact Grades.ite _ (set _ _ _ _) (Grades.ite _ (set _ _ _ _) (State.setGrade_grades _ _ _))
  · exact Grades.trans (Grades.ite _ (State.setGrade_grades _ _ _) (Grades.refl n s))
      (Grades.ite _ (Grades.refl n _) (State.setHold_grades _ n _ _))

theorem Grades.ecnt (h : Grades n s t) : (t.inputs[n]).ecnt = (s.inputs[n]).ecnt := by rw [h.own]; rfl
theorem Grades.absent (h : Grades n s t) : (t.inputs[n]).absent = (s.inputs[n]).absent := by rw [h.own]; rfl

/-- A grade set is the grade, cut to its field. -/
theorem State.setGrade_grade (s : State) (n : Fin 16) (g : Nat) (hg : g < 4) : (s.setGrade n g).rd .INn_QUAL_GRADE n = g := by
  unfold State.setGrade
  extract_lets old s1 s2
  split
  · assumption
  · rw [(State.sourceChange_reacts _ _ _ _).regs _ _ rfl]
    show ((s1.log _ _).pulse _).rd _ _ = _
    rw [((State.log_signals _ _ _).trans (State.pulse_signals _ _)).regs _ _ rfl, State.rd_flag _ _ _ _ _ rfl]
    simp [Field.info]
    omega

end Sys2Proof.Machine
end

