-- ==== Sys2Proof/Laws/Yacor.lean ====
section
/-!
SUPPORT. What a Yacor instruction without a device access does at its boundary: from the engine state that its effect makes, the
relation `State.Ran`.
-/
namespace Sys2Proof.Machine

variable {s t u b : State} {e : Fin 4} {i : YeInstr} {g : Engine}

/-- Without a master's write in the cycle an engine's access is plain (R164). -/
@[simp] theorem State.engineFirst_plain (s : State) (e : Fin 4) (f : State → State) (h : (s.engines[e]).putsNow s.now = []) :
    s.engineFirst e f = f s := by
  have h' : (s.engines[e.val]).putsNow s.now = [] := h
  simp [State.engineFirst, h']

theorem Reacts.engines (h : Reacts s t) : t.engines = s.engines := by rw [h.rest]

theorem State.leaveRegions_reacts (s : State) (m : Nat) : Reacts s (s.leaveRegions m) := by
  unfold State.leaveRegions
  refine State.forAll_induct Reacts.refl (fun _ _ _ => Reacts.trans) 4 _ (fun s p => ?_) s
  split
  · exact Reacts.ite _ (State.closeRegion_reacts _ _ _) (Reacts.refl _)
  · exact Reacts.refl _

@[simp] theorem State.setYe_engine (s : State) (e : Fin 4) (x : Engine) : (s.setYe e x).engines[e] = x := by
  simp [State.setYe]

theorem State.setYe_other (s : State) {e k : Fin 4} (h : k ≠ e) (x : Engine) : (s.setYe e x).engines[k] = s.engines[k] := by
  have : e.val ≠ k.val := fun h' => h (Fin.ext h'.symm)
  simp [State.setYe, this]

@[simp] theorem State.setYe_setYe (s : State) (e : Fin 4) (x y : Engine) : (s.setYe e x).setYe e y = s.setYe e y := by
  simp [State.setYe]

@[simp] theorem Engine.setReg_pc (g : Engine) (i : Fin 16) (v : DWord) : (g.setReg i v).pc = g.pc := by
  unfold Engine.setReg; split <;> rfl

@[simp] theorem Engine.setReg_cyc (g : Engine) (i : Fin 16) (v : DWord) : (g.setReg i v).cyc = g.cyc := by
  unfold Engine.setReg; split <;> rfl

@[simp] theorem Engine.setReg_stepping (g : Engine) (i : Fin 16) (v : DWord) : (g.setReg i v).stepping = g.stepping := by
  unfold Engine.setReg; split <;> rfl

theorem State.yeResult_eq (s : State) (e : Fin 4) (rd : Fin 16) (v : DWord) (n : Nat) :
    s.yeResult e rd v n = s.setYe e ((s.engines[e]).result rd v n) := by
  unfold State.yeResult State.yeSet State.cycles State.yeNext State.yeTo
  simp [Engine.result, Engine.went]

theorem State.yePred_eq (s : State) (e pd : Fin 4) (v : Bool) :
    s.yePred e pd v = s.setYe e (((s.engines[e]).setPred pd v).went ((s.engines[e]).pc + 1) 1) := by
  unfold State.yePred State.cycles State.yeNext State.yeTo
  simp [Engine.went, Engine.setPred]

theorem State.yeTo_eq (s : State) (e : Fin 4) (n pc : Nat) : (s.cycles e n).yeTo e pc = s.setYe e ((s.engines[e]).went pc n) := by
  unfold State.cycles State.yeTo
  simp [Engine.went]

/-- An engine that runs reads RUNNING. -/
theorem State.yeLive_running (h : s.yeLive e = true) : s.yeState e = stRunning := by
  unfold State.yeLive at h
  simp only [Bool.and_eq_true, beq_iff_eq] at h
  exact h.1.1.1

theorem Reacts.flagged (s : State) (f : Field) (n : Nat) : (s.flag f n).engines = s.engines := (s.flag_signals f n).engines

/-- A halt keeps the engine but for its wait and its step; it reads HALTED. -/
theorem State.yeHalt_engine (s : State) (e : Fin 4) (r : Nat) :
    (s.yeHalt e r).engines = s.engines.set e { s.engines[e] with wait := none, stepping := false } := by
  unfold State.yeHalt
  dsimp only
  rw [(State.leaveRegions_reacts _ _).engines, Reacts.flagged]
  rfl

theorem State.yeHalt_state (s : State) (e : Fin 4) (r : Nat) : (s.yeHalt e r).yeState e = stHalted := by
  unfold State.yeHalt State.yeState
  dsimp only
  rw [(State.leaveRegions_reacts _ _).regs _ _ rfl, State.rd_flag _ _ _ _ _ rfl, if_neg (by simp), State.rd_wr_ne _ (by simp)]
  simp [State.yeGo, stHalted, Field.info]

/-- The boundary after an instruction whose effect made the engine state `g`. -/
theorem State.boundary_ran (h : b.yeState e = stRunning) (hu : Settles ((b.setYe e g).boundary e) u) : b.Ran u e g := by
  have hb : (b.setYe e g).boundary e = if g.stepping then (b.setYe e g).yeHalt e haltStep
      else if (b.setYe e g).yeBreak e then (b.setYe e g).yeHalt e haltBkpt else b.setYe e g := by
    unfold State.boundary
    rw [if_neg (by simpa [State.yeState] using h)]
    simp
  have hbr : (b.setYe e g).yeBreak e = true ↔ b.breakAt e g.pc := by
    unfold State.yeBreak State.breakAt
    simp [State.bit]
  have other : ∀ k, k ≠ e → (b.engines.set e g)[k] = b.engines[k] := by
    intro k hk
    have : e.val ≠ k.val := fun h' => hk (Fin.ext h'.symm)
    simp [this]
  by_cases hs : g.stepping = true ∨ b.breakAt e g.pc
  · obtain ⟨r, hr⟩ : ∃ r, (b.setYe e g).boundary e = (b.setYe e g).yeHalt e r := by
      rw [hb]
      rcases hs with hs | hs
      · exact ⟨_, by rw [if_pos hs]⟩
      · by_cases h1 : g.stepping = true
        · exact ⟨_, by rw [if_pos h1]⟩
        · exact ⟨_, by rw [if_neg h1, if_pos (hbr.2 hs)]⟩
    have he := hu.engines
    rw [hr, State.yeHalt_engine] at he
    have own : u.engines[e] = { g with wait := none, stepping := false } := by rw [he]; simp
    refine ⟨by rw [own], ?_, ?_, ?_⟩
    · intro k hk
      have : e.val ≠ k.val := fun h' => hk (Fin.ext h'.symm)
      rw [he]; simp [State.setYe, this]
    · intro h1 h2; rcases hs with hs | hs
      · simp [h1] at hs
      · exact absurd hs h2
    · intro _
      refine ⟨?_, by rw [own]⟩
      unfold State.yeState
      rw [hu.regs _ _ rfl, hr]
      exact State.yeHalt_state _ _ _
  · have hn : (b.setYe e g).boundary e = b.setYe e g := by
      rw [hb, if_neg (fun h => hs (Or.inl h)), if_neg (fun h => hs (Or.inr (hbr.1 h)))]
    rw [hn] at hu
    have own : u.engines[e] = g := by rw [hu.engines]; simp
    refine ⟨by rw [own], fun k hk => by rw [hu.engines]; exact other k hk, fun _ _ => ⟨own, ?_, ?_⟩, fun h' => absurd h' hs⟩
    · rw [hu.rest]; rfl
    · intro f n _ hf
      exact hu.regs f n hf

/-- An instruction without a trap, whose effect makes the engine state `g` and touches nothing else. -/
theorem State.yeInstr_ran (h : b.CanRun e i) (hd : i.usesDmem = false ∨ (b.engines[e]).putsNow b.now = []) (hi : b.yeEffect e i .none = b.setYe e g) (s : State) :
    ∃ u, finish s (b.yeInstr e i .none false) = .next u ∧ b.Ran u e g := by
  obtain ⟨u, hu, hs, -⟩ := finish_settles s (b.yeInstr e i .none false)
  refine ⟨u, hu, State.boundary_ran (State.yeLive_running h.1) ?_⟩
  have : b.yeInstr e i .none false = (b.setYe e g).boundary e := by
    unfold State.yeInstr State.issue
    rw [if_neg (by simp [h.2.1]), if_pos (by simp [h.1, h.2.2.1]), h.2.2.2]
    rcases hd with hd | hd
    · simp [hd, hi]
    · have hd' : (b.engines[e.val]).putsNow b.now = [] := hd
      simp [hd', hi]
  rwa [← this]

end Sys2Proof.Machine
end

