-- ==== Sys2Proof/WellFormed.lean ====
section
/-!
DEFINITION. Which commands can reach the device: what is ill formed about a command that cannot, by name. A well-formed command
is one the spec lets the outside send; whether it then has an effect is its meaning's concern.
-/
namespace Sys2Proof

/-- What is ill formed about a command. -/
inductive IllFormed where
  /-- an access by a master that reaches registers otherwise: the engines by their instructions (R167), masters 8 to 10 not at
  all (R375) -/
  | notAPort
  /-- a burst from a port other than PCIe and SPI (R8) -/
  | notABurstPort
  /-- an address that is not that of a word of the 4 MiB map (R378, R387) -/
  | outsideMap
  /-- a request or frame of no words -/
  | emptyRequest
  /-- a READ or STATUS command byte in a frame that is neither (R384) -/
  | notAWriteFrame
  /-- a descriptor that is not 64 bytes long (R239) -/
  | notADescriptor
  /-- an overrun of no cycles (R169) -/
  | notLate
  /-- a lowest sample above the latest one, or a sample wider than 12 bits (R346) -/
  | notALowest
  deriving DecidableEq, Repr

/-- The reason where a condition fails. -/
def require (b : Bool) (x : IllFormed) : List IllFormed := if b then [] else [x]

/-- Masters whose accesses arrive as commands: PCIe, SPI, the keeper, JTAG. -/
def port (m : Master) : List IllFormed := require (m == .pcie || m == .spi || m == .keeper || m == .jtag) .notAPort
def burstPort (m : Master) : List IllFormed := require (m == .pcie || m == .spi) .notABurstPort
def inMap (a : Nat) : List IllFormed := require (a % 4 == 0 && decide (a < 0x400000)) .outsideMap
def request (n : Nat) : List IllFormed := require (decide (0 < n)) .emptyRequest
def writeFrame (cmd : Byte) : List IllFormed := require (cmd != 0x0B && cmd != 0x05) .notAWriteFrame
def descriptor (d : List Byte) : List IllFormed := require (d.length == 64) .notADescriptor
def late (excess : Nat) : List IllFormed := require (decide (0 < excess)) .notLate
def lowest (low mv : Nat) : List IllFormed := require (decide (low ≤ mv && mv < 4096)) .notALowest

/-- Everything that is ill formed about a command. -/
def Instr.faults (i : Instr) : List IllFormed :=
  match i with
  | .registerWrite _ m addr _ => port m ++ inMap addr
  | .hiWriteHeld _ m addr _ => port m ++ inMap addr
  | .loWriteCommit _ m addr _ => port m ++ inMap addr
  | .burstPairWrite _ m addr _ _ => burstPort m ++ inMap addr
  | .loReadLatch _ m addr => port m ++ inMap addr
  | .inputEdge _ _ => []
  | .inCfgWrite _ m _ _ => port m
  | .reanchor _ m _ => port m
  | .inTypeWrite _ m _ _ => port m
  | .inDivWrite _ m _ _ => port m
  | .inNomCommit _ m _ _ => port m
  | .swphaseCommit _ m _ _ => port m
  | .measGateEnd _ _ => []
  | .measStatusRead _ m _ => port m
  | .activityTimeout _ _ => []
  | .driftObservation _ _ => []
  | .driftEval _ _ _ => []
  | .holdoffExpire _ _ => []
  | .xoCoarseGate _ _ => []
  | .xoFineGate _ _ => []
  | .atomEdge _ => []
  | .atomGateEnd _ => []
  | .atomCfgWrite _ m _ => port m
  | .atomPresentRise _ => []
  | .atomPresentFall _ => []
  | .planeTick => []
  | .correctionInForce => []
  | .plCtrlWrite _ m _ _ => port m
  | .plRefselWrite _ m _ _ => port m
  | .shadowCandWrite _ m _ _ => port m
  | .pboWrite _ m _ _ => port m
  | .steerCommit _ m _ _ => port m
  | .historyRecord _ _ => []
  | .growthSecond _ _ => []
  | .commitBegin _ m _ _ => port m
  | .commitGo _ m _ _ => port m
  | .commitAbandon _ m _ => port m
  | .modelLoad _ m _ => port m
  | .modelClear _ m => port m
  | .modelAgeSecond _ => []
  | .xoLoss _ => []
  | .apllEnable _ m _ _ => port m
  | .apllDisable _ m _ _ => port m
  | .apllConfigWrite _ m _ _ _ => port m
  | .apllRelock _ m _ _ => port m
  | .apllBandselDone _ _ => []
  | .apllLockAchieved _ _ => []
  | .apllLockTimeout _ _ => []
  | .apllRetry _ _ => []
  | .apllDepart _ _ _ => []
  | .apllLockLost _ _ => []
  | .apllAutoRelock _ _ => []
  | .trimUpdate _ _ _ _ => []
  | .trimTableWrite _ m _ _ _ => port m
  | .xphMeasure _ _ => []
  | .swapEdge _ _ => []
  | .outputEdgePlace _ _ => []
  | .outCfgWrite _ m _ _ => port m
  | .outRatioWrite _ m _ _ _ => port m
  | .outShadowRatioWrite _ m _ _ _ => port m
  | .outputStart _ _ => []
  | .phaseCommit _ m _ _ => port m
  | .outDelayWrite _ m _ _ => port m
  | .outSlewWrite _ m _ _ => port m
  | .outHop _ m _ _ => port m
  | .outRestart _ m _ => port m
  | .stopslew _ m _ => port m
  | .outSrcPlWrite _ m _ _ => port m
  | .outSrcApllWrite _ m _ _ => port m
  | .edgeadjRead _ m _ => port m
  | .bankSupplyChange _ _ _ => []
  | .bankSupplyStable _ _ => []
  | .shed3Step _ => []
  | .btGateEnd _ _ _ _ => []
  | .btselWrite _ m _ _ => port m
  | .sheafMembersWrite _ m _ _ => port m
  | .sheafHop _ m _ _ _ _ => port m
  | .sheafPhase _ m _ _ _ _ => port m
  | .sheafHopPhase _ m _ _ _ _ => port m
  | .sheafCancel _ m _ _ => port m
  | .sheafFix _ _ => []
  | .sheafPlace _ _ => []
  | .hopEffective _ _ => []
  | .sheafDone _ _ => []
  | .todSetTick _ m _ => port m
  | .todSetSec _ m _ => port m
  | .todAdj _ m _ => port m
  | .todStepApply _ _ => []
  | .secondBoundary _ _ => []
  | .stampCapture _ _ => []
  | .stampPop _ m _ => port m
  | .stampLostRead _ m _ => port m
  | .stampCfgWrite _ m _ _ => port m
  | .stampNow _ m => port m
  | .todRecRead _ m _ => port m
  | .tebTotalRead _ m _ => port m
  | .add _ _ _ _ _ => []
  | .sub _ _ _ _ _ => []
  | .and_ _ _ _ _ _ => []
  | .or_ _ _ _ _ _ => []
  | .xor_ _ _ _ _ _ => []
  | .shl _ _ _ _ _ => []
  | .shr _ _ _ _ _ => []
  | .sar _ _ _ _ _ => []
  | .mul _ _ _ _ _ => []
  | .mulh _ _ _ _ _ => []
  | .sat _ _ _ _ _ => []
  | .addi _ _ _ _ _ => []
  | .andi _ _ _ _ _ => []
  | .ori _ _ _ _ _ => []
  | .xori _ _ _ _ _ => []
  | .shli _ _ _ _ _ => []
  | .shri _ _ _ _ _ => []
  | .sari _ _ _ _ _ => []
  | .li _ _ _ _ => []
  | .lis _ _ _ _ => []
  | .cmp _ _ _ _ _ _ => []
  | .cmpi _ _ _ _ _ _ => []
  | .plog _ _ _ _ _ _ => []
  | .jmp _ _ _ => []
  | .bt _ _ _ _ => []
  | .bf _ _ _ _ => []
  | .jal _ _ _ _ => []
  | .jr _ _ _ => []
  | .ld _ _ _ _ _ _ => []
  | .st _ _ _ _ _ => []
  | .rds _ _ _ _ => []
  | .rdd _ _ _ _ => []
  | .rddp _ _ _ _ => []
  | .wrd _ _ _ _ => []
  | .wrdp _ _ _ _ => []
  | .waitev _ _ _ _ _ => []
  | .waitevRelease _ _ _ => []
  | .evpoll _ _ _ _ => []
  | .tset _ _ _ _ => []
  | .tsetp _ _ _ _ => []
  | .tstop _ _ _ => []
  | .measStat _ _ _ _ _ => []
  | .measFreq _ _ _ _ => []
  | .measRaw _ _ _ _ => []
  | .measPhase _ _ _ _ _ => []
  | .steer _ _ _ _ _ => []
  | .phstep _ _ _ _ => []
  | .hop _ _ _ _ _ _ _ _ _ _ => []
  | .selref _ _ _ _ => []
  | .specBegin _ _ _ _ _ => []
  | .specCommit _ _ _ _ _ => []
  | .specAbandon _ _ _ _ => []
  | .post _ _ _ _ _ _ _ => []
  | .fetch _ _ _ _ _ _ => []
  | .tnow _ _ _ _ _ => []
  | .watchdogExpire _ _ => []
  | .trapRestart _ _ => []
  | .rstcntClear _ _ => []
  | .timerExpire _ _ _ => []
  | .eventLinePulse _ _ => []
  | .devAccessOverrun _ _ _ excess => late excess
  | .devAccessTimeout _ _ _ => []
  | .yeStart _ m _ _ => port m
  | .yeHalt _ m _ _ => port m
  | .yeStep _ m _ _ => port m
  | .yeReset _ m _ _ => port m
  | .yeVerify _ m _ _ => port m
  | .sigVerifyDone _ _ => []
  | .imemWrite _ m _ _ _ => port m
  | .dmemMasterAccess _ m _ _ _ => port m
  | .yeRegWrite _ m _ _ => port m
  | .yeSwev _ m _ => port m
  | .yeDetlossRead _ m _ => port m
  | .lzFrameTx _ _ _ => []
  | .lzFrameRx _ _ _ _ _ => []
  | .lzAlignFound _ _ => []
  | .lzRtdMean _ _ => []
  | .lzRxTimeout _ _ => []
  | .lzCfgWrite _ m _ _ => port m
  | .lzAcalGo _ m _ _ => port m
  | .lzAcalEnd _ _ => []
  | .lzTakeover _ _ => []
  | .lzErrcntRead _ m _ => port m
  | .tokSqDoorbell _ m _ _ => port m
  | .tokDescFetch _ _ desc _ _ _ => descriptor desc
  | .tokAdmit _ _ _ => []
  | .nop _ _ _ => []
  | .ntsRespond _ _ _ => []
  | .ntsKe _ _ _ => []
  | .ptpAuth _ _ _ => []
  | .gcmSeal _ _ _ => []
  | .gcmOpen _ _ _ => []
  | .stamp _ _ _ => []
  | .tokStampStage _ _ => []
  | .tokCompletionWrite _ _ _ _ => []
  | .tokCqHeadWrite _ m _ _ => port m
  | .tokCqIrqTimer _ _ => []
  | .tokSqDisable _ m _ _ => port m
  | .tokCqDisable _ m _ _ => port m
  | .tokNtsKeysWrite _ m _ => port m
  | .tokDvfsStep _ _ => []
  | .tokEntropyFail _ => []
  | .tokCounterRead _ m _ => port m
  | .capsuleSubmit _ m => port m
  | .capsuleStaged _ => []
  | .capsuleCommit _ m _ => port m
  | .grnZeroise _ m _ => port m
  | .grnReseed _ m _ => port m
  | .tamperDetect _ _ => []
  | .tamperSample _ _ => []
  | .mbTxWrite _ m _ _ => port m
  | .mbRxRead _ m _ => port m
  | .mbLockRead _ m _ => port m
  | .mbLockWrite _ m _ _ => port m
  | .mbBindWrite _ m _ _ => port m
  | .mbEndrst _ m _ _ => port m
  | .mbTmoExpire _ _ _ => []
  | .version _ _ => []
  | .getCert _ _ => []
  | .attest _ _ => []
  | .loadYacor _ _ => []
  | .bootSelect _ _ => []
  | .faultRecord _ _ _ => []
  | .keeperLoad _ _ => []
  | .telemetry _ _ => []
  | .refitNow _ _ _ => []
  | .logRead _ _ _ _ => []
  | .unknownType _ _ => []
  | .flashRead _ _ => []
  | .flashErase _ _ => []
  | .flashWrite _ _ => []
  | .recoveryReboot _ _ => []
  | .keeperRefit _ => []
  | .telemetrySample _ _ _ _ _ _ => []
  | .keeperLoadWindow _ _ => []
  | .keeperBeat _ => []
  | .faultDetect _ _ _ _ => []
  | .reactionEnd _ _ _ => []
  | .maskWindowEnd _ _ _ => []
  | .faultGraceExpire _ _ _ => []
  | .faultRecovery _ => []
  | .fltAck _ m _ _ => port m
  | .fltInject _ m _ => port m
  | .fltRearm _ m => port m
  | .fltSwraise _ m _ => port m
  | .aliveToggle _ => []
  | .coalHoldExpire _ _ => []
  | .gleanerMove _ _ => []
  | .evrHostIrqTimer _ => []
  | .evrEntryPop _ m => port m
  | .evrCounterRead _ m _ => port m
  | .roscCrosscheck _ _ => []
  | .roscXoMeasure _ _ _ => []
  | .monitorWindowEnd _ _ _ => []
  | .clkReturn _ m _ => port m
  | .npClockCoast _ _ => []
  | .npClockRelock _ _ => []
  | .muxHang _ _ => []
  | .gateRequest _ _ _ => []
  | .gateForce _ _ => []
  | .islandWake _ _ => []
  | .dvfsRequest _ m _ => port m
  | .dvfsDone _ _ => []
  | .powerStateEval _ => []
  | .keeperTimerExpire _ => []
  | .shedEnter _ _ _ => []
  | .shedExit _ _ _ _ => []
  | .brownOut _ _ _ => []
  | .gpioInputChange _ _ _ => []
  | .calGo _ m _ => port m
  | .calAbort _ m _ => port m
  | .calPhaseAEnd _ _ => []
  | .calPhaseAdvance _ _ => []
  | .calRunEnd _ => []
  | .calApplyGo _ m _ => port m
  | .calRevert _ m _ => port m
  | .calImageWrite _ m _ _ => port m
  | .suppliesGood _ => []
  | .trimLoadDone _ _ => []
  | .bootcfgRead _ => []
  | .keeperBoot _ _ _ => []
  | .mainSupplyLoss _ => []
  | .softResetWarm _ m _ => port m
  | .warmResetRelease _ => []
  | .softResetCold _ m _ => port m
  | .softResetRecover _ m _ => port m
  | .hifReset _ _ => []
  | .pcieLinkUp _ => []
  | .pcieMemRead _ addr n _ => inMap addr ++ request n
  | .pcieMemWrite _ addr data _ => inMap addr ++ request data.length
  | .spiRead _ _ n _ => request n
  | .spiWrite _ cmd _ _ _ => writeFrame cmd
  | .spiStatus _ _ => []
  | .msixSend _ _ => []
  | .msixUnmask _ m _ => port m
  | .pwrRailMinRead _ m _ mv low => port m ++ lowest low mv
  | .undefinedEncoding _ _ _ => []
  | .pcieConfigWrite _ _ _ _ _ => []
  | .entropyHealthPass _ => []
  | .vtMarginRise _ _ => []
  | .vbatLoss _ => []

/-- The command is well formed. -/
def Instr.wf (i : Instr) : Bool := i.faults.isEmpty

end Sys2Proof
end

