-- ==== Sys2Proof/Tests/Slice0.lean ====
section
/-! SUPPORT. The model's own tests: an ill-formed command for each reason WellFormed names, words and check values written
out from the spec or from the standards it names, single steps on small states, and, one theorem per obligation, a state
and operands that meet each clause's hypotheses together. -/
namespace Sys2Proof.Tests
open Sys2Proof Sys2Proof.Machine
set_option linter.all false
set_option Elab.async false
/-- A part with its supplies good, its keeper started once and its timebase running. -/
def powered : State :=
  { State.reset with boot := { BootState.init with supplies := true, keeperRan := true }, timebase := true } |>.wr .DEV_STATE_TIMING 0 4
/-- The same part, some days later. -/
def late : State := { powered with now := 10 ^ 18 }
/-- A present, enabled input of the type. -/
def input (n : Fin 16) (type : Nat) (x : InputState) (s : State) : State :=
  ((s.setInp n x).wr .INn_CFG_EN n 1).wr .INn_TYPE n type
/-- Engine `e` runs, with `i` at its PC, word 0. -/
def runs (e : Fin 4) (i : YeInstr) (s : State) : State :=
  (s.setYe e { s.engines[e] with imem := [(0, yeEncode i)] }).wr .YEe_STAT_STATE e stRunning
/-- A frame of link bytes with its check. -/
def checked (l : List Byte) : List Byte := l ++ leBytes 4 (crc32c l).toNat
/-- The same part with its host link powered and bus master on. -/
def linked : State := { late with hif := { HifState.init with up := true, busMaster := true } }
/-- What an engine has fetched: a descriptor of the first bytes given, zeros behind, and its source. -/
def fetched (head src : List Byte) : Fetched := ⟨head ++ List.replicate (64 - head.length) 0, src, [], true⟩
/-- A stamped job of tag 511 whose key is in slot 0. -/
def jobOf (d : Fetched) : Job := ⟨511, 0, 0, d, [(0, 0)], 0, some (TimeRec.zero, 0), none, none⟩
def key0 : CacheEntry := ⟨0, 0, List.replicate 32 0, List.replicate 32 0⟩
/-- The engine with that job and that key. -/
def jobbed (j : Job) : State := late.setTok { late.tok with jobs := [j], cache := [key0] }
/-- Sixteen keys, and a job that pins them all. -/
def pinnedCache : List CacheEntry := (List.range 16).map (fun k => ⟨k, 0, [], []⟩)
def pinning : Job := { jobOf (fetched [] []) with sq := 1, pins := (List.range 16).map (fun k => (k, 0)) }
def sealing : Fetched := fetched ([3, 0, 0, 63] ++ List.replicate 16 0 ++ [255]) []
/-- A message of the type waits for the keeper, or in mode 2 the recovery service, on channel 15, from the end with the code. -/
def header (type len : Nat) : Word := BitVec.ofNat 32 (type * 2 ^ 20 + len)
def queued (l : List Word) (s : State) : State :=
  { s with mbox := s.mbox.set 15 { s.mbox[15] with out := s.mbox[15].out.set 0 { s.mbox[15].out[0] with words := l } } }
def asking (mode code type : Nat) (p : List Word) : State :=
  queued (header type p.length :: p) late |>.wr .MBn_BIND_END0 15 code |>.wr .MBn_BIND_END1 15 3 |>.wr .DEV_STATE_KEEPER 0 mode
/-- A submitted capsule of no device: its kind is 0, its signer slot 63, its generation and its counter as given. -/
def capWin (x ctr gen : Nat) : List (Nat × Word) :=
  [(0, 0x4E444C52), (1, 0x013F0001)] ++ [2, 3, 4, 5].map (fun i => (i, BitVec.ofNat 32 (x / 2 ^ (32 * (i - 2))))) ++
  [(6, BitVec.ofNat 32 gen), (7, BitVec.ofNat 32 ctr)]
def capsuled (ctr gen : Nat) (s : State) : State :=
  s.setGrn { s.grn with win := capWin Config.uid.toNat ctr gen } |>.wr .GRN_CAP_LEN 0 232
theorem capWin_uid (x c g : Nat) :
    slice (((List.range 58).flatMap fun i => wordBytes (Store.get (capWin x c g) i 0)).take 232) 8 16 = leBytes 16 x := by
  have h : slice (((List.range 58).flatMap fun i => wordBytes (Store.get (capWin x c g) i 0)).take 232) 8 16 =
    [0, 1, 2, 3].flatMap (fun i => wordBytes (BitVec.ofNat 32 (x / 2 ^ (32 * i)))) := rfl
  rw [h]
  simp only [List.flatMap_cons, List.flatMap_nil, wordBytes, leBytes, List.cons_append, List.nil_append, List.cons.injEq,
    Nat.div_div_eq_div_mul, List.append_nil, and_true]
  refine ⟨?_, ?_, ?_, ?_, ?_, ?_, ?_, ?_, ?_, ?_, ?_, ?_, ?_, ?_, ?_, ?_⟩ <;> apply BitVec.eq_of_toNat_eq <;>
    simp [BitVec.toNat_setWidth, BitVec.toNat_ushiftRight, Nat.shiftRight_eq_div_pow] <;> omega
/-- A request of NTS whose cookie and authenticator are sealed with keys of zeros. -/
def request : List Byte :=
  List.replicate 20 0 ++ [107, 107, 254, 34, 251, 190, 71, 196, 142, 206, 26, 27, 20, 51, 19, 210] ++
  [56, 14, 41, 231, 72, 182, 76, 99, 178, 134, 187, 104, 82, 89, 96, 232, 209, 204, 245, 20, 2, 234, 208, 113] ++
  [30, 191, 38, 203, 212, 185, 62, 76, 142, 60, 29, 198, 166, 152, 171, 189, 188, 148, 51, 31, 48, 186, 64, 36] ++
  [120, 247, 119, 59, 92, 189, 124, 60, 251, 37, 88, 201, 122, 83, 253, 159, 182, 130, 1, 79, 40, 229, 14, 132] ++
  [0, 0, 0, 24, 0, 0, 0, 16] ++ [86, 175, 154, 150, 224, 95, 12, 162, 173, 27, 118, 133, 88, 151, 81, 13]
theorem blMaster (s : State) (h : s.boot.otpBad = true) : s.hasMaster .jtag = false := by
  simp [State.hasMaster, State.isBL, h]
/-- A program of one word, 15th of the program set. -/
def program : List Byte :=
  [0x59, 0x43, 0x4F, 0x52, 1, 0, 0, 0, 1, 0, 0, 0] ++ List.replicate 8 0 ++ leBytes 4 3831483259 ++ List.replicate 108 0
def flashed (s : State) : State :=
  { s with flash := (List.range 132).map (fun i => (0x1000 + i, program.getD i 0)) ++
      (leBytes 8 (132 * 2 ^ 32 + 0x1000)).zipIdx.map (fun x => (0x790078 + x.2, x.1)) }
theorem program_good : goodProgram program = some (1, 0) := by
  have h : crc32c (program.take 20 ++ [0, 0, 0, 0] ++ slice program 24 (128 + 4 * leAt program 8 2 + 8 * leAt program 10 2 - 24)) =
      3831483259#32 := by
    have e : program.take 20 ++ [0, 0, 0, 0] ++ slice program 24 (128 + 4 * leAt program 8 2 + 8 * leAt program 10 2 - 24) =
        (program.take 20 ++ List.replicate 46 0) ++ List.replicate 66 0 := by decide +kernel
    have f : (program.take 20 ++ List.replicate 46 0).foldl crcByte 0xFFFFFFFF#32 = 0x0fec6ea2#32 := by decide +kernel
    rw [e, crc32c, List.foldl_append, f]; decide +kernel
  unfold goodProgram; simp only [h]; decide +kernel
/-- The state after a command. -/
def after (c : Instr) (s : State) : State :=
  match exec c s with
  | .next u => u
  | _ => s
/-- Engine 3 with the values in G1, G2 and G3, about to run the instruction. -/
def engine (i : YeInstr) (a b c : DWord) : State :=
  powered.setYe 3 (((powered.engines[3].setReg 1 a).setReg 2 b).setReg 3 c) |> runs 3 i
/-- Register `r` of engine 3. -/
def got (s : State) (r : Fin 16) : DWord := s.engines[3].reg r

/-! ## Well-formed commands, and an ill-formed one for each reason -/

theorem test_wellFormed : (Instr.registerWrite 0 .spi 0x3FFFFC 5).faults = [] ∧ (Instr.burstPairWrite 0 .pcie 0 1 2).faults = [] ∧
    (Instr.spiRead 0 0 1 .whole).faults = [] ∧ (Instr.spiWrite 0 2 0 [] true).faults = [] ∧
    (Instr.tokDescFetch 0 3 (List.replicate 64 0) [] [] true).faults = [] ∧ (Instr.devAccessOverrun 0 3 ⟨0, .none⟩ 1).faults = [] ∧
    (Instr.pwrRailMinRead 0 .keeper 2 4095 4095).faults = [] ∧ (Instr.planeTick).faults = [] := by decide +kernel
theorem test_notAPort : (Instr.registerWrite 0 (.ye 0) 0 5).faults = [.notAPort] ∧
    (Instr.fltAck 0 .gleaner false 0).faults = [.notAPort] := by decide +kernel
theorem test_notABurstPort : (Instr.burstPairWrite 0 .keeper 0 1 2).faults = [.notABurstPort] := by decide +kernel
theorem test_outsideMap : (Instr.registerWrite 0 .pcie 0x400000 5).faults = [.outsideMap] ∧
    (Instr.loReadLatch 0 .pcie 2).faults = [.outsideMap] := by decide +kernel
theorem test_emptyRequest : (Instr.pcieMemRead 0 0 0 false).faults = [.emptyRequest] ∧
    (Instr.spiRead 0 0 0 .whole).faults = [.emptyRequest] := by decide +kernel
theorem test_notAWriteFrame : (Instr.spiWrite 0 0x0B 0 [] false).faults = [.notAWriteFrame] := by decide +kernel
theorem test_notADescriptor : (Instr.tokDescFetch 0 3 [] [] [] true).faults = [.notADescriptor] := by decide +kernel
theorem test_notLate : (Instr.devAccessOverrun 0 3 ⟨0, .none⟩ 0).faults = [.notLate] := by decide +kernel
theorem test_notALowest : (Instr.pwrRailMinRead 0 .pcie 2 5 6).faults = [.notALowest] ∧
    (Instr.pwrRailMinRead 0 .pcie 2 4096 6).faults = [.notALowest] := by decide +kernel

/-! ## The words of R194's worked example, and published check values of the algorithms the spec names (RFC 3720, FIPS 180-4, FIPS 197) -/

theorem test_words : yeDecode 0x4DC0001F = some (.li 7 31) ∧ yeDecode 0x80414002 = some (.rdd 1 (.abs 0x14002)) ∧
    yeDecode 0x65000011 = some (.bt 1 17) ∧ yeDecode 0xB4000007 = some (.selref 0 (.code 7)) ∧
    yeDecode 0xBA000003 = some (.specBegin 8 0 3) ∧ yeDecode 0x91500001 = some (.waitev 5 4 1) ∧
    yeDecode 0x10000000 = some (.or_ 0 0 0) := by decide +kernel
theorem test_reservedWords : yeDecode 0 = none ∧ yeDecode 0xFFFFFFFF = none := by decide +kernel
theorem test_crc32c : crc32c (ascii "123456789") = 0xE3069283#32 := by decide +kernel
theorem test_sha256 : beNat (sha256 (ascii "abc")) =
    0xba7816bf8f01cfea414140de5dae2223b00361a396177a9cb410ff61f20015ad := by decide +kernel
theorem test_aes128 : aesEnc (beBytes 16 0x000102030405060708090a0b0c0d0e0f) (beBytes 16 0x00112233445566778899aabbccddeeff) =
    beBytes 16 0x69c4e0d86a7b0430d8cdb78070b4c55a := by decide +kernel

/-! ## One step each -/

/-- R195: a sum wraps at 2⁶⁴, and takes one cycle. -/
theorem test_add_wraps : let u := after (.add 0 3 1 2 3) (engine (.add 1 2 3) 9 (2 ^ 64 - 1) 2)
    got u 1 = 1 ∧ u.engines[3].pc = 1 ∧ u.engines[3].cyc = 1 := by decide +kernel
/-- R161: G0 reads zero and discards writes. -/
theorem test_add_g0 : got (after (.add 0 3 0 2 3) (engine (.add 0 2 3) 9 5 2)) 0 = 0 := by decide +kernel
/-- R195: only six bits of the count act; SAR fills with bit 63. -/
theorem test_shifts : got (after (.shl 0 3 1 2 3) (engine (.shl 1 2 3) 0 3 65)) 1 = 6 ∧
    got (after (.sar 0 3 1 2 3) (engine (.sar 1 2 3) 0 (2 ^ 63) 63)) 1 = 2 ^ 64 - 1 ∧
    got (after (.shr 0 3 1 2 3) (engine (.shr 1 2 3) 0 (2 ^ 63) 63)) 1 = 1 := by decide +kernel
/-- R195: the signed upper half, rounded toward minus infinity. -/
theorem test_mulh : got (after (.mulh 0 3 1 2 3) (engine (.mulh 1 2 3) 0 (2 ^ 64 - 1) 2)) 1 = 2 ^ 64 - 1 := by decide +kernel
/-- R195: SAT to w bits, 0 meaning 64. -/
theorem test_sat : got (after (.sat 0 3 1 2 8) (engine (.sat 1 2 8) 0 200 0)) 1 = 127 ∧
    got (after (.sat 0 3 1 2 8) (engine (.sat 1 2 8) 0 (-200) 0)) 1 = -128 ∧
    got (after (.sat 0 3 1 2 0) (engine (.sat 1 2 0) 0 (-200) 0)) 1 = -200 := by decide +kernel
/-- R195: the example of LI and LIS. -/
theorem test_lis : got (after (.lis 0 3 1 0x0088) (engine (.lis 1 0x0088) 0x10 0 0)) 1 = 0x00100088 := by decide +kernel
/-- R196: a CMPI immediate of LTU is sign-extended, then unsigned. -/
theorem test_cmpi : (after (.cmpi 0 3 1 .ltu 2 131071) (engine (.cmpi 1 .ltu 2 131071) 0 5 0)).engines[3].p[1] = true := by decide +kernel
/-- R197: JR past word 4095 traps PC_END, cause 6 of R178. -/
theorem test_jr : let u := after (.jr 0 3 2) (engine (.jr 2) 0 4096 0)
    u.rd .YEe_STAT_STATE 3 = 4 ∧ u.rd .YEe_TRAP_CAUSE 3 = trapPcEnd ∧ u.engines[3].pc = 0 := by decide +kernel
/-- R197: the link is the next word. -/
theorem test_jal : let u := after (.jal 0 3 1 4095) (engine (.jal 1 4095) 0 0 0)
    got u 1 = 1 ∧ u.engines[3].pc = 4095 := by decide +kernel
/-- R8: the _HI word waits in the holding register of its master; the _LO write commits both. -/
theorem test_pair : let u := after (.hiWriteHeld 0 .spi (Reg.SHk_AT_S.addr 3 + 4) 0x0001) powered
    (u.mst .spi).hold = 1 ∧ (u.mst .pcie).hold = 0 ∧ u.rd .SHk_AT_S 3 = 0 ∧
    (after (.loWriteCommit 0 .spi (Reg.SHk_AT_S.addr 3) 0x0002) u).rd .SHk_AT_S 3 = 0x100000002 := by decide +kernel
/-- R6: W1C bits clear where a one is written. -/
theorem test_w1c : let s := powered |>.wr .OBb_EV_SUPPLY_CHG 7 1
    (after (.registerWrite 0 .pcie (Reg.OBb_EV.addr 7) 0) s).rd .OBb_EV_SUPPLY_CHG 7 = 1 ∧
    (after (.registerWrite 0 .pcie (Reg.OBb_EV.addr 7) 0xFFFFFFFF) s).rd .OBb_EV_SUPPLY_CHG 7 = 0 := by decide +kernel
/-- R120, R124: a hop to an invalid shadow ratio sets WERR and changes nothing else of the output. -/
theorem test_hop : (after (.outHop 0 .pcie 63 true) (powered.wr .OUTn_STAT_RUN 63 2)).rd .OUTn_EV_WERR 63 = 1 := by decide +kernel
/-- R276: a zeroisation needs its confirmation. -/
theorem test_zeroise : (after (.grnZeroise 0 .pcie 0x5B) powered).rd .GRN_ZCOUNT = 0 := by decide +kernel
/-- R305: only masters 1 to 3 acknowledge. -/
theorem test_ack : let s := powered.wr .FLT_STATUS 0 5
    (after (.fltAck 0 (.ye 3) false 1) s).rd .FLT_STATUS = 5 ∧ (after (.fltAck 0 .keeper false 1) s).rd .FLT_STATUS = 4 := by decide +kernel
/-- R285: a header of no payload commits at once, with the sender's epoch; one that does not fit is discarded. -/
theorem test_mailbox : let s := powered |>.wr .MBn_BIND_END0 15 15 |>.wr .MBn_BIND_END1 15 3
    (after (.mbTxWrite 0 .pcie 15 0x120FF0) s).inbound 15 1 = [stampEpoch 0x120FF0 (s.mbox[15].ends[0]).epoch] ∧
    ((after (.mbTxWrite 0 .pcie 15 15) (queued [0] s)).mbox[15].out[0]).drop = 15 := by decide +kernel
/-- R384, R385: an unaligned SPI frame fails with FERR and FSRC38. -/
theorem test_spi : let u := after (.spiWrite 0 2 2 [(5, 0)] false) powered
    u.hif.ferr = true ∧ u.bitOf .FLT_STATUS 0 38 = true := by decide +kernel
/-- R378: a write of more than 16 DW is an unsupported request. -/
theorem test_pcie : (after (.pcieMemWrite 0 0 (List.replicate 17 (0, 15)) false) linked).bitOf .FLT_STATUS 0 36 = true := by decide +kernel
/-- R44, R108: a tick stands 8 µs after the one before, and its correction words come into force 160 ns later. -/
theorem test_tick : let u := after .planeTick powered
    u.tick = 1 ∧ u.now = 8000000 ∧ u.due = true := by decide +kernel
/-- R371: the supplies begin a power-on reset and record its cause. -/
theorem test_por : let u := after (.suppliesGood 0) State.reset
    u.boot.supplies = true ∧ u.bit .RESET_CAUSE_POR = true := by decide +kernel
/-- An empty queue idles; a command at the front runs and leaves the rest (entry 1). -/
theorem test_queue : step State.reset = .next State.reset ∧
    (match step { powered with pending := [.planeTick, .planeTick] } with
     | .next u => decide (u.tick = 1 ∧ u.pending = [.planeTick])
     | _ => false) = true := ⟨rfl, by decide +kernel⟩
/-- A step meets the hypotheses of PinsAndStatusFollow. -/
theorem test_hyps_PinsAndStatusFollow : let s : State := { State.reset with pending := [.suppliesGood 0] }
    s.PinsAgree ∧ s.StatusAgrees ∧ ∃ u, step s = .next u :=
  ⟨by dsimp only [State.PinsAgree]; decide +kernel, by dsimp only [State.StatusAgrees]; decide +kernel, _, rfl⟩

/-! ## A state and operands for the hypotheses of each statement -/

/-- Hypotheses of StepRunsTheFront, clause by clause. -/
theorem test_hyps_StepRunsTheFront :
  (let c : Instr := Instr.planeTick; let rest : List Instr := []; let s : State := { powered with pending := [.planeTick] }
   s.pending = c :: rest) ∧
  (let s : State := powered
   s.pending = []) := by
  refine ⟨?_, ?_⟩
  · rfl
  · dsimp only [State.answers, State.CanRun, State.Calm, State.RunsOn, State.breakAt]; decide +kernel

/-- Hypotheses of ResetState, clause by clause. -/
theorem test_hyps_ResetState :
  (let f := Field.FLT_CFG_PIN_LVL; let n := 0
   f.reset n < 2 ^ f.info.width) := by
  dsimp only [State.answers, State.CanRun, State.Calm, State.RunsOn, State.breakAt]; decide +kernel

/-- Hypotheses of AddressMap, clause by clause. -/
theorem test_hyps_AddressMap :
  (let r : Reg := .INn_NOM; let n : Nat := 15; let i : Nat := 1
   r ≠ .FLT_LVL ∧ n < r.place.count ∧ i < r.place.shape.words) := by
  dsimp only [State.answers, State.CanRun, State.Calm, State.RunsOn, State.breakAt]; decide +kernel

/-- Hypotheses of RegisterAccess, clause by clause. -/
theorem test_hyps_RegisterAccess :
  (let t : Nat := 0; let m : Master := .pcie; let r : Reg := .INn_HOLDOFF; let n : Nat := 15
   let a : Nat := Reg.INn_HOLDOFF.addr 15; let s : State := powered; let b := s.enter t
   yeMem a = none ∧ inTable a = false ∧ inPba a = false ∧ b.hasMaster m = true ∧ locate a = some (r, n, 0) ∧ a = r.addr n ∧
     b.reach r = true ∧ r.plainWord = true) ∧
  (let t : Nat := 0; let m : Master := .pcie; let r : Reg := .SHk_DPHASE; let n : Nat := 15
   let a : Nat := Reg.SHk_DPHASE.addr 15; let s : State := powered; let b := s.enter t
   yeMem a = none ∧ inTable a = false ∧ inPba a = false ∧ b.hasMaster m = true ∧ locate a = some (r, n, 0) ∧ a = r.addr n ∧
     b.reach r = true ∧ r.plainPair = true ∧ r.plainRead = true) ∧
  (let t : Nat := 0; let m : Master := .pcie; let r : Reg := .SHk_DPHASE; let n : Nat := 15; let a : Nat := 0
   let c := Reg.SHk_DPHASE.addr 15 + 4; let s : State := powered; let b := s.enter t
   yeMem a = none ∧ inTable a = false ∧ inPba a = false ∧ b.hasMaster m = true ∧ locate c = some (r, n, 1) ∧ c = r.addr n + 4 ∧
     yeMem c = none ∧ inTable c = false ∧ inPba c = false ∧ b.reach r = true ∧ r.place.shape = .pair ∧ r.writable = true ∧ r.plainRead = true) ∧
  (let t : Nat := 0; let m : Master := .pcie; let r : Reg := .TOK_CTRL; let n : Nat := 0; let a : Nat := Reg.TOK_CTRL.addr 0
   let i := 0; let s : State := powered.wr .CLK_GATE_GATED 0 0xFFFF; let b := s.enter t
   yeMem a = none ∧ inTable a = false ∧ inPba a = false ∧ b.hasMaster m = true ∧ locate a = some (r, n, i) ∧ b.reach r = false ∧
     r ≠ .YEe_CTRL ∧ b.holdsWrite r = false) ∧
  (let t : Nat := 0; let m : Master := .pcie; let r : Reg := .LZn_CFG; let n : Nat := 3; let a : Nat := Reg.LZn_CFG.addr 3
   let i := 0; let s : State := powered.wr .CLK_GATE_GATED 0 0xFFFF; let b := s.enter t
   yeMem a = none ∧ inTable a = false ∧ inPba a = false ∧ b.hasMaster m = true ∧ locate a = some (r, n, i) ∧ b.reach r = false ∧
     r ≠ .YEe_CTRL ∧ b.holdsWrite r = true) ∧
  (let t : Nat := 0; let m : Master := .pcie; let a : Nat := 0x3FFFFC; let s : State := powered; let b := s.enter t
   yeMem a = none ∧ inTable a = false ∧ inPba a = false ∧ b.hasMaster m = true ∧ locate a = none) ∧
  (let t : Nat := 0; let m : Master := .jtag; let s : State := { powered with boot := { powered.boot with otpBad := true } }
   let b := s.enter t
   b.hasMaster m = false) ∧
  (let t : Nat := 0; let m : Master := .jtag; let s : State := { powered with boot := { powered.boot with otpBad := true } }
   let b := s.enter t
   b.hasMaster m = false) := by
  refine ⟨?_, ?_, ?_, ?_, ?_, ?_, ?_, ?_⟩
  · dsimp only [State.answers, State.CanRun, State.Calm, State.RunsOn, State.breakAt]; decide +kernel
  · dsimp only [State.answers, State.CanRun, State.Calm, State.RunsOn, State.breakAt]; decide +kernel
  · dsimp only [State.answers, State.CanRun, State.Calm, State.RunsOn, State.breakAt]; decide +kernel
  · dsimp only [State.answers, State.CanRun, State.Calm, State.RunsOn, State.breakAt]; decide +kernel
  · dsimp only [State.answers, State.CanRun, State.Calm, State.RunsOn, State.breakAt]; decide +kernel
  · dsimp only [State.answers, State.CanRun, State.Calm, State.RunsOn, State.breakAt]; decide +kernel
  · exact blMaster _ (by decide +kernel)
  · exact blMaster _ (by decide +kernel)

/-- Hypotheses of InputSamples, clause by clause. -/
theorem test_hyps_InputSamples :
  (let t : Nat := 0; let n : Fin 16 := 15; let s : State := powered |> input 15 1 InputState.init; let b := s.enter t
   b.inEnabled n = true ∧ b.inType n ≠ .ptpSw) ∧
  (let t : Nat := 0; let n : Fin 16 := 0; let s : State := powered; let b := s.enter t
   b.inEnabled n = false ∧ b.calElem n = .trim) ∧
  (let t : Nat := 0; let m : Master := .pcie; let n : Fin 16 := 15; let s : State := powered |> input 15 5 InputState.init
   let b := s.enter t; let judged := b.inType n ≠ .none ∧ b.bit .INn_QUAL_NOM_ZERO n = false
   b.answers m .INn_SWPHASE ∧ b.inEnabled n = true ∧ b.inType n = .ptpSw ∧ judged) ∧
  (let t : Nat := 0; let n : Fin 16 := 15; let edges := ([] : List Nat); let off := (0 : Int)
   let s : State := { powered with cal := { powered.cal with inForce := [(15, .tdc [] 0)] } }; let b := s.enter t
   b.calElem n = .tdc edges off) := by
  refine ⟨?_, ?_, ?_, ?_⟩ <;> dsimp only [State.answers, State.CanRun, State.Calm, State.RunsOn, State.breakAt] <;> decide +kernel

/-- Hypotheses of InputConfiguration, clause by clause. -/
theorem test_hyps_InputConfiguration :
  (let t : Nat := 0; let m : Master := .pcie; let s : State := powered; let b := s.enter t
   b.answers m .INn_CFG ∧ b.answers m .INn_TYPE ∧ b.answers m .INn_DIV ∧ b.answers m .INn_NOM) := by
  dsimp only [State.answers, State.CanRun, State.Calm, State.RunsOn, State.breakAt]; decide +kernel

/-- Hypotheses of InputResultsAndGrades, clause by clause. -/
theorem test_hyps_InputResultsAndGrades :
  (let t : Nat := 0; let n : Fin 16 := 0; let g : Nat := 0; let x : Sample := ⟨0, 1, 0, none⟩
   let y : Sample := ⟨10 ^ 12, 2, 10 ^ 12, none⟩; let px : Rat := 0; let py : Rat := 7
   let s : State := late |> input 0 1 { InputState.init with gateFrom := some 0, gateFirst := some (⟨0, 1, 0, none⟩, 0), gateLast := some (⟨10 ^ 12, 2, 10 ^ 12, none⟩, 7) } |>.wr .INn_QUAL_NOM_ZERO 0 0
   let b := s.enter t; let i := b.inputs[n]
   b.inEnabled n = true ∧ b.bit .INn_QUAL_NOM_ZERO n = false ∧ i.gateFrom = some g ∧ i.gateFirst = some (x, px) ∧
     i.gateLast = some (y, py) ∧ g + b.rd .INn_MGATE n * 1000000000 ≤ b.now ∧ x.ecnt < y.ecnt ∧ x.time < y.time ∧ x.pred < y.pred) ∧
  (let t : Nat := 0; let n : Fin 16 := 0; let s : State := late |> input 0 1 InputState.init |>.wr .INn_QUAL_NOM_ZERO 0 0
   let b := s.enter t; let i := b.inputs[n]
   b.inEnabled n = true ∧ b.inType n ≠ .none ∧ b.bit .INn_QUAL_NOM_ZERO n = false ∧ i.obsFrom + b.obsPs n ≤ b.now ∧
     (i.actFrom : Rat) + b.actPs n ≤ b.now) ∧
  (let t : Nat := 0; let n : Fin 16 := 0; let h : Nat := 0
   let s : State := late |> input 0 1 { InputState.init with holdFrom := some 0, absent := false }; let b := s.enter t
   let i := b.inputs[n]
   i.holdFrom = some h ∧ b.inStanding n = 3 ∧ h + b.rd .INn_HOLDOFF n * 10000000000 ≤ b.now) := by
  refine ⟨?_, ?_, ?_⟩ <;> dsimp only [State.answers, State.CanRun, State.Calm, State.RunsOn, State.breakAt] <;> decide +kernel

/-- Hypotheses of DriftScore, clause by clause. -/
theorem test_hyps_DriftScore :
  (let t : Nat := 0; let n : Fin 16 := 15; let w : DriftWindow := .w1000
   let s : State := late |> input 15 1 InputState.init |>.wr .INn_QUAL_NOM_ZERO 15 0; let b := s.enter t
   b.inEnabled n = true ∧ b.inType n ≠ .none ∧ b.bit .INn_QUAL_NOM_ZERO n = false ∧
     (b.inputs[n]).evalAt[winIdx w] + winSecs w * psPerS / 10 ≤ b.now) := by
  dsimp only [State.answers, State.CanRun, State.Calm, State.RunsOn, State.breakAt]; decide +kernel

/-- Hypotheses of MeasurementStatus, clause by clause. -/
theorem test_hyps_MeasurementStatus :
  (let t : Nat := 0; let m : Master := .pcie; let r : MeasReg := .bank 7; let s : State := powered; let b := s.enter t
   b.answers m (statusReg r).1) := by
  dsimp only [State.answers, State.CanRun, State.Calm, State.RunsOn, State.breakAt]; decide +kernel

/-- Hypotheses of XoAndAtom, clause by clause. -/
theorem test_hyps_XoAndAtom :
  (let t : Nat := 0; let s : State := powered |>.wr .XO_MON_LOST 0 1; let b := s.enter t
   b.bit .XO_MON_LOST = true) ∧
  (let t : Nat := 0; let err : Rat := 0
   let s : State := { powered with timebase := false } |>.wr .DEV_STATE_TIMING 0 2 |>.wr .BOOT_STAT_CFG_VALID 0 1
   let b := s.enter t
   b.rd .DEV_STATE_TIMING = 2 ∧ b.timebase = false ∧ b.bit .BOOT_STAT_CFG_VALID = true ∧ ratAbs err ≤ 2 / 100) ∧
  (let t : Nat := 0; let k : Nat := 3
   let s : State := { late with xo := { XoState.init with fineFrom := some 3, atomCount := 1003 } } |>.wr .ATOM_CFG_TYPE 0 1 |>.wr .ATOM_MEAS_PRESENT 0 1
   let b := s.enter t; let x := b.xo; let type := b.rd .ATOM_CFG_TYPE; let there := b.bit .ATOM_MEAS_PRESENT
   type ≠ 0 ∧ there = true ∧ x.fineFrom = some k ∧ k + (if type = 3 then 1 else 1000) ≤ x.atomCount) ∧
  (let t : Nat := 0; let s : State := powered |>.wr .ATOM_CFG_TYPE 0 1; let b := s.enter t; let type := b.rd .ATOM_CFG_TYPE
   type ≠ 0) ∧
  (let t : Nat := 0; let g : Nat := 0
   let s : State := { late with xo := { XoState.init with gateFrom := some 0, gateEdges := [(2, 10 ^ 12), (1, 0)] } } |>.wr .ATOM_CFG_TYPE 0 1 |>.wr .ATOM_MEAS_PRESENT 0 1
   let b := s.enter t; let x := b.xo; let type := b.rd .ATOM_CFG_TYPE; let there := b.bit .ATOM_MEAS_PRESENT
   type ≠ 0 ∧ there = true ∧ x.gateFrom = some g ∧ x.gateBroken = false ∧ 2 ≤ x.gateEdges.length ∧ g + x.gateLen * 1000000000000 ≤ b.now) ∧
  (let t : Nat := 0; let g : Nat := 0
   let s : State := { late with xo := { XoState.init with gateFrom := some 0, gateBroken := true } } |>.wr .ATOM_CFG_TYPE 0 1
   let b := s.enter t; let x := b.xo; let type := b.rd .ATOM_CFG_TYPE; let there := b.bit .ATOM_MEAS_PRESENT
   x.gateFrom = some g ∧ type ≠ 0 ∧ g + x.gateLen * 1000000000000 ≤ b.now ∧ (x.gateBroken = true ∨ there = false)) ∧
  (let t : Nat := 0; let m : Master := .pcie; let s : State := powered; let b := s.enter t
   b.answers m .ATOM_CFG) ∧
  (let t : Nat := 0
   let s : State := { late with xo := { XoState.init with atomTimes := [10 ^ 18, 10 ^ 18 - 1000000000000] } } |>.wr .ATOM_CFG_TYPE 0 3 |>.wr .ATOM_MEAS_PRESENT 0 0
   let b := s.enter t; let x := b.xo; let type := b.rd .ATOM_CFG_TYPE; let there := b.bit .ATOM_MEAS_PRESENT
   let pps := ∃ a c l, x.atomTimes = a :: c :: l ∧ 1000000000000 - 10000000 ≤ a - c ∧ a - c ≤ 1000000000000 + 10000000 ∧
     (b.now : Int) - a ≤ 1500000000000
   let mhz := ∃ a c d, x.atomTimes[0]? = some a ∧ x.atomTimes[9]? = some c ∧ x.atomTimes[10]? = some d ∧ 10000000000 - 1000000 ≤ a - d ∧
     a - d ≤ 10000000000 + 1000000 ∧ (b.now : Int) - c ≤ 10000000000 + 1000000
   let met := (type = 3 ∧ pps) ∨ (type ≠ 0 ∧ type ≠ 3 ∧ mhz)
   met ∧ there = false) ∧
  (let t : Nat := 0; let s : State := late |>.wr .ATOM_MEAS_PRESENT 0 1; let b := s.enter t; let x := b.xo
   let type := b.rd .ATOM_CFG_TYPE; let there := b.bit .ATOM_MEAS_PRESENT
   let pps := ∃ a c l, x.atomTimes = a :: c :: l ∧ 1000000000000 - 10000000 ≤ a - c ∧ a - c ≤ 1000000000000 + 10000000 ∧
     (b.now : Int) - a ≤ 1500000000000
   let mhz := ∃ a c d, x.atomTimes[0]? = some a ∧ x.atomTimes[9]? = some c ∧ x.atomTimes[10]? = some d ∧ 10000000000 - 1000000 ≤ a - d ∧
     a - d ≤ 10000000000 + 1000000 ∧ (b.now : Int) - c ≤ 10000000000 + 1000000
   let met := (type = 3 ∧ pps) ∨ (type ≠ 0 ∧ type ≠ 3 ∧ mhz)
   there = true ∧ (¬ met)) := by
  refine ⟨?_, ?_, ?_, ?_, ?_, ?_, ?_, ?_, ?_⟩
  · dsimp only [State.answers, State.CanRun, State.Calm, State.RunsOn, State.breakAt]; decide +kernel
  · dsimp only [State.answers, State.CanRun, State.Calm, State.RunsOn, State.breakAt]; decide +kernel
  · dsimp only [State.answers, State.CanRun, State.Calm, State.RunsOn, State.breakAt]; decide +kernel
  · dsimp only [State.answers, State.CanRun, State.Calm, State.RunsOn, State.breakAt]; decide +kernel
  · dsimp only [State.answers, State.CanRun, State.Calm, State.RunsOn, State.breakAt]; decide +kernel
  · dsimp only [State.answers, State.CanRun, State.Calm, State.RunsOn, State.breakAt]; decide +kernel
  · dsimp only [State.answers, State.CanRun, State.Calm, State.RunsOn, State.breakAt]; decide +kernel
  · dsimp only; exact ⟨Or.inl ⟨by decide +kernel, 10 ^ 18, 10 ^ 18 - 1000000000000, [], by decide +kernel, by decide, by decide, by decide +kernel⟩, by decide +kernel⟩
  · dsimp only; exact ⟨by decide +kernel, fun h => h.elim (fun h => absurd h.1 (by decide +kernel)) (fun h => absurd h.1 (by decide +kernel))⟩

/-- Hypotheses of PlaneTick, clause by clause. -/
theorem test_hyps_PlaneTick :
  (let s : State := powered; let b := s.enter s.now
   b.timebase = true) ∧
  (let s : State := { powered with due := true }; let b := s.enter s.now
   b.timebase = true ∧ b.due = true) ∧
  (let s : State := { powered with timebase := false }; let b := s.enter s.now
   b.timebase = false) ∧
  (let s : State := powered; let b := s.enter s.now
   (b.timebase = false ∨ b.due = false)) := by
  refine ⟨?_, ?_, ?_, ?_⟩ <;> dsimp only [State.answers, State.CanRun, State.Calm, State.RunsOn, State.breakAt] <;> decide +kernel

/-- Hypotheses of PlaneTransitions, clause by clause. -/
theorem test_hyps_PlaneTransitions :
  (let b : State := powered.wr .PLn_CTRL_EN 3 0; let p : Fin 4 := 3
   b.bit .PLn_CTRL_EN p = false) ∧
  (let b : State := (powered.setLink 0 { LinkState.init with fresh := [(0, 0)], peerFree := false } |>.setPlane 3 { PlaneState.init with  } |>.wr .LZn_STAT_STATE 0 4 |>.wr .LZn_CFG_PL 0 3 |>.wr .PLn_CTRL_EN 3 1 |>.wr .PLn_CTRL_MODE 3 0 |>.wr .PLn_CTRL_FORCE_HO 3 0 |>.wr .PLn_CTRL_BLEED 3 0 |>.wr .PLn_CTRL_AUTOCOMMIT 3 0 |>.wr .PLn_REFSEL_SRC 3 16 |>.wr .PLn_STATE_STATE 3 2 |>.wr .PLn_CTRL_FORCE_HO 3 1)
   let p : Fin 4 := 3
   b.bit .PLn_CTRL_EN p = true ∧ b.forced p ≠ 0) ∧
  (let b : State := (powered.setLink 0 { LinkState.init with fresh := [(0, 0)], peerFree := false } |>.setPlane 3 { PlaneState.init with  } |>.wr .LZn_STAT_STATE 0 4 |>.wr .LZn_CFG_PL 0 3 |>.wr .PLn_CTRL_EN 3 1 |>.wr .PLn_CTRL_MODE 3 0 |>.wr .PLn_CTRL_FORCE_HO 3 0 |>.wr .PLn_CTRL_BLEED 3 0 |>.wr .PLn_CTRL_AUTOCOMMIT 3 0 |>.wr .PLn_REFSEL_SRC 3 16 |>.wr .PLn_STATE_STATE 3 2 |>.wr .PLn_CTRL_MODE 3 1)
   let p : Fin 4 := 3
   b.bit .PLn_CTRL_EN p = true ∧ b.forced p = 0 ∧ b.bit .PLn_CTRL_MODE p = true) ∧
  (let b : State := (powered.setLink 0 { LinkState.init with fresh := [(0, 0)], peerFree := false } |>.setPlane 3 { PlaneState.init with  } |>.wr .LZn_STAT_STATE 0 4 |>.wr .LZn_CFG_PL 0 3 |>.wr .PLn_CTRL_EN 3 1 |>.wr .PLn_CTRL_MODE 3 0 |>.wr .PLn_CTRL_FORCE_HO 3 0 |>.wr .PLn_CTRL_BLEED 3 0 |>.wr .PLn_CTRL_AUTOCOMMIT 3 0 |>.wr .PLn_REFSEL_SRC 3 16 |>.wr .PLn_STATE_STATE 3 4)
   let p : Fin 4 := 3; let st := b.rd .PLn_STATE_STATE p; let src := srcCode (b.rd .PLn_REFSEL_SRC p)
   let run := b.bit .PLn_CTRL_EN p = true ∧ b.forced p = 0 ∧ b.bit .PLn_CTRL_MODE p = false
   run ∧ (st = 0 ∨ st = 4) ∧ b.srcGood p src = true) ∧
  (let b : State := (powered.setLink 0 { LinkState.init with fresh := [(0, 0)], peerFree := false } |>.setPlane 3 { PlaneState.init with  } |>.wr .LZn_STAT_STATE 0 4 |>.wr .LZn_CFG_PL 0 3 |>.wr .PLn_CTRL_EN 3 1 |>.wr .PLn_CTRL_MODE 3 0 |>.wr .PLn_CTRL_FORCE_HO 3 0 |>.wr .PLn_CTRL_BLEED 3 0 |>.wr .PLn_CTRL_AUTOCOMMIT 3 0 |>.wr .PLn_REFSEL_SRC 3 16 |>.wr .PLn_STATE_STATE 3 0 |>.wr .PLn_REFSEL_SRC 3 5)
   let p : Fin 4 := 3; let st := b.rd .PLn_STATE_STATE p; let src := srcCode (b.rd .PLn_REFSEL_SRC p)
   let run := b.bit .PLn_CTRL_EN p = true ∧ b.forced p = 0 ∧ b.bit .PLn_CTRL_MODE p = false
   run ∧ st = 0 ∧ b.srcGood p src = false) ∧
  (let b : State := (powered.setLink 0 { LinkState.init with fresh := [(0, 0)], peerFree := false } |>.setPlane 3 { PlaneState.init with  } |>.wr .LZn_STAT_STATE 0 4 |>.wr .LZn_CFG_PL 0 3 |>.wr .PLn_CTRL_EN 3 1 |>.wr .PLn_CTRL_MODE 3 0 |>.wr .PLn_CTRL_FORCE_HO 3 0 |>.wr .PLn_CTRL_BLEED 3 0 |>.wr .PLn_CTRL_AUTOCOMMIT 3 0 |>.wr .PLn_REFSEL_SRC 3 16 |>.wr .PLn_STATE_STATE 3 4 |>.wr .PLn_REFSEL_SRC 3 5)
   let p : Fin 4 := 3; let st := b.rd .PLn_STATE_STATE p; let src := srcCode (b.rd .PLn_REFSEL_SRC p)
   let run := b.bit .PLn_CTRL_EN p = true ∧ b.forced p = 0 ∧ b.bit .PLn_CTRL_MODE p = false
   run ∧ st = 4 ∧ b.srcGood p src = false) ∧
  (let b : State := (powered.setLink 0 { LinkState.init with fresh := [(0, 0)], peerFree := false } |>.setPlane 3 { PlaneState.init with  } |>.wr .LZn_STAT_STATE 0 4 |>.wr .LZn_CFG_PL 0 3 |>.wr .PLn_CTRL_EN 3 1 |>.wr .PLn_CTRL_MODE 3 0 |>.wr .PLn_CTRL_FORCE_HO 3 0 |>.wr .PLn_CTRL_BLEED 3 0 |>.wr .PLn_CTRL_AUTOCOMMIT 3 0 |>.wr .PLn_REFSEL_SRC 3 16 |>.wr .PLn_STATE_STATE 3 2 |>.wr .PLn_REFSEL_SRC 3 5)
   let p : Fin 4 := 3; let o := b.planes[p]; let st := b.rd .PLn_STATE_STATE p; let src := srcCode (b.rd .PLn_REFSEL_SRC p)
   let run := b.bit .PLn_CTRL_EN p = true ∧ b.forced p = 0 ∧ b.bit .PLn_CTRL_MODE p = false
   let plain := o.region = none ∧ o.refWrite = false ∧ b.committing p = false; let on := st = 1 ∨ st = 2
   run ∧ plain ∧ on ∧ b.srcHolds p src = false) ∧
  (let b : State := (powered.setLink 0 { LinkState.init with fresh := [(0, 0)], peerFree := false } |>.setPlane 3 { PlaneState.init with  } |>.wr .LZn_STAT_STATE 0 4 |>.wr .LZn_CFG_PL 0 3 |>.wr .PLn_CTRL_EN 3 1 |>.wr .PLn_CTRL_MODE 3 0 |>.wr .PLn_CTRL_FORCE_HO 3 0 |>.wr .PLn_CTRL_BLEED 3 0 |>.wr .PLn_CTRL_AUTOCOMMIT 3 0 |>.wr .PLn_REFSEL_SRC 3 16 |>.wr .PLn_STATE_STATE 3 1)
   let p : Fin 4 := 3; let e : Rat := 0; let o := b.planes[p]; let st := b.rd .PLn_STATE_STATE p
   let src := srcCode (b.rd .PLn_REFSEL_SRC p)
   let run := b.bit .PLn_CTRL_EN p = true ∧ b.forced p = 0 ∧ b.bit .PLn_CTRL_MODE p = false
   let plain := o.region = none ∧ o.refWrite = false ∧ b.committing p = false; let on := st = 1 ∨ st = 2
   run ∧ plain ∧ on ∧ b.srcHolds p src = true ∧ o.acq = none ∧ b.freshErr p src = some e ∧ st = 1) ∧
  (let b : State := (powered.setLink 0 { LinkState.init with fresh := [(0, 0)], peerFree := false } |>.setPlane 3 { PlaneState.init with  } |>.wr .LZn_STAT_STATE 0 4 |>.wr .LZn_CFG_PL 0 3 |>.wr .PLn_CTRL_EN 3 1 |>.wr .PLn_CTRL_MODE 3 0 |>.wr .PLn_CTRL_FORCE_HO 3 0 |>.wr .PLn_CTRL_BLEED 3 0 |>.wr .PLn_CTRL_AUTOCOMMIT 3 0 |>.wr .PLn_REFSEL_SRC 3 16 |>.wr .PLn_STATE_STATE 3 2)
   let p : Fin 4 := 3; let e : Rat := 0; let o := b.planes[p]; let st := b.rd .PLn_STATE_STATE p
   let src := srcCode (b.rd .PLn_REFSEL_SRC p)
   let run := b.bit .PLn_CTRL_EN p = true ∧ b.forced p = 0 ∧ b.bit .PLn_CTRL_MODE p = false
   let plain := o.region = none ∧ o.refWrite = false ∧ b.committing p = false; let on := st = 1 ∨ st = 2
   run ∧ plain ∧ on ∧ b.srcHolds p src = true ∧ o.acq = none ∧ b.freshErr p src = some e ∧ st = 2) ∧
  (let b : State := (powered.setLink 0 { LinkState.init with fresh := [(0, 0)], peerFree := false } |>.setPlane 3 { PlaneState.init with  } |>.wr .LZn_STAT_STATE 0 4 |>.wr .LZn_CFG_PL 0 3 |>.wr .PLn_CTRL_EN 3 1 |>.wr .PLn_CTRL_MODE 3 0 |>.wr .PLn_CTRL_FORCE_HO 3 0 |>.wr .PLn_CTRL_BLEED 3 0 |>.wr .PLn_CTRL_AUTOCOMMIT 3 0 |>.wr .PLn_REFSEL_SRC 3 16 |>.wr .PLn_STATE_STATE 3 3)
   let p : Fin 4 := 3; let o := b.planes[p]; let st := b.rd .PLn_STATE_STATE p
   let run := b.bit .PLn_CTRL_EN p = true ∧ b.forced p = 0 ∧ b.bit .PLn_CTRL_MODE p = false
   let plain := o.region = none ∧ o.refWrite = false ∧ b.committing p = false
   let settled := b.bit .PLn_CTRL_BLEED p = false ∧ b.bit .PLn_CTRL_AUTOCOMMIT p = false
   run ∧ plain ∧ settled ∧ st = 3) ∧
  (let b : State := (powered.setLink 0 { LinkState.init with fresh := [(0, 0)], peerFree := false } |>.setPlane 3 { PlaneState.init with refWrite := true } |>.wr .LZn_STAT_STATE 0 4 |>.wr .LZn_CFG_PL 0 3 |>.wr .PLn_CTRL_EN 3 1 |>.wr .PLn_CTRL_MODE 3 0 |>.wr .PLn_CTRL_FORCE_HO 3 0 |>.wr .PLn_CTRL_BLEED 3 0 |>.wr .PLn_CTRL_AUTOCOMMIT 3 0 |>.wr .PLn_REFSEL_SRC 3 16 |>.wr .PLn_STATE_STATE 3 3)
   let p : Fin 4 := 3; let o := b.planes[p]; let st := b.rd .PLn_STATE_STATE p
   let run := b.bit .PLn_CTRL_EN p = true ∧ b.forced p = 0 ∧ b.bit .PLn_CTRL_MODE p = false; let on := st = 1 ∨ st = 2
   run ∧ o.region = none ∧ b.committing p = false ∧ o.refWrite = true ∧ (on ∨ st = 3)) ∧
  (let b : State := (powered.setLink 0 { LinkState.init with fresh := [(0, 0)], peerFree := false } |>.setPlane 3 { PlaneState.init with region := some ⟨2, false, 0, some 4, 0, 0, 0, false⟩ } |>.wr .LZn_STAT_STATE 0 4 |>.wr .LZn_CFG_PL 0 3 |>.wr .PLn_CTRL_EN 3 1 |>.wr .PLn_CTRL_MODE 3 0 |>.wr .PLn_CTRL_FORCE_HO 3 0 |>.wr .PLn_CTRL_BLEED 3 0 |>.wr .PLn_CTRL_AUTOCOMMIT 3 0 |>.wr .PLn_REFSEL_SRC 3 16 |>.wr .PLn_STATE_STATE 3 2 |>.wr .PLn_COMMIT_RESULT 3 2 |>.wr .PLn_SHADOW_STAT_SRC 3 16 |>.wr .PLn_REFSEL_SRC 3 5)
   let p : Fin 4 := 3; let r : Region := ⟨2, false, 0, some 4, 0, 0, 0, false⟩; let o := b.planes[p]
   let st := b.rd .PLn_STATE_STATE p; let cand := b.rd .PLn_SHADOW_STAT_SRC p; let res := b.rd .PLn_COMMIT_RESULT p
   let run := b.bit .PLn_CTRL_EN p = true ∧ b.forced p = 0 ∧ b.bit .PLn_CTRL_MODE p = false; let on := st = 1 ∨ st = 2
   run ∧ o.region = some r ∧ res = 2 ∧ (on ∨ st = 3) ∧ (b.freshErr p cand).isSome = true ∧ b.bit .PLn_REFSEL_KEEP p = false) ∧
  (let b : State := (powered.setLink 0 { LinkState.init with fresh := [(0, 0)], peerFree := false } |>.setPlane 3 { PlaneState.init with region := some ⟨2, false, 0, some 4, 0, 0, 0, false⟩ } |>.wr .LZn_STAT_STATE 0 4 |>.wr .LZn_CFG_PL 0 3 |>.wr .PLn_CTRL_EN 3 1 |>.wr .PLn_CTRL_MODE 3 0 |>.wr .PLn_CTRL_FORCE_HO 3 0 |>.wr .PLn_CTRL_BLEED 3 0 |>.wr .PLn_CTRL_AUTOCOMMIT 3 0 |>.wr .PLn_REFSEL_SRC 3 16 |>.wr .PLn_STATE_STATE 3 2 |>.wr .PLn_COMMIT_RESULT 3 2 |>.wr .PLn_SHADOW_STAT_SRC 3 16 |>.wr .PLn_REFSEL_SRC 3 5 |>.wr .PLn_REFSEL_KEEP 3 1)
   let p : Fin 4 := 3; let r : Region := ⟨2, false, 0, some 4, 0, 0, 0, false⟩; let o := b.planes[p]
   let st := b.rd .PLn_STATE_STATE p; let cand := b.rd .PLn_SHADOW_STAT_SRC p; let res := b.rd .PLn_COMMIT_RESULT p
   let run := b.bit .PLn_CTRL_EN p = true ∧ b.forced p = 0 ∧ b.bit .PLn_CTRL_MODE p = false; let on := st = 1 ∨ st = 2
   run ∧ o.region = some r ∧ res = 2 ∧ (on ∨ st = 3) ∧ (b.freshErr p cand).isSome = true ∧ b.bit .PLn_REFSEL_KEEP p = true) ∧
  (let b : State := (powered.setLink 0 { LinkState.init with fresh := [(0, 0)], peerFree := false } |>.setPlane 3 { PlaneState.init with region := some ⟨5, false, 0, none, 3, 7, 4, true⟩, snap := some (State.takeSnapshot (powered.wr .PLn_STATE_STATE 3 2) 3) } |>.wr .LZn_STAT_STATE 0 4 |>.wr .LZn_CFG_PL 0 3 |>.wr .PLn_CTRL_EN 3 1 |>.wr .PLn_CTRL_MODE 3 0 |>.wr .PLn_CTRL_FORCE_HO 3 0 |>.wr .PLn_CTRL_BLEED 3 0 |>.wr .PLn_CTRL_AUTOCOMMIT 3 0 |>.wr .PLn_REFSEL_SRC 3 16 |>.wr .PLn_STATE_STATE 3 2 |>.wr .PLn_COMMIT_RESULT 3 3)
   let p : Fin 4 := 3; let r : Region := ⟨5, false, 0, none, 3, 7, 4, true⟩
   let x : Snapshot := (State.takeSnapshot (powered.wr .PLn_STATE_STATE 3 2) 3); let o := b.planes[p]
   let st := b.rd .PLn_STATE_STATE p; let src := srcCode (b.rd .PLn_REFSEL_SRC p); let res := b.rd .PLn_COMMIT_RESULT p
   let run := b.bit .PLn_CTRL_EN p = true ∧ b.forced p = 0 ∧ b.bit .PLn_CTRL_MODE p = false; let on := st = 1 ∨ st = 2
   let settled := b.bit .PLn_CTRL_BLEED p = false ∧ b.bit .PLn_CTRL_AUTOCOMMIT p = false
   run ∧ settled ∧ o.region = some r ∧ res = 3 ∧ (on ∨ st = 3) ∧ (b.freshErr p src).isSome = true ∧ o.snap = some x ∧ r.prefBack = true ∧
     b.freshErr p r.pref = none ∧ (x.state = 1 ∨ x.state = 2)) ∧
  (let b : State := (powered.setLink 0 { LinkState.init with fresh := [(0, 0)], peerFree := false } |>.setPlane 3 { PlaneState.init with region := some ⟨5, false, 0, none, 3, 7, 4, false⟩, snap := some (State.takeSnapshot (powered.wr .PLn_STATE_STATE 3 2) 3) } |>.wr .LZn_STAT_STATE 0 4 |>.wr .LZn_CFG_PL 0 3 |>.wr .PLn_CTRL_EN 3 1 |>.wr .PLn_CTRL_MODE 3 0 |>.wr .PLn_CTRL_FORCE_HO 3 0 |>.wr .PLn_CTRL_BLEED 3 0 |>.wr .PLn_CTRL_AUTOCOMMIT 3 0 |>.wr .PLn_REFSEL_SRC 3 16 |>.wr .PLn_STATE_STATE 3 2 |>.wr .PLn_COMMIT_RESULT 3 3)
   let p : Fin 4 := 3; let r : Region := ⟨5, false, 0, none, 3, 7, 4, false⟩
   let x : Snapshot := (State.takeSnapshot (powered.wr .PLn_STATE_STATE 3 2) 3); let o := b.planes[p]
   let st := b.rd .PLn_STATE_STATE p; let src := srcCode (b.rd .PLn_REFSEL_SRC p); let res := b.rd .PLn_COMMIT_RESULT p
   let run := b.bit .PLn_CTRL_EN p = true ∧ b.forced p = 0 ∧ b.bit .PLn_CTRL_MODE p = false; let on := st = 1 ∨ st = 2
   let settled := b.bit .PLn_CTRL_BLEED p = false ∧ b.bit .PLn_CTRL_AUTOCOMMIT p = false
   run ∧ settled ∧ o.region = some r ∧ res = 3 ∧ (on ∨ st = 3) ∧ (b.freshErr p src).isSome = true ∧ o.snap = some x ∧ r.prefBack = false) := by
  refine ⟨?_, ?_, ?_, ?_, ?_, ?_, ?_, ?_, ?_, ?_, ?_, ?_, ?_, ?_, ?_⟩ <;> dsimp only [State.answers, State.CanRun, State.Calm, State.RunsOn, State.breakAt] <;> decide +kernel

/-- Hypotheses of PlaneWrites, clause by clause. -/
theorem test_hyps_PlaneWrites :
  (let t : Nat := 0; let m : Master := .pcie; let p : Fin 4 := 0; let v : Word := 0; let s : State := powered
   let b := s.enter t; let st := b.rd .PLn_STATE_STATE p; let new := fieldOf .PLn_REFSEL_SRC v
   let toReady := srcCode new = b.rd .PLn_SHADOW_STAT_SRC p ∧ b.bit .PLn_SHADOW_STAT_READY p = true ∧
     srcCode new ≠ srcCode (b.rd .PLn_REFSEL_SRC p) ∧ (st = 1 ∨ st = 2 ∨ st = 3)
   b.answers m .PLn_CTRL ∧ b.answers m .PLn_REFSEL ∧ (¬ toReady) ∧ b.answers m .PLn_PBO ∧ b.answers m .PLn_STEER) ∧
  (let t : Nat := 0; let m : Master := .pcie; let p : Fin 4 := 0; let v : Word := 2
   let s : State := powered |>.wr .PLn_SHADOW_STAT_SRC 0 2 |>.wr .PLn_SHADOW_STAT_READY 0 1 |>.wr .PLn_STATE_STATE 0 2 |>.wr .PLn_REFSEL_SRC 0 1
   let b := s.enter t; let st := b.rd .PLn_STATE_STATE p; let new := fieldOf .PLn_REFSEL_SRC v
   let toReady := srcCode new = b.rd .PLn_SHADOW_STAT_SRC p ∧ b.bit .PLn_SHADOW_STAT_READY p = true ∧
     srcCode new ≠ srcCode (b.rd .PLn_REFSEL_SRC p) ∧ (st = 1 ∨ st = 2 ∨ st = 3)
   b.answers m .PLn_REFSEL ∧ toReady) := by
  refine ⟨?_, ?_⟩ <;> dsimp only [State.answers, State.CanRun, State.Calm, State.RunsOn, State.breakAt] <;> decide +kernel

/-- Hypotheses of ShadowCandidateWrite, clause by clause. -/
theorem test_hyps_ShadowCandidateWrite :
  (let t : Nat := 0; let m : Master := .pcie; let p : Fin 4 := 0; let v : Word := 0
   let s : State := powered.wr .PLn_COMMIT_RESULT 0 3; let b := s.enter t
   let busy := b.rd .PLn_COMMIT_RESULT p = 2 ∨ b.rd .PLn_COMMIT_RESULT p = 3
   let same := fun (w : Word) => fieldOf .PLn_SHADOW_CAND_SRC w = b.rd .PLn_SHADOW_CAND_SRC p ∧
     fieldOf .PLn_SHADOW_CAND_AUTO w = b.rd .PLn_SHADOW_CAND_AUTO p
   b.answers m .PLn_SHADOW_CAND ∧ (busy ∨ same v)) ∧
  (let t : Nat := 0; let m : Master := .pcie; let p : Fin 4 := 0; let v : Word := 0; let s : State := powered
   let b := s.enter t; let busy := b.rd .PLn_COMMIT_RESULT p = 2 ∨ b.rd .PLn_COMMIT_RESULT p = 3
   let same := fun (w : Word) => fieldOf .PLn_SHADOW_CAND_SRC w = b.rd .PLn_SHADOW_CAND_SRC p ∧
     fieldOf .PLn_SHADOW_CAND_AUTO w = b.rd .PLn_SHADOW_CAND_AUTO p
   b.answers m .PLn_SHADOW_CAND ∧ (¬ busy) ∧ (¬ same v)) ∧
  (let t : Nat := 0; let p : Fin 4 := 3; let e : Fin 4 := 0; let src : SelSrc := .auto
   let s : State := powered.wr .PLn_COMMIT_RESULT 3 2 |> runs 0 (.selref p src); let b := s.enter t
   let busy := b.rd .PLn_COMMIT_RESULT p = 2 ∨ b.rd .PLn_COMMIT_RESULT p = 3
   let same := fun (w : Word) => fieldOf .PLn_SHADOW_CAND_SRC w = b.rd .PLn_SHADOW_CAND_SRC p ∧
     fieldOf .PLn_SHADOW_CAND_AUTO w = b.rd .PLn_SHADOW_CAND_AUTO p
   let word := BitVec.ofNat 32 ((b.engines[e]).selWord src)
   b.reach .PLn_SHADOW_CAND = true ∧ b.CanRun e (.selref p src) ∧ b.RunsOn e ∧ (busy ∨ same word)) := by
  refine ⟨?_, ?_, ?_⟩ <;> dsimp only [State.answers, State.CanRun, State.Calm, State.RunsOn, State.breakAt] <;> decide +kernel

/-- Hypotheses of CommitRegion, clause by clause. -/
theorem test_hyps_CommitRegion :
  (let t : Nat := 0; let m : Master := .pcie; let p : Fin 4 := 0; let s : State := powered; let b := s.enter t
   b.answers m .PLn_COMMIT ∧ (b.planes[p]).region = none) ∧
  (let t : Nat := 0; let m : Master := .pcie; let p : Fin 4 := 0; let r : Region := ⟨2, false, 0, some 4, 0, 0, 0, false⟩
   let s : State := powered.setPlane 0 { PlaneState.init with region := some ⟨2, false, 0, some 4, 0, 0, 0, false⟩ }
   let b := s.enter t
   b.answers m .PLn_COMMIT ∧ (b.planes[p]).region = some r) ∧
  (let t : Nat := 0; let m : Master := .ye 0; let p : Fin 4 := 0; let force : Bool := false
   let r : Region := ⟨2, false, 0, some 4, 0, 0, 0, false⟩
   let s : State := powered.setPlane 0 { PlaneState.init with region := some ⟨2, false, 0, some 4, 0, 0, 0, false⟩ } |>.wr .PLn_STATE_STATE 0 2 |>.wr .PLn_SHADOW_STAT_SRC 0 3 |>.wr .PLn_SHADOW_STAT_READY 0 1 |>.wr .PLn_COMMIT_RESULT 0 1
   let b := s.enter t; let res := b.rd .PLn_COMMIT_RESULT p
   let may := m = .pcie ∨ m = .spi ∨ m = .keeper ∨ r.owner = some m.id.val
   b.answers m .PLn_COMMIT ∧ (b.planes[p]).region = some r ∧ may ∧ res = 1 ∧ b.commitAccepted p force = true) ∧
  (let t : Nat := 0; let m : Master := .spi; let p : Fin 4 := 0; let force : Bool := false
   let r : Region := ⟨2, false, 0, some 4, 0, 0, 0, false⟩
   let s : State := powered.setPlane 0 { PlaneState.init with region := some ⟨2, false, 0, some 4, 0, 0, 0, false⟩ }
   let b := s.enter t; let res := b.rd .PLn_COMMIT_RESULT p
   let may := m = .pcie ∨ m = .spi ∨ m = .keeper ∨ r.owner = some m.id.val
   b.answers m .PLn_COMMIT ∧ (b.planes[p]).region = some r ∧ may ∧ (res ≠ 1 ∨ b.commitAccepted p force = false)) ∧
  (let t : Nat := 0; let m : Master := .ye 3; let p : Fin 4 := 0; let r : Region := ⟨2, false, 0, some 4, 0, 0, 0, false⟩
   let s : State := powered.setPlane 0 { PlaneState.init with region := some ⟨2, false, 0, some 4, 0, 0, 0, false⟩ }
   let b := s.enter t; let may := m = .pcie ∨ m = .spi ∨ m = .keeper ∨ r.owner = some m.id.val
   b.answers m .PLn_COMMIT ∧ (b.planes[p]).region = some r ∧ (¬ may)) ∧
  (let t : Nat := 0; let m : Master := .pcie; let p : Fin 4 := 0; let r : Region := ⟨2, false, 0, some 4, 0, 0, 0, false⟩
   let s : State := powered.setPlane 0 { PlaneState.init with region := some ⟨2, false, 0, some 4, 0, 0, 0, false⟩ } |>.wr .PLn_COMMIT_RESULT 0 1
   let b := s.enter t; let res := b.rd .PLn_COMMIT_RESULT p
   let may := m = .pcie ∨ m = .spi ∨ m = .keeper ∨ r.owner = some m.id.val
   b.answers m .PLn_COMMIT ∧ (b.planes[p]).region = some r ∧ may ∧ res ≠ 3) ∧
  (let t : Nat := 0; let m : Master := .pcie; let p : Fin 4 := 0; let r : Region := ⟨2, false, 0, some 4, 0, 0, 0, false⟩
   let s : State := powered.setPlane 0 { PlaneState.init with region := some ⟨2, false, 0, some 4, 0, 0, 0, false⟩ } |>.wr .PLn_COMMIT_RESULT 0 3
   let b := s.enter t; let res := b.rd .PLn_COMMIT_RESULT p
   let may := m = .pcie ∨ m = .spi ∨ m = .keeper ∨ r.owner = some m.id.val
   b.answers m .PLn_COMMIT ∧ (b.planes[p]).region = some r ∧ (¬ may ∨ res = 3)) := by
  refine ⟨?_, ?_, ?_, ?_, ?_, ?_, ?_⟩ <;> dsimp only [State.answers, State.CanRun, State.Calm, State.RunsOn, State.breakAt] <;> decide +kernel

/-- Hypotheses of HistoryGrowthModel, clause by clause. -/
theorem test_hyps_HistoryGrowthModel :
  (let t : Nat := 0; let p : Fin 4 := 0
   let s : State := powered |>.wr .PLn_STATE_STATE 0 2 |>.wr .PLn_STATE_FMAX_HIT 0 0 |>.wr .PLn_STATE_SLOPE_HIT 0 0 |>.wr .PLn_CTRL_EN 0 1
   let b := s.enter t
   b.rd .PLn_STATE_STATE p = 2 ∧ b.bit .PLn_STATE_FMAX_HIT p = false ∧ b.bit .PLn_STATE_SLOPE_HIT p = false ∧ b.bit .PLn_CTRL_EN p = true) ∧
  (let t : Nat := 0; let p : Fin 4 := 0; let m : Master := .keeper; let s : State := powered; let b := s.enter t
   b.rd .PLn_STATE_STATE p ≠ 2 ∧ b.answers m .MODEL_CTRL ∧ m = .keeper) ∧
  (let t : Nat := 0; let p : Fin 4 := 0
   let s : State := powered.setPlane 0 { PlaneState.init with growth := { PlaneState.init.growth with run := true } } |>.wr .PLn_HOD_XO 0 5
   let b := s.enter t; let x := b.planes[p]
   let d := if b.bit .MODEL_CTRL_APPLIED = false then b.rd .PLn_HOD_XO p else if 3600 < b.rd .MODEL_AGE then b.rd .PLn_HOD_DEGR p else b.rd .PLn_HOD_ASSIST p
   x.growth.run = true ∧ d ≠ 0xFFFFFFFF) ∧
  (let t : Nat := 0; let p : Fin 4 := 0
   let s : State := powered.setPlane 0 { PlaneState.init with growth := { PlaneState.init.growth with run := true } } |>.wr .PLn_HOD_XO 0 0xFFFFFFFF
   let b := s.enter t; let x := b.planes[p]
   let d := if b.bit .MODEL_CTRL_APPLIED = false then b.rd .PLn_HOD_XO p else if 3600 < b.rd .MODEL_AGE then b.rd .PLn_HOD_DEGR p else b.rd .PLn_HOD_ASSIST p
   x.growth.run = true ∧ d = 0xFFFFFFFF) ∧
  (let t : Nat := 0; let m : Master := .pcie; let s : State := powered; let b := s.enter t
   b.answers m .MODEL_CTRL ∧ m ≠ .keeper) := by
  refine ⟨?_, ?_, ?_, ?_, ?_⟩ <;> dsimp only [State.answers, State.CanRun, State.Calm, State.RunsOn, State.breakAt] <;> decide +kernel

/-- Hypotheses of ApllControl, clause by clause. -/
theorem test_hyps_ApllControl :
  (let t : Nat := 0; let m : Master := .pcie; let x : Fin 2 := 0; let s : State := powered |>.wr .APLLx_CTRL_EN 0 0
   let b := s.enter t; let on := b.bit .APLLx_CTRL_EN x
   b.answers m .APLLx_CTRL ∧ on = false) ∧
  (let t : Nat := 0; let m : Master := .pcie; let x : Fin 2 := 0; let s : State := powered |>.wr .APLLx_CTRL_EN 0 1
   let b := s.enter t; let on := b.bit .APLLx_CTRL_EN x
   b.answers m .APLLx_CTRL ∧ on = true) ∧
  (let t : Nat := 0; let m : Master := .pcie; let x : Fin 2 := 1; let v : Word := 0; let r := .den
   let s : State := powered |>.wr .APLLx_CTRL_EN 1 1; let b := s.enter t; let on := b.bit .APLLx_CTRL_EN x
   let cfg := fun (r : ApllCfgReg) => match r with  | .refmul => (Field.APLLx_CTRL_REFMUL, v.toNat % 4)  | .n => (.APLLx_N, v.toNat % 128)  | .num => (.APLLx_NUM, v.toNat)  | .den => (.APLLx_DEN, v.toNat)
   b.answers m .APLLx_CTRL ∧ on = true ∧ (b.rd (cfg r).1 x ≠ (cfg r).2 ∨ r ≠ .refmul)) ∧
  (let t : Nat := 0; let m : Master := .pcie; let x : Fin 2 := 0; let v : Word := 1
   let s : State := powered |>.wr .XO_STAT_COARSE 0 1 |>.wr .XO_MON_LOST 0 0 |>.wr .APLLx_CTRL_EN 0 1 |>.wr .APLLx_STAT_STATE 0 4
   let b := s.enter t; let on := b.bit .APLLx_CTRL_EN x; let st := b.rd .APLLx_STAT_STATE x
   b.answers m .APLLx_CTRL ∧ on = true ∧ v.getLsbD 0 = true ∧ (st = 4 ∨ st = 5) ∧ b.apUsers x = 0 ∧ b.xoOk = true) := by
  refine ⟨?_, ?_, ?_, ?_⟩ <;> dsimp only [State.answers, State.CanRun, State.Calm, State.RunsOn, State.breakAt] <;> decide +kernel

/-- Hypotheses of ApllStates, clause by clause. -/
theorem test_hyps_ApllStates :
  (let t : Nat := 0; let x : Fin 2 := 0
   let s : State := powered |>.wr .XO_STAT_COARSE 0 1 |>.wr .XO_MON_LOST 0 0 |>.wr .APLLx_STAT_STATE 0 1; let b := s.enter t
   let st := b.rd .APLLx_STAT_STATE x
   st = 1 ∧ b.xoOk = true) ∧
  (let t : Nat := 0; let x : Fin 2 := 0
   let s : State := powered |>.wr .XO_STAT_COARSE 0 1 |>.wr .XO_MON_LOST 0 0 |>.wr .APLLx_STAT_STATE 0 2; let b := s.enter t
   let st := b.rd .APLLx_STAT_STATE x
   st = 2 ∧ b.xoOk = true) ∧
  (let t : Nat := 0; let x : Fin 2 := 0; let s : State := late |>.wr .APLLx_STAT_STATE 0 1; let b := s.enter t
   let a := b.aplls[x]; let st := b.rd .APLLx_STAT_STATE x
   (st = 1 ∨ st = 2) ∧ a.lockFrom + 2000000000 ≤ b.now) ∧
  (let t : Nat := 0; let x : Fin 2 := 0
   let s : State := late |>.wr .XO_STAT_COARSE 0 1 |>.wr .XO_MON_LOST 0 0 |>.wr .APLLx_STAT_STATE 0 5; let b := s.enter t
   let a := b.aplls[x]; let st := b.rd .APLLx_STAT_STATE x
   st = 5 ∧ a.retried = false ∧ a.failAt + 1000000000 ≤ b.now ∧ b.xoOk = true) ∧
  (let t : Nat := 0; let x : Fin 2 := 0
   let s : State := powered.setApll 0 { ApllState.init with retried := true } |>.wr .APLLx_STAT_STATE 0 5; let b := s.enter t
   let a := b.aplls[x]; let st := b.rd .APLLx_STAT_STATE x
   st = 5 ∧ a.retried = true) ∧
  (let t : Nat := 0; let x : Fin 2 := 0; let both : Vector (List Int) 2 := Vector.replicate 2 (List.replicate 4 (2 ^ 47))
   let s : State := late |>.wr .APLLx_STAT_STATE 0 3; let b := s.enter t; let st := b.rd .APLLx_STAT_STATE x
   let departs := fun (y : Fin 2) (l : List Int) => let k := max 1 (b.rd .APLLx_DEP_DEP_CNT y); k ≤ l.length ∧
     ∀ e ∈ l.drop (l.length - k), max 1 (b.rd .APLLx_DEP_DEP_THR y) * 16 < e.natAbs
   st = 3 ∧ departs x both[x]) ∧
  (let t : Nat := 0; let x : Fin 2 := 0; let both : Vector (List Int) 2 := Vector.replicate 2 []
   let s : State := late.wr .APLLx_STAT_STATE 0 3; let b := s.enter t; let st := b.rd .APLLx_STAT_STATE x
   let departs := fun (y : Fin 2) (l : List Int) => let k := max 1 (b.rd .APLLx_DEP_DEP_CNT y); k ≤ l.length ∧
     ∀ e ∈ l.drop (l.length - k), max 1 (b.rd .APLLx_DEP_DEP_THR y) * 16 < e.natAbs
   (st ≠ 3 ∨ ¬ departs x both[x])) ∧
  (let t : Nat := 0; let x : Fin 2 := 0; let errs : List Int := List.replicate 3 (2 ^ 47)
   let s : State := late.wr .APLLx_STAT_STATE 0 3; let b := s.enter t; let st := b.rd .APLLx_STAT_STATE x
   let loses := 4 ≤ ((errs.drop (errs.length - 64)).filter (fun e => 12800 < e.natAbs)).length
   (st ≠ 3 ∨ ¬ loses)) ∧
  (let t : Nat := 0; let x : Fin 2 := 0; let errs : List Int := List.replicate 4 (2 ^ 47)
   let s : State := late |>.wr .APLLx_STAT_STATE 0 3; let b := s.enter t; let st := b.rd .APLLx_STAT_STATE x
   let loses := 4 ≤ ((errs.drop (errs.length - 64)).filter (fun e => 12800 < e.natAbs)).length
   st = 3 ∧ loses) ∧
  (let t : Nat := 0; let x : Fin 2 := 0
   let s : State := powered |>.wr .XO_STAT_COARSE 0 1 |>.wr .XO_MON_LOST 0 0 |>.wr .APLLx_STAT_STATE 0 4 |>.wr .APLLx_CTRL_AUTO_RELOCK 0 1
   let b := s.enter t; let st := b.rd .APLLx_STAT_STATE x
   st = 4 ∧ b.bit .APLLx_CTRL_AUTO_RELOCK x = true ∧ b.apUsers x = 0 ∧ b.xoOk = true) ∧
  (let t : Nat := 0; let x : Fin 2 := 0; let s : State := powered |>.wr .APLLx_STAT_STATE 0 3 |>.wr .APLLx_STAT_VT_MARGIN 0 0
   let b := s.enter t; let st := b.rd .APLLx_STAT_STATE x
   st = 3 ∧ b.bit .APLLx_STAT_VT_MARGIN x = false) := by
  refine ⟨?_, ?_, ?_, ?_, ?_, ?_, ?_, ?_, ?_, ?_, ?_⟩ <;> dsimp only [State.answers, State.CanRun, State.Calm, State.RunsOn, State.breakAt] <;> decide +kernel

/-- Hypotheses of ApllTrimAndXoLoss, clause by clause. -/
theorem test_hyps_ApllTrimAndXoLoss :
  (let t : Nat := 0; let m : Master := .pcie; let x : Fin 2 := 0; let s : State := powered |>.wr .APLLx_TRIM_CTRL_FREEZE 0 1
   let b := s.enter t; let frozen := b.bit .APLLx_TRIM_CTRL_FREEZE x
   b.answers m .APLLx_GAIN ∧ frozen = true ∧ b.answers m .APLLx_TAP) ∧
  (let t : Nat := 0; let m : Master := .pcie; let x : Fin 2 := 0; let s : State := powered |>.wr .APLLx_TRIM_CTRL_FREEZE 0 0
   let b := s.enter t; let frozen := b.bit .APLLx_TRIM_CTRL_FREEZE x
   b.answers m .APLLx_GAIN ∧ frozen = false ∧ b.answers m .APLLx_TAP) ∧
  (let xph : Int := 0
   (-(2 ^ 63) < xph) ∧ xph < 2 ^ 63) ∧
  (let t : Nat := 0; let s : State := powered |>.wr .XO_MON_LOST 0 0; let b := s.enter t
   b.timebase = true ∧ b.bit .XO_MON_LOST = false) := by
  refine ⟨?_, ?_, ?_, ?_⟩ <;> dsimp only [State.answers, State.CanRun, State.Calm, State.RunsOn, State.breakAt] <;> decide +kernel

/-- Hypotheses of OutputConfiguration, clause by clause. -/
theorem test_hyps_OutputConfiguration :
  (let t : Nat := 0; let m : Master := .pcie; let n : Fin 64 := 0; let v : Word := 0
   let c := Instr.outSrcPlWrite 0 .pcie 0 0; let s : State := powered; let b := s.enter t; let on := b.outOn n
   b.answers m .OUTn_CFG ∧ on = false ∧ b.answers m .OUTn_INT ∧ b.answers m .OUTn_DELAY ∧ b.answers m .OUTn_SLEW ∧ b.answers m .OUTn_SRC ∧
     (c = Instr.outSrcPlWrite t m n v ∨ c = .outSrcApllWrite t m n v)) ∧
  (let t : Nat := 0; let m : Master := .pcie; let n : Fin 64 := 0
   let s : State := powered.wr .OUTn_STAT_RUN 0 2 |>.wr .OUTn_CFG_EN 0 1; let b := s.enter t; let o := b.outs[n]
   let on := b.outOn n
   b.answers m .OUTn_CFG ∧ on = true ∧ b.bit .OUTn_CFG_EN n = true ∧ o.driverNext = none) ∧
  (let t : Nat := 0; let m : Master := .pcie; let n : Fin 64 := 0; let s : State := powered.wr .OUTn_STAT_RUN 0 2
   let b := s.enter t; let on := b.outOn n
   b.answers m .OUTn_INT ∧ on = true) ∧
  (let t : Nat := 0; let m : Master := .pcie; let n : Fin 64 := 0; let s : State := powered |>.wr .OUTn_STAT_PEND 0 0
   let b := s.enter t
   b.answers m .OUTn_INT ∧ b.bit .OUTn_STAT_PEND n = false) ∧
  (let t : Nat := 0; let m : Master := .pcie; let n : Fin 64 := 0; let s : State := powered |>.wr .OUTn_STAT_PEND 0 1
   let b := s.enter t
   b.answers m .OUTn_INT ∧ b.bit .OUTn_STAT_PEND n = true) ∧
  (let t : Nat := 0; let m : Master := .pcie; let n : Fin 64 := 0; let v : Word := 0
   let c := Instr.outSrcApllWrite 0 .pcie 0 0; let s : State := powered.wr .OUTn_STAT_RUN 0 3; let b := s.enter t
   let on := b.outOn n
   b.answers m .OUTn_SRC ∧ (c = Instr.outSrcPlWrite t m n v ∨ c = .outSrcApllWrite t m n v) ∧ on = true) := by
  refine ⟨?_, ?_, ?_, ?_, ?_, ?_⟩ <;> dsimp only [State.answers, State.CanRun, State.Calm, State.RunsOn, State.breakAt] <;> decide +kernel

/-- Hypotheses of OutputCommands, clause by clause. -/
theorem test_hyps_OutputCommands :
  (let t : Nat := 0; let n : Fin 64 := 63
   let s : State := powered |>.wr .OUTn_STAT_RUN 63 1 |>.wr .APLLx_STAT_STATE 0 3 |>.wr .OUTn_CFG_START 63 1 |>.wr .OUTn_INT 63 8 |>.wr .OUTn_NUM 63 0 |>.wr .OUTn_DEN 63 1
   let b := s.enter t
   b.run n = 1 ∧ b.outMayStart n = true) ∧
  (let t : Nat := 0; let n : Fin 64 := 0; let m : Master := .pcie; let s : State := powered; let b := s.enter t
   let o := b.outs[n]; let on := b.outOn n
   let hops := on = true ∧ b.outMode n = 0 ∧ (b.shadowRatio n).valid = true ∧ o.hop = none
   (b.run n ≠ 1 ∨ b.outMayStart n = false) ∧ b.answers m .OUTn_PHASE ∧ b.answers m .OUTn_CMD ∧ (¬ hops) ∧ (on = false ∨ b.outMode n ≠ 0) ∧
     b.answers m .OUTn_EDGEADJ) ∧
  (let t : Nat := 0; let m : Master := .pcie; let n : Fin 64 := 63
   let s : State := powered |>.wr .OUTn_STAT_RUN 63 2 |>.wr .OUTn_S_INT 63 8 |>.wr .OUTn_S_NUM 63 0 |>.wr .OUTn_S_DEN 63 1
   let b := s.enter t; let o := b.outs[n]; let on := b.outOn n
   let hops := on = true ∧ b.outMode n = 0 ∧ (b.shadowRatio n).valid = true ∧ o.hop = none
   b.answers m .OUTn_CMD ∧ hops) ∧
  (let t : Nat := 0; let m : Master := .pcie; let n : Fin 64 := 63; let s : State := powered |>.wr .OUTn_STAT_RUN 63 2
   let b := s.enter t; let on := b.outOn n
   b.answers m .OUTn_CMD ∧ on = true ∧ b.outMode n = 0) := by
  refine ⟨?_, ?_, ?_, ?_⟩ <;> dsimp only [State.answers, State.CanRun, State.Calm, State.RunsOn, State.breakAt] <;> decide +kernel

/-- Hypotheses of OutputEdges, clause by clause. -/
theorem test_hyps_OutputEdges :
  (let t : Nat := 0; let n : Fin 64 := 63; let s : State := late |>.wr .OUTn_STAT_RUN 63 2; let b := s.enter t
   let o := b.outs[n]
   let runs := b.timebase = true ∧ b.outOn n = true ∧ b.bit .OUTn_STAT_NOAPLL n = false ∧ b.edgeDue n = true
   let steady := o.hop = none ∧ o.next = none ∧ o.phaseFrom = none ∧ o.steps = [] ∧ o.corrNext = none ∧ o.phi = (b.rdI .OUTn_PHASE n : Rat)
   runs ∧ b.outMode n = 0 ∧ o.swap = none ∧ steady) ∧
  (let t : Nat := 0; let n : Fin 64 := 63; let s : State := late |>.wr .OUTn_STAT_RUN 63 2 |>.wr .OUTn_CFG_MODE 63 1
   let b := s.enter t; let o := b.outs[n]
   let runs := b.timebase = true ∧ b.outOn n = true ∧ b.bit .OUTn_STAT_NOAPLL n = false ∧ b.edgeDue n = true
   let steady := o.hop = none ∧ o.next = none ∧ o.phaseFrom = none ∧ o.steps = [] ∧ o.corrNext = none ∧ o.phi = (b.rdI .OUTn_PHASE n : Rat)
   runs ∧ (b.outMode n = 1 ∨ b.outMode n = 2) ∧ o.swap = none ∧ steady ∧ b.tooSoon n (b.nextInst n (b.nomPeriod n)).2 (b.nomPeriod n) = false) ∧
  (let t : Nat := 0; let n : Fin 64 := 63
   let s : State := (late |>.wr .OUTn_STAT_RUN 63 2 |>.wr .OUTn_CFG_MODE 63 1).setOut 63 { OutState.init with lastRise := some (10 ^ 18) }
   let b := s.enter t; let o := b.outs[n]
   let runs := b.timebase = true ∧ b.outOn n = true ∧ b.bit .OUTn_STAT_NOAPLL n = false ∧ b.edgeDue n = true
   let steady := o.hop = none ∧ o.next = none ∧ o.phaseFrom = none ∧ o.steps = [] ∧ o.corrNext = none ∧ o.phi = (b.rdI .OUTn_PHASE n : Rat)
   runs ∧ (b.outMode n = 1 ∨ b.outMode n = 2) ∧ o.swap = none ∧ steady ∧ b.tooSoon n (b.nextInst n (b.nomPeriod n)).2 (b.nomPeriod n) = true) ∧
  (let t : Nat := 0; let n : Fin 64 := 63; let s : State := powered; let b := s.enter t; let o := b.outs[n]
   (b.edgeDue n = false ∨ b.outOn n = false) ∧ o.driverNext = none) ∧
  (let t : Nat := 0; let n : Fin 64 := 63
   let s : State := (late |>.wr .OUTn_STAT_RUN 63 2).setOut 63 { OutState.init with swap := some ⟨1, false⟩ }
   let b := s.enter t; let o := b.outs[n]
   let runs := b.timebase = true ∧ b.outOn n = true ∧ b.bit .OUTn_STAT_NOAPLL n = false ∧ b.edgeDue n = true
   runs ∧ o.swap ≠ none ∧ b.maySwap n = false) ∧
  (let t : Nat := 0; let n : Fin 64 := 63
   let s : State := (late |>.wr .OUTn_STAT_RUN 63 2 |>.wr .OUTn_CFG_MODE 63 1 |>.wr .APLLx_STAT_STATE 1 3).setOut 63 { OutState.init with swap := some ⟨1, false⟩ }
   let b := s.enter t; let o := b.outs[n]
   let runs := b.timebase = true ∧ b.outOn n = true ∧ b.bit .OUTn_STAT_NOAPLL n = false ∧ b.edgeDue n = true
   runs ∧ o.swap ≠ none ∧ b.maySwap n = true) ∧
  (let t : Nat := 0; let n : Fin 64 := 63; let s : State := powered; let b := s.enter t; let o := b.outs[n]
   o.swap = none) := by
  refine ⟨?_, ?_, ?_, ?_, ?_, ?_, ?_⟩ <;> dsimp only [State.answers, State.CanRun, State.Calm, State.RunsOn, State.breakAt] <;> decide +kernel

/-- Hypotheses of Banks, clause by clause. -/
theorem test_hyps_Banks :
  (let t : Nat := 0; let k : Fin 8 := 7; let f : Nat := 5
   let s : State := late.setBank 7 { BankState.init with supplyFrom := some 5 }; let b := s.enter t; let x := b.banks[k]
   x.supplyFrom = some f ∧ f + 1000000000 ≤ b.now) ∧
  (let t : Nat := 0; let m : Master := .pcie; let s : State := powered; let b := s.enter t
   b.clk.shedNext ≤ b.now ∧ b.answers m .OBb_BTSEL) ∧
  (let t : Nat := 0; let k : Fin 8 := 7; let f : Nat := 5
   let s : State := late.setBank 7 { BankState.init with gateFrom := some 5 } |>.wr .OBb_BTSEL_EN 7 1; let b := s.enter t
   let x := b.banks[k]
   x.gateFrom = some f ∧ b.bit .OBb_BTSEL_EN k = true ∧ f + max 1 (b.rd .OBb_BTSEL_GATE k) * 1000000000 ≤ b.now) := by
  refine ⟨?_, ?_, ?_⟩ <;> dsimp only [State.answers, State.CanRun, State.Calm, State.RunsOn, State.breakAt] <;> decide +kernel

/-- Hypotheses of SheafArming, clause by clause. -/
theorem test_hyps_SheafArming :
  (let t : Nat := 0; let m : Master := .pcie; let k : Fin 16 := 0; let s : State := powered |>.wr .SHk_STAT_STATE 0 0
   let b := s.enter t; let st := b.rd .SHk_STAT_STATE k
   b.answers m .SHk_MEMBERS ∧ st = 0 ∧ b.answers m .SHk_CMD) ∧
  (let t : Nat := 0; let m : Master := .pcie; let k : Fin 16 := 0; let s : State := powered |>.wr .SHk_STAT_STATE 0 1
   let b := s.enter t; let st := b.rd .SHk_STAT_STATE k
   b.answers m .SHk_MEMBERS ∧ st ≠ 0 ∧ b.answers m .SHk_CMD ∧ st = 1) ∧
  (let t : Nat := 0; let m : Master := .pcie; let k : Fin 16 := 15; let sync : Bool := false; let asap : Bool := false
   let pl : Fin 4 := 0; let c := Instr.sheafHop 0 .pcie 15 false false 0; let op := SheafOp.hop
   let s : State := powered.wr .SHk_STAT_STATE 15 2 |>.wr .SHk_STAT_STATE 15 1; let b := s.enter t
   let st := b.rd .SHk_STAT_STATE k
   b.answers m .SHk_CMD ∧
     (c, op) ∈ [(Instr.sheafHop t m k sync asap pl, SheafOp.hop), (.sheafPhase t m k sync asap pl, .phase), (.sheafHopPhase t m k sync asap pl, .hopPhase)] ∧ st ≠ 0) ∧
  (let t : Nat := 0; let m : Master := .pcie; let k : Fin 16 := 15; let sync : Bool := false; let asap : Bool := false
   let pl : Fin 4 := 0; let c := Instr.sheafPhase 0 .pcie 15 false false 0; let op := SheafOp.phase
   let s : State := powered |>.wr .SHk_STAT_STATE 15 0 |>.wr .SHk_MEMBERS 15 0; let b := s.enter t
   let st := b.rd .SHk_STAT_STATE k
   b.answers m .SHk_CMD ∧
     (c, op) ∈ [(Instr.sheafHop t m k sync asap pl, SheafOp.hop), (.sheafPhase t m k sync asap pl, .phase), (.sheafHopPhase t m k sync asap pl, .hopPhase)] ∧ st = 0 ∧ b.rd .SHk_MEMBERS k = 0) ∧
  (let t : Nat := 0; let m : Master := .pcie; let k : Fin 16 := 15; let sync : Bool := false; let asap : Bool := true
   let pl : Fin 4 := 0; let c := Instr.sheafHopPhase 0 .pcie 15 false true 0; let op := SheafOp.hopPhase
   let s : State := powered |>.wr .SHk_MEMBERS 15 1 |>.wr .SHk_AT_NS 15 1000000000 |>.wr .SHk_STAT_STATE 15 0 |>.wr .SHk_MEMBERS 15 1
   let b := s.enter t; let st := b.rd .SHk_STAT_STATE k
   b.answers m .SHk_CMD ∧
     (c, op) ∈ [(Instr.sheafHop t m k sync asap pl, SheafOp.hop), (.sheafPhase t m k sync asap pl, .phase), (.sheafHopPhase t m k sync asap pl, .hopPhase)] ∧ st = 0 ∧ b.rd .SHk_MEMBERS k ≠ 0 ∧ 1000000000 ≤ b.rd .SHk_AT_NS k) ∧
  (let t : Nat := 0; let m : Master := .pcie; let k : Fin 16 := 15; let sync : Bool := false; let asap : Bool := false
   let pl : Fin 4 := 0; let c := Instr.sheafHop 0 .pcie 15 false false 0; let op := SheafOp.hop
   let s : State := powered |>.wr .SHk_MEMBERS 15 1; let b := s.enter t; let st := b.rd .SHk_STAT_STATE k
   let member := fun (n : Fin 64) => b.bitOf .SHk_MEMBERS k n = true
   let badRatio := ∃ n, member n ∧ b.outMode n = 0 ∧ (b.shadowRatio n).valid = false; let hops := op = .hop ∨ op = .hopPhase
   let sound := st = 0 ∧ b.rd .SHk_MEMBERS k ≠ 0 ∧ b.rd .SHk_AT_NS k < 1000000000
   b.answers m .SHk_CMD ∧
     (c, op) ∈ [(Instr.sheafHop t m k sync asap pl, SheafOp.hop), (.sheafPhase t m k sync asap pl, .phase), (.sheafHopPhase t m k sync asap pl, .hopPhase)] ∧ sound ∧ (hops ∧ badRatio)) ∧
  (let t : Nat := 0; let m : Master := .pcie; let k : Fin 16 := 15; let sync : Bool := false; let asap : Bool := false
   let pl : Fin 4 := 0; let c := Instr.sheafPhase 0 .pcie 15 false false 0; let op := SheafOp.phase
   let s : State := powered |>.wr .SHk_MEMBERS 15 1 |>.wr .OUTn_PHASE 0 (2 ^ 47 - 1) |>.wr .SHk_DPHASE 15 1
   let b := s.enter t; let st := b.rd .SHk_STAT_STATE k; let member := fun (n : Fin 64) => b.bitOf .SHk_MEMBERS k n = true
   let badRatio := ∃ n, member n ∧ b.outMode n = 0 ∧ (b.shadowRatio n).valid = false
   let badPhase := ∃ n, member n ∧ (b.rdI .OUTn_PHASE n + b.rdI .SHk_DPHASE k < -(2 ^ 47) ∨ 2 ^ 47 ≤ b.rdI .OUTn_PHASE n + b.rdI .SHk_DPHASE k)
   let hops := op = .hop ∨ op = .hopPhase; let moves := op = .phase ∨ op = .hopPhase
   let sound := st = 0 ∧ b.rd .SHk_MEMBERS k ≠ 0 ∧ b.rd .SHk_AT_NS k < 1000000000
   b.answers m .SHk_CMD ∧
     (c, op) ∈ [(Instr.sheafHop t m k sync asap pl, SheafOp.hop), (.sheafPhase t m k sync asap pl, .phase), (.sheafHopPhase t m k sync asap pl, .hopPhase)] ∧ sound ∧ (¬ (hops ∧ badRatio)) ∧ (moves ∧ badPhase)) ∧
  (let t : Nat := 0; let m : Master := .pcie; let k : Fin 16 := 15; let sync : Bool := false; let asap : Bool := false
   let pl : Fin 4 := 0; let c := Instr.sheafPhase 0 .pcie 15 false false 0; let op := SheafOp.phase
   let s : State := late |>.wr .SHk_MEMBERS 15 1; let b := s.enter t; let st := b.rd .SHk_STAT_STATE k
   let member := fun (n : Fin 64) => b.bitOf .SHk_MEMBERS k n = true; let now := b.tod pl b.now
   let at_ : Rat := ((b.rd .SHk_AT_S k * 1000000000 + b.rd .SHk_AT_NS k) * 1000 : Nat); let early := now + 2000000 ≤ at_
   let badRatio := ∃ n, member n ∧ b.outMode n = 0 ∧ (b.shadowRatio n).valid = false
   let badPhase := ∃ n, member n ∧ (b.rdI .OUTn_PHASE n + b.rdI .SHk_DPHASE k < -(2 ^ 47) ∨ 2 ^ 47 ≤ b.rdI .OUTn_PHASE n + b.rdI .SHk_DPHASE k)
   let hops := op = .hop ∨ op = .hopPhase; let moves := op = .phase ∨ op = .hopPhase
   let sound := st = 0 ∧ b.rd .SHk_MEMBERS k ≠ 0 ∧ b.rd .SHk_AT_NS k < 1000000000
   b.answers m .SHk_CMD ∧
     (c, op) ∈ [(Instr.sheafHop t m k sync asap pl, SheafOp.hop), (.sheafPhase t m k sync asap pl, .phase), (.sheafHopPhase t m k sync asap pl, .hopPhase)] ∧ sound ∧ (¬ (hops ∧ badRatio)) ∧ (¬ (moves ∧ badPhase)) ∧ (¬ early) ∧ asap = false) ∧
  (let t : Nat := 0; let m : Master := .pcie; let k : Fin 16 := 15; let sync : Bool := false; let asap : Bool := true
   let pl : Fin 4 := 0; let c := Instr.sheafHopPhase 0 .pcie 15 false true 0; let op := SheafOp.hopPhase
   let s : State := late |>.wr .SHk_MEMBERS 15 1 |>.wr .OUTn_S_INT 0 8 |>.wr .OUTn_S_NUM 0 0 |>.wr .OUTn_S_DEN 0 1
   let b := s.enter t; let st := b.rd .SHk_STAT_STATE k; let member := fun (n : Fin 64) => b.bitOf .SHk_MEMBERS k n = true
   let now := b.tod pl b.now; let at_ : Rat := ((b.rd .SHk_AT_S k * 1000000000 + b.rd .SHk_AT_NS k) * 1000 : Nat)
   let early := now + 2000000 ≤ at_; let badRatio := ∃ n, member n ∧ b.outMode n = 0 ∧ (b.shadowRatio n).valid = false
   let badPhase := ∃ n, member n ∧ (b.rdI .OUTn_PHASE n + b.rdI .SHk_DPHASE k < -(2 ^ 47) ∨ 2 ^ 47 ≤ b.rdI .OUTn_PHASE n + b.rdI .SHk_DPHASE k)
   let hops := op = .hop ∨ op = .hopPhase; let moves := op = .phase ∨ op = .hopPhase
   let sound := st = 0 ∧ b.rd .SHk_MEMBERS k ≠ 0 ∧ b.rd .SHk_AT_NS k < 1000000000
   b.answers m .SHk_CMD ∧
     (c, op) ∈ [(Instr.sheafHop t m k sync asap pl, SheafOp.hop), (.sheafPhase t m k sync asap pl, .phase), (.sheafHopPhase t m k sync asap pl, .hopPhase)] ∧ sound ∧ (¬ (hops ∧ badRatio)) ∧ (¬ (moves ∧ badPhase)) ∧ (early ∨ asap = true)) ∧
  (let t : Nat := 0; let m : Master := .pcie; let k : Fin 16 := 0; let s : State := powered |>.wr .SHk_STAT_STATE 0 2
   let b := s.enter t; let st := b.rd .SHk_STAT_STATE k
   b.answers m .SHk_CMD ∧ st = 2) := by
  refine ⟨?_, ?_, ?_, ?_, ?_, ?_, ?_, ?_, ?_, ?_⟩ <;> dsimp only [State.answers, State.CanRun, State.Calm, State.RunsOn, State.breakAt] <;> decide +kernel

/-- Hypotheses of SheafCourse, clause by clause. -/
theorem test_hyps_SheafCourse :
  (let t : Nat := 0; let k : Fin 16 := 15; let j : SheafJob := ⟨.hop, false, 3, 10 ^ 18, 0, false, [], false, false, []⟩
   let s : State := (late.setSheaf 15 (some ⟨.hop, false, 3, 10 ^ 18, 0, false, [], false, false, []⟩)) |>.wr .SHk_STAT_STATE 15 1
   let b := s.enter t; let st := b.rd .SHk_STAT_STATE k; let now := b.tod (Fin.ofNat 4 j.plane) b.now
   b.timebase = true ∧ b.sheafs[k] = some j ∧ st = 1 ∧ j.e ≤ now + 2000000) ∧
  (let t : Nat := 0; let k : Fin 16 := 15
   let j : SheafJob := ⟨.hop, false, 3, 10 ^ 18 + 2000001, 0, false, [], false, false, []⟩
   let s : State := (late.setSheaf 15 (some ⟨.hop, false, 3, 10 ^ 18 + 2000001, 0, false, [], false, false, []⟩)) |>.wr .SHk_STAT_STATE 15 1
   let b := s.enter t; let st := b.rd .SHk_STAT_STATE k; let now := b.tod (Fin.ofNat 4 j.plane) b.now
   b.timebase = true ∧ b.sheafs[k] = some j ∧ st = 1 ∧ now + 2000000 < j.e) ∧
  (let t : Nat := 0; let k : Fin 16 := 15; let j : SheafJob := ⟨.hop, false, 3, 10 ^ 18, 0, false, [], false, false, []⟩
   let s : State := (late.setSheaf 15 (some ⟨.hop, false, 3, 10 ^ 18, 0, false, [], false, false, []⟩)) |>.wr .SHk_STAT_STATE 15 2
   let b := s.enter t; let st := b.rd .SHk_STAT_STATE k; let now := b.tod (Fin.ofNat 4 j.plane) b.now
   b.timebase = true ∧ b.sheafs[k] = some j ∧ st = 2 ∧ j.placed = false ∧ j.e ≤ now + 100000) ∧
  (let t : Nat := 0; let k : Fin 16 := 15; let j : SheafJob := ⟨.hop, false, 3, 10 ^ 18, 0, false, [], true, false, []⟩
   let s : State := (late.setSheaf 15 (some ⟨.hop, false, 3, 10 ^ 18, 0, false, [], true, false, []⟩)) |>.wr .SHk_STAT_STATE 15 2
   let b := s.enter t; let st := b.rd .SHk_STAT_STATE k; let now := b.tod (Fin.ofNat 4 j.plane) b.now
   let hops := j.op = .hop ∨ j.op = .hopPhase
   b.timebase = true ∧ b.sheafs[k] = some j ∧ st = 2 ∧ j.placed = true ∧ j.effective = false ∧ j.e ≤ now ∧ hops) ∧
  (let t : Nat := 0; let k : Fin 16 := 15
   let j : SheafJob := ⟨.hop, false, 3, 10 ^ 18 - 200000, 0, false, [], true, true, []⟩
   let s : State := (late.setSheaf 15 (some ⟨.hop, false, 3, 10 ^ 18 - 200000, 0, false, [], true, true, []⟩))
   let b := s.enter t; let now := b.tod (Fin.ofNat 4 j.plane) b.now
   b.timebase = true ∧ b.sheafs[k] = some j ∧ j.effective = true ∧ j.e + 200000 ≤ now ∧ 0 ≤ j.e) ∧
  (let t : Nat := 0; let n : Fin 64 := 63; let h : HopPend := ⟨⟨8, 0, 1⟩, true, true, none, 10 ^ 18, none⟩
   let s : State := late.setOut 63 { OutState.init with hop := some ⟨⟨8, 0, 1⟩, true, true, none, 10 ^ 18, none⟩ }
   let b := s.enter t
   (b.outs[n]).hop = some h ∧ h.sheaf = none ∧ h.at_ ≤ b.now) := by
  refine ⟨?_, ?_, ?_, ?_, ?_, ?_⟩ <;> dsimp only [State.answers, State.CanRun, State.Calm, State.RunsOn, State.breakAt] <;> decide +kernel

/-- Hypotheses of TimeOfDay, clause by clause. -/
theorem test_hyps_TimeOfDay :
  (let t : Nat := 0; let m : Master := .pcie; let p : Fin 4 := 3; let x := Instr.todAdj 0 .pcie 3; let y := TodCmd.adj 0
   let s : State := powered.setTod 3 { TodState.init with cmd := some (.setSec 0, 0, 0) }; let b := s.enter t
   let d := b.tods[p]; let refused := d.cmd ≠ none ∨ (x = .todSetTick t m p ∧ 1000000000 ≤ b.rd .TODp_SET_NS p)
   b.answers m .TODp_CMD ∧
     (x, y) ∈ [(Instr.todSetTick t m p, TodCmd.setTick (b.rd .TODp_SET_S p) (b.rd .TODp_SET_NS p)), (.todSetSec t m p, .setSec (b.rd .TODp_SET_S p)), (.todAdj t m p, .adj (b.rdI .TODp_ADJ p))] ∧ refused) ∧
  (let t : Nat := 0; let m : Master := .pcie; let p : Fin 4 := 3; let x := Instr.todSetSec 0 .pcie 3
   let y := TodCmd.setSec 0; let s : State := powered; let b := s.enter t; let d := b.tods[p]
   let refused := d.cmd ≠ none ∨ (x = .todSetTick t m p ∧ 1000000000 ≤ b.rd .TODp_SET_NS p)
   b.answers m .TODp_CMD ∧
     (x, y) ∈ [(Instr.todSetTick t m p, TodCmd.setTick (b.rd .TODp_SET_S p) (b.rd .TODp_SET_NS p)), (.todSetSec t m p, .setSec (b.rd .TODp_SET_S p)), (.todAdj t m p, .adj (b.rdI .TODp_ADJ p))] ∧ (¬ refused)) ∧
  (let t : Nat := 0; let p : Fin 4 := 3; let c : TodCmd := .adj 64; let tick : Nat := 0; let sec : Nat := 0
   let s : State := ({ late with tick := 1 } : State).setTod 3 { TodState.init with cmd := some (.adj 64, 0, 0) }
   let b := s.enter t; let d := b.tods[p]; let now := b.tod p b.now
   let step := match c with  | .setTick x ns => (((x * 1000000000 + ns) * 1000 : Nat) : Rat) - now  | .setSec x => ((x * 1000000000000 : Nat) : Rat) - (now / 1000000000000).floor * 1000000000000  | .adj x => (x : Rat) / 64
   let loop := b.rd .PLn_STATE_STATE p = 1 ∨ b.rd .PLn_STATE_STATE p = 2
   let pbo := b.rdI .PLn_PBO p - roundFree 25 (b.stepFor (srcCode (b.rd .PLn_REFSEL_SRC p)) step * 64)
   let fits := -(2 ^ 47) ≤ pbo ∧ pbo < 2 ^ 47
   d.cmd = some (c, tick, sec) ∧ b.cmdDue p c tick sec = true ∧ (loop → fits)) ∧
  (let t : Nat := 0; let p : Fin 4 := 3; let c : TodCmd := .adj 64; let tick : Nat := 0; let sec : Nat := 0
   let s : State := (({ late with tick := 1 } : State).setTod 3 { TodState.init with cmd := some (.adj 64, 0, 0) }) |>.wr .PLn_STATE_STATE 3 2 |>.wrI .PLn_PBO 3 (-(2 ^ 47)) |>.wr .INn_TYPE 0 5 |>.wr .PLn_REFSEL_SRC 3 0
   let b := s.enter t; let d := b.tods[p]; let now := b.tod p b.now
   let step := match c with  | .setTick x ns => (((x * 1000000000 + ns) * 1000 : Nat) : Rat) - now  | .setSec x => ((x * 1000000000000 : Nat) : Rat) - (now / 1000000000000).floor * 1000000000000  | .adj x => (x : Rat) / 64
   let loop := b.rd .PLn_STATE_STATE p = 1 ∨ b.rd .PLn_STATE_STATE p = 2
   let pbo := b.rdI .PLn_PBO p - roundFree 25 (b.stepFor (srcCode (b.rd .PLn_REFSEL_SRC p)) step * 64)
   let fits := -(2 ^ 47) ≤ pbo ∧ pbo < 2 ^ 47
   d.cmd = some (c, tick, sec) ∧ b.cmdDue p c tick sec = true ∧ loop ∧ (¬ fits)) ∧
  (let t : Nat := 0; let p : Fin 4 := 3; let c : TodCmd := .adj 64; let tick : Nat := 0; let sec : Nat := 0
   let s : State := powered.setTod 3 { TodState.init with cmd := some (.adj 64, 0, 0) }; let b := s.enter t
   let d := b.tods[p]
   d.cmd = some (c, tick, sec) ∧ b.cmdDue p c tick sec = false) ∧
  (let t : Nat := 0; let p : Fin 4 := 0; let s : State := late; let b := s.enter t; let d := b.tods[p]
   let now := b.tod p b.now; let whole := (now / 1000000000000).floor.toNat
   b.timebase = true ∧ d.secDone < whole) ∧
  (let t : Nat := 0; let p : Fin 4 := 0; let s : State := powered; let b := s.enter t; let d := b.tods[p]
   let now := b.tod p b.now; let whole := (now / 1000000000000).floor.toNat
   (b.timebase = false ∨ whole ≤ d.secDone)) := by
  refine ⟨?_, ?_, ?_, ?_, ?_, ?_, ?_⟩ <;> dsimp only [State.answers, State.CanRun, State.Calm, State.RunsOn, State.breakAt] <;> decide +kernel

/-- Hypotheses of Stamps, clause by clause. -/
theorem test_hyps_Stamps :
  (let t : Nat := 0; let j : Fin 16 := 15; let w := 5
   let s : State := powered.setStamp 15 { StampState.init with waits := [5] }; let b := s.enter t; let x := b.stamps[j]
   (s.begin t).hif.spiHeld = [] ∧ w ∈ x.waits) ∧
  (let t : Nat := 0; let j : Fin 16 := 15; let i : Int := 5
   let s : State := powered |>.wr .STAMPj_CFG_SRC 15 32 |>.wr .OUTn_DELAY 0 5 |>.wr .STAMPj_CFG_EN 15 1; let b := s.enter t
   let src := b.rd .STAMPj_CFG_SRC j
   let instant := (src < 16 ∧ i = b.tdcTime src b.now - b.rdI .INn_DELAY src) ∨ (src = 16 ∧ i = b.tdcTime 16 b.now) ∨ (17 ≤ src ∧
     src ≤ 20 ∧ i = b.now) ∨ (32 ≤ src ∧ src ≤ 95 ∧ i = (b.now : Int) + b.rdI .OUTn_DELAY (src - 32))
   b.bit .STAMPj_CFG_EN j = true ∧ b.boot.held = false ∧ instant ∧ (b.now : Int) < i) ∧
  (let t : Nat := 0; let j : Fin 16 := 15; let i : Int := 0
   let s : State := powered |>.wr .STAMPj_CFG_SRC 15 20 |>.wr .STAMPj_CFG_DIV 15 2 |>.wr .STAMPj_CFG_EN 15 1
   let b := s.enter t; let x := b.stamps[j]; let src := b.rd .STAMPj_CFG_SRC j; let div := max 1 (b.rd .STAMPj_CFG_DIV j)
   let instant := (src < 16 ∧ i = b.tdcTime src b.now - b.rdI .INn_DELAY src) ∨ (src = 16 ∧ i = b.tdcTime 16 b.now) ∨ (17 ≤ src ∧
     src ≤ 20 ∧ i = b.now) ∨ (32 ≤ src ∧ src ≤ 95 ∧ i = (b.now : Int) + b.rdI .OUTn_DELAY (src - 32))
   b.bit .STAMPj_CFG_EN j = true ∧ b.boot.held = false ∧ instant ∧ i ≤ (b.now : Int) ∧ x.count + 1 < div) ∧
  (let t : Nat := 0; let j : Fin 16 := 15; let i : Int := 0
   let s : State := powered |>.wr .STAMPj_CFG_SRC 15 95 |>.wr .STAMPj_CFG_EN 15 1; let b := s.enter t; let x := b.stamps[j]
   let src := b.rd .STAMPj_CFG_SRC j; let div := max 1 (b.rd .STAMPj_CFG_DIV j)
   let instant := (src < 16 ∧ i = b.tdcTime src b.now - b.rdI .INn_DELAY src) ∨ (src = 16 ∧ i = b.tdcTime 16 b.now) ∨ (17 ≤ src ∧
     src ≤ 20 ∧ i = b.now) ∨ (32 ≤ src ∧ src ≤ 95 ∧ i = (b.now : Int) + b.rdI .OUTn_DELAY (src - 32))
   let full := x.fifo.length ≥ 64 ∨ ∃ l, x.last = some l ∧ i - l < 500000
   b.bit .STAMPj_CFG_EN j = true ∧ b.boot.held = false ∧ instant ∧ i ≤ (b.now : Int) ∧ div ≤ x.count + 1 ∧ (¬ full)) ∧
  (let t : Nat := 0; let j : Fin 16 := 15; let i : Int := 0
   let s : State := (powered |>.wr .STAMPj_CFG_SRC 15 32).setStamp 15 { StampState.init with last := some 0 } |>.wr .STAMPj_CFG_EN 15 1
   let b := s.enter t; let x := b.stamps[j]; let src := b.rd .STAMPj_CFG_SRC j; let div := max 1 (b.rd .STAMPj_CFG_DIV j)
   let instant := (src < 16 ∧ i = b.tdcTime src b.now - b.rdI .INn_DELAY src) ∨ (src = 16 ∧ i = b.tdcTime 16 b.now) ∨ (17 ≤ src ∧
     src ≤ 20 ∧ i = b.now) ∨ (32 ≤ src ∧ src ≤ 95 ∧ i = (b.now : Int) + b.rdI .OUTn_DELAY (src - 32))
   let full := x.fifo.length ≥ 64 ∨ ∃ l, x.last = some l ∧ i - l < 500000
   b.bit .STAMPj_CFG_EN j = true ∧ b.boot.held = false ∧ instant ∧ i ≤ (b.now : Int) ∧ div ≤ x.count + 1 ∧ full) ∧
  (let t : Nat := 0; let j : Fin 16 := 15; let s : State := powered; let b := s.enter t; let src := b.rd .STAMPj_CFG_SRC j
   (b.bit .STAMPj_CFG_EN j = false ∨ b.boot.held = true ∨ (20 < src ∧ src < 32) ∨ 95 < src)) ∧
  (let t : Nat := 0; let m : Master := .pcie; let j : Fin 16 := 15; let r : TimeRec := TimeRec.zero
   let rest : List TimeRec := []; let s : State := powered.setStamp 15 { StampState.init with fifo := [TimeRec.zero] }
   let b := s.enter t; let x := b.stamps[j]
   b.answers m .STAMPj_REC ∧ x.fifo = r :: rest) ∧
  (let t : Nat := 0; let m : Master := .pcie; let j : Fin 16 := 15; let s : State := powered; let b := s.enter t
   let x := b.stamps[j]
   b.answers m .STAMPj_REC ∧ x.fifo = []) ∧
  (let t : Nat := 0; let m : Master := .pcie; let j : Fin 16 := 15; let s : State := powered; let b := s.enter t
   let x := b.stamps[j]
   b.answers m .STAMPj_REC ∧ x.fifo.length ≤ 64) ∧
  (let t : Nat := 0; let m : Master := .pcie; let s : State := powered; let b := s.enter t
   b.answers m .STAMPj_REC) := by
  refine ⟨?_, ?_, ?_, ?_, ?_, ?_, ?_, ?_, ?_, ?_⟩ <;> dsimp only [State.answers, State.CanRun, State.Calm, State.RunsOn, State.breakAt] <;> decide +kernel

/-- Hypotheses of TimeReads, clause by clause. -/
theorem test_hyps_TimeReads :
  (let t : Nat := 0; let m : Master := .pcie; let s : State := powered; let b := s.enter t
   b.answers m .TODp_REC) := by
  dsimp only [State.answers, State.CanRun, State.Calm, State.RunsOn, State.breakAt]; decide +kernel

/-- Hypotheses of LinkFrames, clause by clause. -/
theorem test_hyps_LinkFrames :
  (let y : List Byte := List.replicate 68 255
   y.length = 68) ∧
  (let t : Nat := 0; let n : Fin 4 := 3; let s : State := powered.wr .LZn_STAT_STATE 3 1; let b := s.enter t
   let l := b.links[n]; let st := b.lz n; let us := (b.now - b.tick0) / 1000000
   b.timebase = true ∧ st ≠ 0 ∧ st ≠ 6 ∧ l.cal = none ∧ l.sentUs ≠ some us) ∧
  (let t : Nat := 0; let n : Fin 4 := 3; let s : State := powered |>.wr .LZn_STAT_STATE 3 6; let b := s.enter t
   let l := b.links[n]; let st := b.lz n; let us := (b.now - b.tick0) / 1000000
   b.timebase = true ∧ st = 6 ∧ l.sentUs ≠ some us) ∧
  (let t : Nat := 0; let n : Fin 4 := 3; let j : Nat := 0
   let s : State := powered.setLink 3 { LinkState.init with sentUs := some 0 } |>.wr .LZn_STAT_STATE 3 4; let b := s.enter t
   let l := b.links[n]; let st := b.lz n; let us := (b.now - b.tick0) / 1000000
   (b.timebase = false ∨ st = 0 ∨ l.sentUs = some j ∨ j ≠ us)) ∧
  (let t : Nat := 0; let n : Fin 4 := 3; let start : List Symbol := []; let rest : List Symbol := []
   let s : State := powered.wr .LZn_STAT_STATE 3 2; let b := s.enter t; let st := b.lz n; let heard := 2 ≤ st ∧ st ≤ 5
   let body := lzBytes (start ++ rest)
   let w := (List.range 16).map (fun i => BitVec.ofNat 32 (leAt (body.take 64) (4 * i) 4))
   let f := fun (i lo len : Nat) => (w.getD i 0).toNat / 2 ^ lo % 2 ^ len
   let good := body.length = 68 ∧ leAt body 64 4 = (crc32c (body.take 64)).toNat ∧ f 0 28 4 = 1
   heard ∧ (¬ good)) ∧
  (let t : Nat := 0; let n : Fin 4 := 3; let start : List Symbol := [lzStart, lzStart2]
   let rest : List Symbol := (checked ([0, 0, 0, 16] ++ List.replicate 60 0)).map Symbol.d ++ [lzEnd]
   let s : State := powered.wr .LZn_STAT_STATE 3 5; let b := s.enter t; let st := b.lz n; let heard := 2 ≤ st ∧ st ≤ 5
   let body := lzBytes (start ++ rest)
   let w := (List.range 16).map (fun i => BitVec.ofNat 32 (leAt (body.take 64) (4 * i) 4))
   let f := fun (i lo len : Nat) => (w.getD i 0).toNat / 2 ^ lo % 2 ^ len
   let good := body.length = 68 ∧ leAt body 64 4 = (crc32c (body.take 64)).toNat ∧ f 0 28 4 = 1
   heard ∧ good) ∧
  (let t : Nat := 0; let n : Fin 4 := 3; let start : List Symbol := [lzStart, lzStart2]
   let rest : List Symbol := (checked ([0, 0, 0, 16] ++ List.replicate 60 0)).map Symbol.d ++ [lzEnd]; let u2 : Nat := 7
   let u3 : Nat := 9
   let s : State := (powered.wr .LZn_STAT_STATE 3 4).setLink 3 { LinkState.init with arrivals := [(65535, 7)], departs := [(0, 9)] }
   let b := s.enter t; let l := b.links[n]; let st := b.lz n; let body := lzBytes (start ++ rest)
   let w := (List.range 16).map (fun i => BitVec.ofNat 32 (leAt (body.take 64) (4 * i) 4))
   let f := fun (i lo len : Nat) => (w.getD i 0).toNat / 2 ^ lo % 2 ^ len
   let good := body.length = 68 ∧ leAt body 64 4 = (crc32c (body.take 64)).toNat ∧ f 0 28 4 = 1
   let pairs := stampOf l.arrivals ((f 0 0 16 + 65535) % 65536) = some u2 ∧ stampOf l.departs (f 7 0 16) = some u3
   (st = 3 ∨ st = 4) ∧ good ∧ l.cal = none ∧ f 0 19 1 = 0 ∧ pairs) ∧
  (let t : Nat := 0; let n : Fin 4 := 3; let start : List Symbol := [lzStart, lzStart2]
   let rest : List Symbol := (checked ([0, 0, 0, 16] ++ List.replicate 60 0)).map Symbol.d ++ [lzEnd]; let u2 : Nat := 7
   let u3 : Nat := 9; let k : Nat := 3001999
   let s : State := (powered.wr .LZn_STAT_STATE 3 5).setLink 3 { LinkState.init with arrivals := [(65535, 7)], departs := [(0, 9)], cal := some 3002000 }
   let b := s.enter t; let l := b.links[n]; let st := b.lz n; let body := lzBytes (start ++ rest)
   let w := (List.range 16).map (fun i => BitVec.ofNat 32 (leAt (body.take 64) (4 * i) 4))
   let f := fun (i lo len : Nat) => (w.getD i 0).toNat / 2 ^ lo % 2 ^ len
   let good := body.length = 68 ∧ leAt body 64 4 = (crc32c (body.take 64)).toNat ∧ f 0 28 4 = 1
   let pairs := stampOf l.arrivals ((f 0 0 16 + 65535) % 65536) = some u2 ∧ stampOf l.departs (f 7 0 16) = some u3
   st = 5 ∧ good ∧ l.cal = some (k + 1) ∧ pairs) ∧
  (let t : Nat := 0; let n : Fin 4 := 3; let s : State := powered; let b := s.enter t; let st := b.lz n
   let heard := 2 ≤ st ∧ st ≤ 5
   (¬ heard)) := by
  refine ⟨?_, ?_, ?_, ?_, ?_, ?_, ?_, ?_, ?_⟩ <;> dsimp only [State.answers, State.CanRun, State.Calm, State.RunsOn, State.breakAt] <;> decide +kernel

/-- Hypotheses of LinkStates, clause by clause. -/
theorem test_hyps_LinkStates :
  (let t : Nat := 0; let n : Fin 4 := 0; let s : State := powered |>.wr .LZn_STAT_STATE 0 1; let b := s.enter t
   let st := b.lz n
   st = 1) ∧
  (let t : Nat := 0; let n : Fin 4 := 0; let m : Master := .pcie; let s : State := powered; let b := s.enter t
   let st := b.lz n
   st ≠ 1 ∧ b.answers m .LZn_CFG ∧ b.answers m .LZn_ERRCNT) ∧
  (let t : Nat := 0; let n : Fin 4 := 3
   let s : State := late.setLink 3 { LinkState.init with rtd := { LinkState.init.rtd with n := 1 } }; let b := s.enter t
   let l := b.links[n]
   l.rtdFrom + 1000000000 ≤ b.now ∧ l.rtd.n ≠ 0) ∧
  (let t : Nat := 0; let n : Fin 4 := 3; let s : State := late.wr .LZn_STAT_STATE 3 5; let b := s.enter t
   let l := b.links[n]; let st := b.lz n
   2 ≤ st ∧ st ≤ 5 ∧ l.validAt + 4000000 ≤ b.now) ∧
  (let t : Nat := 0; let n : Fin 4 := 3; let s : State := powered.setLink 3 { LinkState.init with validAt := 1 }
   let b := s.enter t; let l := b.links[n]
   b.now < l.validAt + 4000000) ∧
  (let t : Nat := 0; let n : Fin 4 := 3
   let s : State := late |>.wr .LZn_CFG_EN 3 1 |>.wr .LZn_CFG_ROLE 3 2 |>.wr .LZn_STAT_ACTIVE 3 0 |>.wr .LZn_ACT_TAKEOVER_EN 3 1 |>.wr .LZn_ACT_YIELD 3 0
   let b := s.enter t; let st := b.lz n; let on := b.bit .LZn_CFG_EN n
   on = true ∧ b.rd .LZn_CFG_ROLE n = 2 ∧ st ≠ 4 ∧ b.bit .LZn_STAT_ACTIVE n = false ∧ b.bit .LZn_ACT_TAKEOVER_EN n = true ∧
     b.bit .LZn_ACT_YIELD n = false ∧ b.lzPeerGone n = true) := by
  refine ⟨?_, ?_, ?_, ?_, ?_, ?_⟩ <;> dsimp only [State.answers, State.CanRun, State.Calm, State.RunsOn, State.breakAt] <;> decide +kernel

/-- Hypotheses of LinkPairSwap, clause by clause. -/
theorem test_hyps_LinkPairSwap :
  (let t : Nat := 0; let m : Master := .pcie; let n : Fin 4 := 3
   let s : State := (powered.wr .LZn_CFG_ROLE 3 1).setLink 3 { LinkState.init with peer := some ⟨0, false, false, false, 0, 0, 0, 0, 0, 0⟩ } |>.wr .LZn_STAT_STATE 3 4
   let b := s.enter t; let l := b.links[n]; let st := b.lz n; let role := b.rd .LZn_CFG_ROLE n
   let follower := role = 1 ∨ role = 3 ∨ (role = 2 ∧ b.bit .LZn_STAT_ACTIVE n = false)
   let free := ∃ q, l.peer = some q ∧ q.cal = false
   b.answers m .LZn_ACAL ∧ st = 4 ∧ free ∧ follower) ∧
  (let t : Nat := 0; let m : Master := .pcie; let n : Fin 4 := 3; let s : State := powered; let b := s.enter t
   let l := b.links[n]; let st := b.lz n; let role := b.rd .LZn_CFG_ROLE n
   let follower := role = 1 ∨ role = 3 ∨ (role = 2 ∧ b.bit .LZn_STAT_ACTIVE n = false)
   let free := ∃ q, l.peer = some q ∧ q.cal = false
   b.answers m .LZn_ACAL ∧ (st ≠ 4 ∨ ¬ free ∨ ¬ follower)) ∧
  (let t : Nat := 0; let n : Fin 4 := 3
   let s : State := powered.setLink 3 { LinkState.init with cal := some 0 } |>.wr .LZn_STAT_STATE 3 4; let b := s.enter t
   let l := b.links[n]; let st := b.lz n; let us := (b.now - b.tick0) / 1000000
   b.timebase = true ∧ l.sentUs ≠ some us ∧ st = 4 ∧ l.cal = some 0) ∧
  (let t : Nat := 0; let n : Fin 4 := 3; let k : Nat := 7
   let s : State := powered.setLink 3 { LinkState.init with cal := some 8 } |>.wr .LZn_STAT_STATE 3 5; let b := s.enter t
   let l := b.links[n]; let st := b.lz n; let us := (b.now - b.tick0) / 1000000
   b.timebase = true ∧ l.sentUs ≠ some us ∧ st = 5 ∧ l.cal = some (k + 1)) ∧
  (let t : Nat := 0; let n : Fin 4 := 3; let k : Nat := 3002001
   let s : State := powered.setLink 3 { LinkState.init with cal := some 3002001 } |>.wr .LZn_STAT_STATE 3 5
   let b := s.enter t; let l := b.links[n]; let st := b.lz n; let gate := max 10 (min 1000 (b.rd .LZn_ACAL_GATE n))
   st = 5 ∧ l.cal = some k ∧ 1000 * (3 * gate + 2) < k) := by
  refine ⟨?_, ?_, ?_, ?_, ?_⟩
  · dsimp only [State.answers]; exact ⟨by decide +kernel, by decide +kernel, ⟨⟨0, false, false, false, 0, 0, 0, 0, 0, 0⟩, by decide +kernel, rfl⟩, by decide +kernel⟩
  · dsimp only [State.answers]; exact ⟨by decide +kernel, Or.inl (by decide +kernel)⟩
  · dsimp only [State.answers, State.CanRun, State.Calm, State.RunsOn, State.breakAt]; decide +kernel
  · dsimp only [State.answers, State.CanRun, State.Calm, State.RunsOn, State.breakAt]; decide +kernel
  · dsimp only [State.answers, State.CanRun, State.Calm, State.RunsOn, State.breakAt]; decide +kernel

/-- Hypotheses of TokenRings, clause by clause. -/
theorem test_hyps_TokenRings :
  (let t : Nat := 0; let m : Master := .pcie; let s : State := powered; let b := s.enter t
   b.answers m .TOK_SQq_TAIL ∧ b.answers m .TOK_CTRL) ∧
  (let t : Nat := 0; let q : Fin 4 := 3; let d : Fetched := fetched [] []
   let s : State := linked.wr .TOK_SQq_TAIL 3 1 |>.wr .TOK_SQq_CFG_EN 3 1; let b := s.enter t
   b.bit .TOK_SQq_CFG_EN q = true ∧ b.dmaOpen = true ∧ 0 < b.sqCount q ∧ d.ok = true ∧ d.desc.length = 64 ∧ d.src.length = d.srcLen ∧
     (ofMode 0 d = true → d.pre.length = leAt d.desc 38 2)) ∧
  (let t : Nat := 0; let q : Fin 4 := 3; let d : Fetched := fetched [] []; let rest : List Fetched := []
   let tag : Fin 512 := 0; let v : Word := 0
   let s : State := (linked.setTok { linked.tok with fetched := (linked.tok.fetched.set 3 [fetched [] []]).set 2 [fetched [] []], credit := #v[0, 0, 0, 1] } |>.wr .TOK_CTRL 0 1 |>.wr .TOK_CQq_CFG_EN 0 1 |>.wr .TOK_CQq_CFG_SIZE 0 7)
   let b := s.enter t; let k := b.tok; let cq := fun (q : Fin 4) => (Fin.ofNat 4 (b.rd .TOK_SQq_CFG_CQ q) : Fin 4)
   let slots := fun (d : Fetched) => if (b.earlyStatus d).isSome then [] else b.jobSlots d
   let ready := fun (q : Fin 4) (d : Fetched) (rest : List Fetched) => k.fetched[q] = d :: rest ∧ b.tokStop = 0 ∧ b.dmaOpen = true ∧
     (∀ x ∈ k.jobs, x.tag ≠ tag.val) ∧ b.cqFree (cq q) ≠ 0 ∧ (d.flags.testBit 0 = true → ∀ x ∈ k.jobs, x.sq ≠ q)
   let room := fun (d : Fetched) => k.cache.length + (slots d).length ≤ 16
   ready q d rest ∧ room d ∧ k.credit[q] ≠ 0) ∧
  (let t : Nat := 0; let q : Fin 4 := 3; let d : Fetched := fetched [] []; let rest : List Fetched := []
   let tag : Fin 512 := 0
   let s : State := (linked.setTok { linked.tok with fetched := (linked.tok.fetched.set 3 [fetched [] []]).set 2 [fetched [] []] } |>.wr .TOK_CTRL 0 1 |>.wr .TOK_CQq_CFG_EN 0 1 |>.wr .TOK_CQq_CFG_SIZE 0 7)
   let b := s.enter t; let k := b.tok; let cq := fun (q : Fin 4) => (Fin.ofNat 4 (b.rd .TOK_SQq_CFG_CQ q) : Fin 4)
   let slots := fun (d : Fetched) => if (b.earlyStatus d).isSome then [] else b.jobSlots d
   let ready := fun (q : Fin 4) (d : Fetched) (rest : List Fetched) => k.fetched[q] = d :: rest ∧ b.tokStop = 0 ∧ b.dmaOpen = true ∧
     (∀ x ∈ k.jobs, x.tag ≠ tag.val) ∧ b.cqFree (cq q) ≠ 0 ∧ (d.flags.testBit 0 = true → ∀ x ∈ k.jobs, x.sq ≠ q)
   let room := fun (d : Fetched) => k.cache.length + (slots d).length ≤ 16
   ready q d rest ∧ room d ∧ (∀ x : Fin 4, k.credit[x] = 0)) ∧
  (let t : Nat := 0; let q : Fin 4 := 3; let p : Fin 4 := 2; let d : Fetched := fetched [] []
   let e : Fetched := fetched [] []; let rest : List Fetched := []; let tl : List Fetched := []; let tag : Fin 512 := 0
   let v : Word := 0
   let s : State := (linked.setTok { linked.tok with fetched := (linked.tok.fetched.set 3 [fetched [] []]).set 2 [fetched [] []], credit := #v[0, 0, 1, 0] } |>.wr .TOK_CTRL 0 1 |>.wr .TOK_CQq_CFG_EN 0 1 |>.wr .TOK_CQq_CFG_SIZE 0 7)
   let b := s.enter t; let k := b.tok; let cq := fun (q : Fin 4) => (Fin.ofNat 4 (b.rd .TOK_SQq_CFG_CQ q) : Fin 4)
   let slots := fun (d : Fetched) => if (b.earlyStatus d).isSome then [] else b.jobSlots d
   let ready := fun (q : Fin 4) (d : Fetched) (rest : List Fetched) => k.fetched[q] = d :: rest ∧ b.tokStop = 0 ∧ b.dmaOpen = true ∧
     (∀ x ∈ k.jobs, x.tag ≠ tag.val) ∧ b.cqFree (cq q) ≠ 0 ∧ (d.flags.testBit 0 = true → ∀ x ∈ k.jobs, x.sq ≠ q)
   let room := fun (d : Fetched) => k.cache.length + (slots d).length ≤ 16
   ready q d rest ∧ room d ∧ k.credit[q] = 0 ∧ ready p e tl ∧ room e ∧ k.credit[p] ≠ 0) ∧
  (let t : Nat := 0; let q : Fin 4 := 3; let d : Fetched := sealing; let e : Fetched := fetched [] []
   let rest : List Fetched := []; let tag : Fin 512 := 0
   let s : State := (linked.setTok { linked.tok with fetched := (linked.tok.fetched.set 3 [sealing]).set 2 [sealing], cache := pinnedCache, jobs := [pinning] } |>.wr .TOK_CTRL 0 1 |>.wr .TOK_CQq_CFG_EN 0 1 |>.wr .TOK_CQq_CFG_SIZE 0 7) |>.wr .GRN_SLOTn_META_USAGE 63 3
   let b := s.enter t; let k := b.tok; let cq := fun (q : Fin 4) => (Fin.ofNat 4 (b.rd .TOK_SQq_CFG_CQ q) : Fin 4)
   let slots := fun (d : Fetched) => if (b.earlyStatus d).isSome then [] else b.jobSlots d
   let held := fun (u : State) (x : Nat) => u.tok.cache.any (fun e => e.slot == x && e.epoch == b.rd .GRN_SLOTn_EPOCH x) = true
   let ready := fun (q : Fin 4) (d : Fetched) (rest : List Fetched) => k.fetched[q] = d :: rest ∧ b.tokStop = 0 ∧ b.dmaOpen = true ∧
     (∀ x ∈ k.jobs, x.tag ≠ tag.val) ∧ b.cqFree (cq q) ≠ 0 ∧ (d.flags.testBit 0 = true → ∀ x ∈ k.jobs, x.sq ≠ q)
   ready q d rest ∧ (∃ x ∈ slots d, ¬ held b x) ∧ k.cache.length = 16 ∧ (∀ e ∈ k.cache, b.pinned e = true) ∧ k.waiting[q] = false) ∧
  (let t : Nat := 0; let tag : Fin 512 := 511; let j : Job := jobOf (fetched [] [])
   let s : State := jobbed (jobOf (fetched [] [])); let b := s.enter t
   b.job tag = some j) ∧
  (let t : Nat := 0; let m : Master := .pcie; let q : Fin 4 := 3; let v : Word := 2
   let s : State := powered.wr .TOK_CQq_TAIL_TAIL 3 2 |>.wr .TOK_CQq_CFG_SIZE 3 7; let b := s.enter t; let n := b.cqSize q
   let dist := fun (x : Nat) => (x + n - b.rd .TOK_CQq_HEAD q % n) % n
   b.answers m .TOK_CTRL ∧ v.toNat % 65536 < n ∧ dist (v.toNat % 65536) ≤ dist (b.rd .TOK_CQq_TAIL_TAIL q)) ∧
  (let t : Nat := 0; let m : Master := .pcie; let q : Fin 4 := 3; let v : Word := 3
   let s : State := powered.wr .TOK_CQq_TAIL_TAIL 3 2 |>.wr .TOK_CQq_CFG_SIZE 3 7; let b := s.enter t; let n := b.cqSize q
   let dist := fun (x : Nat) => (x + n - b.rd .TOK_CQq_HEAD q % n) % n
   b.answers m .TOK_CTRL ∧ (n ≤ v.toNat % 65536 ∨ dist (b.rd .TOK_CQq_TAIL_TAIL q) < dist (v.toNat % 65536))) := by
  refine ⟨?_, ?_, ?_, ?_, ?_, ?_, ?_, ?_, ?_⟩ <;> dsimp only [State.answers, State.CanRun, State.Calm, State.RunsOn, State.breakAt] <;> decide +kernel

/-- Hypotheses of TokenCompletions, clause by clause. -/
theorem test_hyps_TokenCompletions :
  (let t : Nat := 0; let tag : Fin 512 := 511; let j : Job := { jobOf (fetched [] []) with result := some ⟨0, [], 0, 0, 0⟩ }
   let r : JobResult := ⟨0, [], 0, 0, 0⟩
   let s : State := linked.setTok { linked.tok with jobs := [{ jobOf (fetched [] []) with result := some ⟨0, [], 0, 0, 0⟩ }] } |>.wr .TOK_CQq_CFG_EN 0 1
   let b := s.enter t
   let may := b.job tag = some j ∧ j.result = some r ∧ b.dmaOpen = true ∧ b.bit .TOK_CQq_CFG_EN j.cq = true ∧ (r.status = 0 → j.stamp ≠ none)
   may) ∧
  (let t : Nat := 0; let tag : Fin 512 := 511; let j : Job := { jobOf (fetched [] []) with result := some ⟨0, [], 0, 0, 0⟩ }
   let r : JobResult := ⟨0, [], 0, 0, 0⟩
   let s : State := linked.setTok { linked.tok with jobs := [{ jobOf (fetched [] []) with result := some ⟨0, [], 0, 0, 0⟩ }] } |>.wr .TOK_CQq_CFG_EN 0 0
   let b := s.enter t
   b.job tag = some j ∧ j.result = some r ∧ (r.status = 0 → j.stamp ≠ none) ∧ b.bit .TOK_CQq_CFG_EN j.cq = false) ∧
  (let t : Nat := 0; let tag : Fin 512 := 511; let j : Job := jobOf (fetched [] []); let q : Fin 4 := 0
   let s : State := linked.setTok { linked.tok with jobs := [jobOf (fetched [] [])] }; let b := s.enter t; let k := b.tok
   let x := k.cqs[q]
   b.job tag = some j ∧ (j.result = none ∨ ∃ x, j.result = some x ∧ x.status = 0 ∧ j.stamp = none)) ∧
  (let t : Nat := 0; let q : Fin 4 := 3
   let s : State := late.setTok { late.tok with cqs := Vector.replicate 4 ⟨1, 0⟩ } |>.wr .TOK_CQq_CFG_IRQ_EN 3 1 |>.wr .TOK_CQq_IRQ_TIME 3 1
   let b := s.enter t; let k := b.tok; let x := k.cqs[q]
   b.bit .TOK_CQq_CFG_IRQ_EN q = true ∧ b.rd .TOK_CQq_IRQ_TIME q ≠ 0 ∧ 0 < x.unsignalled ∧ x.firstAt + b.rd .TOK_CQq_IRQ_TIME q * 1000000 ≤ b.now) ∧
  (let t : Nat := 0; let q : Fin 4 := 3; let s : State := powered; let b := s.enter t; let k := b.tok; let x := k.cqs[q]
   (b.bit .TOK_CQq_CFG_IRQ_EN q = false ∨ b.rd .TOK_CQq_IRQ_TIME q = 0 ∨ x.unsignalled = 0)) ∧
  (let t : Nat := 0; let from_ : Nat := 0
   let s : State := late.setTok { late.tok with upFrom := some 0 } |>.wr .TOK_DVFS_CUR 0 2 |>.wr .TOK_DVFS_MODE 0 1
   let b := s.enter t; let k := b.tok
   b.rd .TOK_DVFS_MODE = 1 ∧ k.step = none ∧ k.upFrom = some from_ ∧ from_ + 100000000 ≤ b.now ∧ b.rd .TOK_DVFS_CUR < 3) ∧
  (let t : Nat := 0; let from_ : Nat := 0
   let s : State := late.setTok { late.tok with downFrom := some 0 } |>.wr .TOK_DVFS_CUR 0 1 |>.wr .TOK_DVFS_MODE 0 1
   let b := s.enter t; let k := b.tok
   b.rd .TOK_DVFS_MODE = 1 ∧ k.step = none ∧ k.downFrom = some from_ ∧ from_ + 10000000000 ≤ b.now ∧ 0 < b.rd .TOK_DVFS_CUR) ∧
  (let t : Nat := 0; let s : State := powered |>.wr .TOK_DVFS_MODE 0 0; let b := s.enter t
   b.rd .TOK_DVFS_MODE = 0) := by
  refine ⟨?_, ?_, ?_, ?_, ?_, ?_, ?_, ?_⟩
  · dsimp only [State.answers, State.CanRun, State.Calm, State.RunsOn, State.breakAt]; decide +kernel
  · dsimp only [State.answers, State.CanRun, State.Calm, State.RunsOn, State.breakAt]; decide +kernel
  · dsimp only; exact ⟨by decide +kernel, Or.inl (by decide +kernel)⟩
  · dsimp only [State.answers, State.CanRun, State.Calm, State.RunsOn, State.breakAt]; decide +kernel
  · dsimp only [State.answers, State.CanRun, State.Calm, State.RunsOn, State.breakAt]; decide +kernel
  · dsimp only [State.answers, State.CanRun, State.Calm, State.RunsOn, State.breakAt]; decide +kernel
  · dsimp only [State.answers, State.CanRun, State.Calm, State.RunsOn, State.breakAt]; decide +kernel
  · dsimp only [State.answers, State.CanRun, State.Calm, State.RunsOn, State.breakAt]; decide +kernel

/-- Hypotheses of TokenJobs, clause by clause. -/
theorem test_hyps_TokenJobs :
  (let t : Nat := 0; let tag : Fin 512 := 511; let j : Job := jobOf (fetched [1, 0, 0, 0, 0, 0, 0, 0] ([]))
   let c := Instr.ntsRespond 0 511 true; let f := ofMode 0
   let s : State := jobbed (jobOf (fetched [1, 0, 0, 0, 0, 0, 0, 0] ([]))); let b := s.enter t; let d := j.inp
   b.job tag = some j ∧ j.result = none ∧
     (c, f) ∈ [(Instr.nop t tag true, ofType 0), (.stamp t tag true, ofType 5), (.gcmSeal t tag true, ofType 3), (.gcmOpen t tag true, ofType 4), (.ptpAuth t tag true, ofType 2), (.ntsRespond t tag true, ofMode 0), (.ntsKe t tag true, ofMode 1)] ∧ f d = true) ∧
  (let t : Nat := 0; let tag : Fin 512 := 511; let j : Job := jobOf (fetched [] ([]))
   let r : TimeRec × Int := (TimeRec.zero, 0); let s : State := jobbed (jobOf (fetched [] ([]))); let b := s.enter t
   let d := j.inp
   b.job tag = some j ∧ j.result = none ∧ d.type = 0 ∧ j.stamp = some r) ∧
  (let t : Nat := 0; let tag : Fin 512 := 511; let j : Job := jobOf (fetched [5] ([]))
   let s : State := jobbed (jobOf (fetched [5] ([]))); let b := s.enter t; let d := j.inp
   b.job tag = some j ∧ j.result = none ∧ d.type ≠ 0) ∧
  (let t : Nat := 0; let tag : Fin 512 := 511; let j : Job := jobOf (fetched [5] ([]))
   let r : TimeRec × Int := (TimeRec.zero, 0); let s : State := jobbed (jobOf (fetched [5] ([]))); let b := s.enter t
   let d := j.inp
   b.job tag = some j ∧ j.result = none ∧ d.type = 5 ∧ j.stamp = some r) ∧
  (let t : Nat := 0; let tag : Fin 512 := 511; let j : Job := jobOf (fetched [3] ([]))
   let r : TimeRec × Int := (TimeRec.zero, 0); let k : CacheEntry := key0; let s : State := jobbed (jobOf (fetched [3] ([])))
   let b := s.enter t; let d := j.inp
   b.job tag = some j ∧ j.result = none ∧ b.jobKey j d.kslot = some k ∧ d.type = 3 ∧ j.stamp = some r) ∧
  (let t : Nat := 0; let tag : Fin 512 := 511; let j : Job := jobOf (fetched [4] ([])); let k : CacheEntry := key0
   let s : State := jobbed (jobOf (fetched [4] ([]))); let b := s.enter t; let d := j.inp
   b.job tag = some j ∧ j.result = none ∧ b.jobKey j d.kslot = some k ∧ d.type = 4) ∧
  (let t : Nat := 0; let tag : Fin 512 := 511; let j : Job := jobOf (fetched ([2] ++ List.replicate 33 0 ++ [4]) ([]))
   let r : TimeRec × Int := (TimeRec.zero, 0); let k : CacheEntry := key0
   let s : State := jobbed (jobOf (fetched ([2] ++ List.replicate 33 0 ++ [4]) ([]))); let b := s.enter t; let d := j.inp
   let opts := leAt d.desc 34 1
   b.job tag = some j ∧ j.result = none ∧ b.jobKey j d.kslot = some k ∧ d.type = 2 ∧ j.stamp = some r ∧ opts.testBit 2 = true) ∧
  (let t : Nat := 0; let tag : Fin 512 := 511; let j : Job := jobOf (fetched [2] ([]))
   let r : TimeRec × Int := (TimeRec.zero, 0); let k : CacheEntry := key0; let s : State := jobbed (jobOf (fetched [2] ([])))
   let b := s.enter t; let d := j.inp; let opts := leAt d.desc 34 1
   b.job tag = some j ∧ j.result = none ∧ b.jobKey j d.kslot = some k ∧ d.type = 2 ∧ j.stamp = some r ∧ opts.testBit 2 = false) ∧
  (let t : Nat := 0; let tag : Fin 512 := 511; let j : Job := jobOf (fetched [1] ([])); let st : Nat := tkNtsParse
   let s : State := jobbed (jobOf (fetched [1] ([]))); let b := s.enter t; let d := j.inp
   b.job tag = some j ∧ j.result = none ∧ ofMode 0 d = true ∧ j.work = none ∧ b.openRequest j = .inl st) ∧
  (let t : Nat := 0; let tag : Fin 512 := 511; let j : Job := jobOf (fetched ([1] ++ List.replicate 35 0 ++ [108]) (request))
   let k : CacheEntry := key0; let keys : List Byte := List.replicate 64 0
   let s : State := jobbed (jobOf (fetched ([1] ++ List.replicate 35 0 ++ [108]) (request))); let b := s.enter t
   let d := j.inp
   b.job tag = some j ∧ j.result = none ∧ ofMode 0 d = true ∧ b.sealKey j = some k ∧ j.work = none ∧ b.openRequest j = .inr keys) ∧
  (let t : Nat := 0; let tag : Fin 512 := 511; let j : Job := { jobOf (fetched [1] ([])) with work := some ([], []) }
   let r : TimeRec × Int := (TimeRec.zero, 0); let k : CacheEntry := key0; let keys : List Byte := []
   let cookies : List (List Byte) := []; let s : State := jobbed ({ jobOf (fetched [1] ([])) with work := some ([], []) })
   let b := s.enter t; let d := j.inp
   b.job tag = some j ∧ j.result = none ∧ ofMode 0 d = true ∧ b.sealKey j = some k ∧ j.work = some (keys, cookies) ∧ j.stamp = some r) ∧
  (let t : Nat := 0; let tag : Fin 512 := 511
   let j : Job := { jobOf (fetched [1] ([])) with work := some ([], []), stamp := none }; let k : CacheEntry := key0
   let keys : List Byte := []; let cookies : List (List Byte) := []
   let s : State := jobbed ({ jobOf (fetched [1] ([])) with work := some ([], []), stamp := none }); let b := s.enter t
   let d := j.inp
   b.job tag = some j ∧ j.result = none ∧ ofMode 0 d = true ∧ b.sealKey j = some k ∧ j.work = some (keys, cookies) ∧ j.stamp = none) ∧
  (let t : Nat := 0; let tag : Fin 512 := 511
   let j : Job := jobOf (fetched ([1] ++ List.replicate 31 0 ++ [1]) ([0, 15] ++ List.replicate 63 0))
   let k : CacheEntry := key0
   let s : State := jobbed (jobOf (fetched ([1] ++ List.replicate 31 0 ++ [1]) ([0, 15] ++ List.replicate 63 0)))
   let b := s.enter t; let d := j.inp
   b.job tag = some j ∧ j.result = none ∧ ofMode 1 d = true ∧ b.sealKey j = some k ∧ d.src.length ≠ 66) ∧
  (let t : Nat := 0; let tag : Fin 512 := 511
   let j : Job := jobOf (fetched ([1] ++ List.replicate 31 0 ++ [1]) (List.replicate 66 0)); let k : CacheEntry := key0
   let s : State := jobbed (jobOf (fetched ([1] ++ List.replicate 31 0 ++ [1]) (List.replicate 66 0))); let b := s.enter t
   let d := j.inp
   b.job tag = some j ∧ j.result = none ∧ ofMode 1 d = true ∧ b.sealKey j = some k ∧ d.src.length = 66 ∧ beAt d.src 0 2 ≠ 15) ∧
  (let t : Nat := 0; let tag : Fin 512 := 511
   let j : Job := jobOf (fetched ([1] ++ List.replicate 31 0 ++ [1]) ([0, 15] ++ List.replicate 64 0))
   let k : CacheEntry := key0
   let s : State := jobbed (jobOf (fetched ([1] ++ List.replicate 31 0 ++ [1]) ([0, 15] ++ List.replicate 64 0)))
   let b := s.enter t; let d := j.inp
   b.job tag = some j ∧ j.result = none ∧ ofMode 1 d = true ∧ b.sealKey j = some k ∧ d.src.length = 66 ∧ beAt d.src 0 2 = 15) := by
  refine ⟨?_, ?_, ?_, ?_, ?_, ?_, ?_, ?_, ?_, ?_, ?_, ?_, ?_, ?_, ?_⟩
  · refine ⟨?_, ?_, by simp, ?_⟩ <;> decide +kernel
  · dsimp only [State.answers, State.CanRun, State.Calm, State.RunsOn, State.breakAt]; decide +kernel
  · dsimp only [State.answers, State.CanRun, State.Calm, State.RunsOn, State.breakAt]; decide +kernel
  · dsimp only [State.answers, State.CanRun, State.Calm, State.RunsOn, State.breakAt]; decide +kernel
  · dsimp only [State.answers, State.CanRun, State.Calm, State.RunsOn, State.breakAt]; decide +kernel
  · dsimp only [State.answers, State.CanRun, State.Calm, State.RunsOn, State.breakAt]; decide +kernel
  · dsimp only [State.answers, State.CanRun, State.Calm, State.RunsOn, State.breakAt]; decide +kernel
  · dsimp only [State.answers, State.CanRun, State.Calm, State.RunsOn, State.breakAt]; decide +kernel
  · dsimp only [State.answers, State.CanRun, State.Calm, State.RunsOn, State.breakAt]; decide +kernel
  · dsimp only [State.answers, State.CanRun, State.Calm, State.RunsOn, State.breakAt]; decide +kernel
  · dsimp only [State.answers, State.CanRun, State.Calm, State.RunsOn, State.breakAt]; decide +kernel
  · dsimp only [State.answers, State.CanRun, State.Calm, State.RunsOn, State.breakAt]; decide +kernel
  · dsimp only [State.answers, State.CanRun, State.Calm, State.RunsOn, State.breakAt]; decide +kernel
  · dsimp only [State.answers, State.CanRun, State.Calm, State.RunsOn, State.breakAt]; decide +kernel
  · dsimp only [State.answers, State.CanRun, State.Calm, State.RunsOn, State.breakAt]; decide +kernel

/-- Hypotheses of SealedOpens, clause by clause. -/
theorem test_hyps_SealedOpens :
  (let key : List Byte := List.replicate 32 0
   key.length = 32) := by
  dsimp only [State.answers, State.CanRun, State.Calm, State.RunsOn, State.breakAt]; decide +kernel

/-- Hypotheses of GranaryZeroise, clause by clause. -/
theorem test_hyps_GranaryZeroise :
  (let t : Nat := 0; let m : Master := .pcie; let confirm : Byte := 0x5A; let s : State := powered; let b := s.enter t
   let may := m = .pcie ∨ m = .spi ∨ m = .keeper
   b.answers m .GRN_CTRL ∧ may ∧ confirm = 0x5A) ∧
  (let t : Nat := 0; let m : Master := .ye 3; let confirm : Byte := 0x5A; let s : State := powered; let b := s.enter t
   let may := m = .pcie ∨ m = .spi ∨ m = .keeper
   b.answers m .GRN_CTRL ∧ (¬ may ∨ confirm ≠ 0x5A)) ∧
  (let t : Nat := 0; let m : Master := .keeper; let confirm : Byte := 0x5A; let steps : Fin 6 := 4
   let s : State := powered |>.wr .GRN_STAT_KEYLESS 0 1 |>.wr .GRN_STAT_ENTROPY_OK 0 1 |>.wr .GRN_VGEN 0 254
   let b := s.enter t; let may := m = .pcie ∨ m = .spi ∨ m = .keeper
   let full := b.bit .GRN_STAT_KEYLESS = true ∧ b.rd .GRN_VGEN < 255 ∧ b.bit .GRN_STAT_ENTROPY_OK = true ∧ b.grn.entropyBad = false ∧
     b.boot.otpBad = false
   b.answers m .GRN_CTRL ∧ may ∧ confirm = 0x5A ∧ full ∧ steps ≠ 5) ∧
  (let t : Nat := 0; let m : Master := .spi; let confirm : Byte := 0x5A; let s : State := powered |>.wr .GRN_VGEN 0 255
   let b := s.enter t; let may := m = .pcie ∨ m = .spi ∨ m = .keeper
   let full := b.bit .GRN_STAT_KEYLESS = true ∧ b.rd .GRN_VGEN < 255 ∧ b.bit .GRN_STAT_ENTROPY_OK = true ∧ b.grn.entropyBad = false ∧
     b.boot.otpBad = false
   b.answers m .GRN_CTRL ∧ may ∧ confirm = 0x5A ∧ (¬ full)) ∧
  (let t : Nat := 0; let m : Master := .ye 3; let confirm : Byte := 0x5A; let s : State := powered; let b := s.enter t
   let may := m = .pcie ∨ m = .spi ∨ m = .keeper
   b.answers m .GRN_CTRL ∧ (¬ may ∨ confirm ≠ 0x5A)) ∧
  (let t : Nat := 0; let sensor : Fin 9 := 5; let x : Int := 125001; let s : State := powered.wr .GRN_TAMP_CFG_EN 0 0x20
   let b := s.enter t; let on := sensor.val < 7 → b.bitOf .GRN_TAMP_CFG_EN 0 sensor = true
   let level := fun (k : Fin 4) => if b.bitOf .GRN_TAMP_CFG_ACTIVE 0 k then b.grn.tampOut[k] else b.bitOf .GRN_TAMP_CFG_LEVEL 0 k
   let fires := fun (n : Fin 9) (x : Int) => (∀ k : Fin 4, k.val = n.val → (x ≠ 0 ↔ level k = false)) ∧ (n = 4 → x < 1800 ∨ 3900 < x) ∧
     (n = 5 → x < -55000 ∨ 125000 < x) ∧ (n = 6 → x < 31129600 ∨ 34406400 < x) ∧ (n = 7 → x < -300 ∨ 300 < x) ∧ (n = 8 → x ≠ 0)
   b.boot.supplies = true ∧ sensor ≠ 4 ∧ on ∧ fires sensor x) ∧
  (let t : Nat := 0; let sensor : Fin 9 := 4; let x : Int := 0; let s : State := powered.wr .GRN_TAMP_CFG_EN 0 0x7F
   let b := s.enter t; let on := sensor.val < 7 → b.bitOf .GRN_TAMP_CFG_EN 0 sensor = true
   let level := fun (k : Fin 4) => if b.bitOf .GRN_TAMP_CFG_ACTIVE 0 k then b.grn.tampOut[k] else b.bitOf .GRN_TAMP_CFG_LEVEL 0 k
   let fires := fun (n : Fin 9) (x : Int) => (∀ k : Fin 4, k.val = n.val → (x ≠ 0 ↔ level k = false)) ∧ (n = 4 → x < 1800 ∨ 3900 < x) ∧
     (n = 5 → x < -55000 ∨ 125000 < x) ∧ (n = 6 → x < 31129600 ∨ 34406400 < x) ∧ (n = 7 → x < -300 ∨ 300 < x) ∧ (n = 8 → x ≠ 0)
   b.boot.supplies = true ∧ (sensor = 4 ∨ ¬ on ∨ ¬ fires sensor x)) ∧
  (let t : Nat := 0; let s : State := powered.wr .GRN_TAMP_CFG_EN 0 0x7F; let b := s.enter t
   b.boot.supplies = true) ∧
  (let t : Nat := 0; let sensor : Fin 9 := 8; let x : Int := 1
   let s : State := { powered with boot := { BootState.init with keep := true } }; let b := s.enter t
   let level := fun (k : Fin 4) => if b.bitOf .GRN_TAMP_CFG_ACTIVE 0 k then b.grn.tampOut[k] else b.bitOf .GRN_TAMP_CFG_LEVEL 0 k
   let fires := fun (n : Fin 9) (x : Int) => (∀ k : Fin 4, k.val = n.val → (x ≠ 0 ↔ level k = false)) ∧ (n = 4 → x < 1800 ∨ 3900 < x) ∧
     (n = 5 → x < -55000 ∨ 125000 < x) ∧ (n = 6 → x < 31129600 ∨ 34406400 < x) ∧ (n = 7 → x < -300 ∨ 300 < x) ∧ (n = 8 → x ≠ 0)
   b.boot.supplies = false ∧ b.boot.keep = true ∧ 7 ≤ sensor.val ∧ fires sensor x) ∧
  (let t : Nat := 0; let sensor : Fin 9 := 8; let x : Int := 0
   let s : State := { powered with boot := { BootState.init with keep := true } }; let b := s.enter t
   let level := fun (k : Fin 4) => if b.bitOf .GRN_TAMP_CFG_ACTIVE 0 k then b.grn.tampOut[k] else b.bitOf .GRN_TAMP_CFG_LEVEL 0 k
   let fires := fun (n : Fin 9) (x : Int) => (∀ k : Fin 4, k.val = n.val → (x ≠ 0 ↔ level k = false)) ∧ (n = 4 → x < 1800 ∨ 3900 < x) ∧
     (n = 5 → x < -55000 ∨ 125000 < x) ∧ (n = 6 → x < 31129600 ∨ 34406400 < x) ∧ (n = 7 → x < -300 ∨ 300 < x) ∧ (n = 8 → x ≠ 0)
   b.boot.supplies = false ∧ b.boot.keep = true ∧ (sensor.val < 7 ∨ ¬ fires sensor x)) ∧
  (let t : Nat := 0; let x : Int := 0; let l : Vector Int 7 := Vector.replicate 7 0
   let s : State := ({ powered with boot := { BootState.init with keep := true } } : State).wr .GRN_TAMP_CFG_EN 0 0x40
   let b := s.enter t
   let level := fun (k : Fin 4) => if b.bitOf .GRN_TAMP_CFG_ACTIVE 0 k then b.grn.tampOut[k] else b.bitOf .GRN_TAMP_CFG_LEVEL 0 k
   let fires := fun (n : Fin 9) (x : Int) => (∀ k : Fin 4, k.val = n.val → (x ≠ 0 ↔ level k = false)) ∧ (n = 4 → x < 1800 ∨ 3900 < x) ∧
     (n = 5 → x < -55000 ∨ 125000 < x) ∧ (n = 6 → x < 31129600 ∨ 34406400 < x) ∧ (n = 7 → x < -300 ∨ 300 < x) ∧ (n = 8 → x ≠ 0)
   let hits := fun (n : Fin 7) => b.bitOf .GRN_TAMP_CFG_EN 0 n = true ∧ fires ⟨n.val, by omega⟩ l[n]
   b.boot.supplies = false ∧ b.boot.keep = true ∧ (∃ n, hits n)) ∧
  (let t : Nat := 0; let x : Int := 0; let l : Vector Int 7 := Vector.replicate 7 0
   let s : State := ({ powered with boot := { BootState.init with keep := true } } : State).wr .GRN_TAMP_CFG_EN 0 0
   let b := s.enter t
   let level := fun (k : Fin 4) => if b.bitOf .GRN_TAMP_CFG_ACTIVE 0 k then b.grn.tampOut[k] else b.bitOf .GRN_TAMP_CFG_LEVEL 0 k
   let fires := fun (n : Fin 9) (x : Int) => (∀ k : Fin 4, k.val = n.val → (x ≠ 0 ↔ level k = false)) ∧ (n = 4 → x < 1800 ∨ 3900 < x) ∧
     (n = 5 → x < -55000 ∨ 125000 < x) ∧ (n = 6 → x < 31129600 ∨ 34406400 < x) ∧ (n = 7 → x < -300 ∨ 300 < x) ∧ (n = 8 → x ≠ 0)
   let hits := fun (n : Fin 7) => b.bitOf .GRN_TAMP_CFG_EN 0 n = true ∧ fires ⟨n.val, by omega⟩ l[n]
   b.boot.supplies = false ∧ b.boot.keep = true ∧ (∀ n, ¬ hits n)) ∧
  (let t : Nat := 0; let s : State := { powered with boot := { BootState.init with keep := false } }; let b := s.enter t
   b.boot.keep = false) ∧
  (let t : Nat := 0; let s : State := { powered with boot := { BootState.init with keep := true } }; let b := s.enter t
   b.boot.supplies = false) ∧
  (let t : Nat := 0; let s : State := powered; let b := s.enter t
   b.boot.supplies = true) := by
  refine ⟨?_, ?_, ?_, ?_, ?_, ?_, ?_, ?_, ?_, ?_, ?_, ?_, ?_, ?_, ?_⟩ <;> dsimp only [State.answers, State.CanRun, State.Calm, State.RunsOn, State.breakAt] <;> decide +kernel

set_option maxRecDepth 8000 in
/-- Hypotheses of Capsules, clause by clause. -/
theorem test_hyps_Capsules :
  (let t : Nat := 0; let m : Master := .keeper; let s : State := powered.wr .GRN_CAP_STAT_RESULT 0 3; let b := s.enter t
   let may := m = .pcie ∨ m = .spi ∨ m = .keeper; let res := b.rd .GRN_CAP_STAT_RESULT
   b.answers m .GRN_CAP_CTRL ∧ may ∧ res ≠ 1) ∧
  (let t : Nat := 0; let m : Master := .pcie; let s : State := powered |>.wr .GRN_CAP_STAT_RESULT 0 1; let b := s.enter t
   let may := m = .pcie ∨ m = .spi ∨ m = .keeper; let res := b.rd .GRN_CAP_STAT_RESULT
   b.answers m .GRN_CAP_CTRL ∧ may ∧ res = 1) ∧
  (let t : Nat := 0; let m : Master := .ye 3; let s : State := powered; let b := s.enter t
   let may := m = .pcie ∨ m = .spi ∨ m = .keeper
   b.answers m .GRN_CAP_CTRL ∧ (¬ may)) ∧
  (let t : Nat := 0; let m : Master := .spi; let s : State := powered.wr .GRN_CAP_STAT_RESULT 0 2; let b := s.enter t
   let res := b.rd .GRN_CAP_STAT_RESULT
   b.answers m .GRN_CAP_CTRL ∧ (m ≠ .keeper ∨ res ≠ 2)) ∧
  (let t : Nat := 0; let s : State := powered |>.wr .DEV_STATE_KEEPER 0 1 |>.wr .GRN_CAP_STAT_RESULT 0 1; let b := s.enter t
   let res := b.rd .GRN_CAP_STAT_RESULT; let c := b.capBytes (b.rd .GRN_CAP_LEN)
   let formed := capFormatOk c (b.rd .GRN_CAP_LEN) = true
   b.keeperRuns = true ∧ res = 1 ∧ (¬ formed)) ∧
  (let t : Nat := 0; let s : State := powered |>.wr .DEV_STATE_KEEPER 0 1 |> capsuled 1 0 |>.wr .GRN_CAP_STAT_RESULT 0 1
   let b := s.enter t; let res := b.rd .GRN_CAP_STAT_RESULT; let c := b.capBytes (b.rd .GRN_CAP_LEN)
   let formed := capFormatOk c (b.rd .GRN_CAP_LEN) = true; let keyed := b.bit .GRN_STAT_KEYLESS = false
   b.keeperRuns = true ∧ res = 1 ∧ formed ∧ (¬ keyed)) ∧
  (let t : Nat := 0
   let s : State := { powered with boot := { powered.boot with otpBad := true } } |>.wr .DEV_STATE_KEEPER 0 1 |> capsuled 1 0 |>.wr .GRN_CAP_STAT_RESULT 0 1 |>.wr .GRN_STAT_KEYLESS 0 0
   let b := s.enter t; let res := b.rd .GRN_CAP_STAT_RESULT; let c := b.capBytes (b.rd .GRN_CAP_LEN)
   let formed := capFormatOk c (b.rd .GRN_CAP_LEN) = true; let keyed := b.bit .GRN_STAT_KEYLESS = false
   let ours := slice c 8 16 = uidBytes ∧ b.boot.otpBad = false
   b.keeperRuns = true ∧ res = 1 ∧ formed ∧ keyed ∧ (¬ ours)) ∧
  (let t : Nat := 0
   let s : State := powered |>.wr .DEV_STATE_KEEPER 0 1 |> capsuled 1 0 |>.wr .GRN_CAP_STAT_RESULT 0 1 |>.wr .GRN_STAT_KEYLESS 0 0
   let b := s.enter t; let res := b.rd .GRN_CAP_STAT_RESULT; let c := b.capBytes (b.rd .GRN_CAP_LEN)
   let formed := capFormatOk c (b.rd .GRN_CAP_LEN) = true; let keyed := b.bit .GRN_STAT_KEYLESS = false
   let ours := slice c 8 16 = uidBytes ∧ b.boot.otpBad = false; let gen := leAt c 24 1 = b.rd .GRN_VGEN
   b.keeperRuns = true ∧ res = 1 ∧ formed ∧ keyed ∧ ours ∧ (¬ gen)) ∧
  (let t : Nat := 0
   let s : State := powered |>.wr .DEV_STATE_KEEPER 0 1 |> capsuled 0 1 |>.wr .GRN_CAP_STAT_RESULT 0 1 |>.wr .GRN_STAT_KEYLESS 0 0
   let b := s.enter t; let res := b.rd .GRN_CAP_STAT_RESULT; let c := b.capBytes (b.rd .GRN_CAP_LEN)
   let formed := capFormatOk c (b.rd .GRN_CAP_LEN) = true; let keyed := b.bit .GRN_STAT_KEYLESS = false
   let ours := slice c 8 16 = uidBytes ∧ b.boot.otpBad = false; let fresh := b.rd .GRN_UPD_CTR < leAt c 28 4
   let gen := leAt c 24 1 = b.rd .GRN_VGEN
   b.keeperRuns = true ∧ res = 1 ∧ formed ∧ keyed ∧ ours ∧ gen ∧ (¬ fresh)) ∧
  (let t : Nat := 0
   let s : State := powered |>.wr .DEV_STATE_KEEPER 0 1 |> capsuled 1 1 |>.wr .GRN_CAP_STAT_RESULT 0 1 |>.wr .GRN_STAT_KEYLESS 0 0
   let b := s.enter t; let res := b.rd .GRN_CAP_STAT_RESULT; let c := b.capBytes (b.rd .GRN_CAP_LEN)
   let formed := capFormatOk c (b.rd .GRN_CAP_LEN) = true; let keyed := b.bit .GRN_STAT_KEYLESS = false
   let ours := slice c 8 16 = uidBytes ∧ b.boot.otpBad = false; let fresh := b.rd .GRN_UPD_CTR < leAt c 28 4
   let gen := leAt c 24 1 = b.rd .GRN_VGEN
   let signed := if leAt c 5 1 = 1 then b.claimed = false else leAt c 6 1 ≤ 63 ∧ b.slotUsage (leAt c 6 1) = 5
   b.keeperRuns = true ∧ res = 1 ∧ formed ∧ keyed ∧ ours ∧ gen ∧ fresh ∧ (¬ signed)) ∧
  (let t : Nat := 0; let s : State := powered |>.wr .DEV_STATE_KEEPER 0 1 |> capsuled 1 0 |>.wr .GRN_CAP_STAT_RESULT 0 1
   let b := s.enter t; let res := b.rd .GRN_CAP_STAT_RESULT
   b.keeperRuns = true ∧ res = 1) ∧
  (let t : Nat := 0; let s : State := powered; let b := s.enter t; let res := b.rd .GRN_CAP_STAT_RESULT
   (b.keeperRuns = false ∨ res ≠ 1)) ∧
  (let t : Nat := 0; let ctr : Nat := 7; let staged : List StagedOp := [⟨63, 5, true, false, 0, 1⟩]; let kind : Nat := 0
   let s : State := (powered.setGrn { powered.grn with kind := 1, ctr := 7, staged := [⟨63, 5, true, false, 0, 1⟩] }).wr .GRN_CAP_STAT_RESULT 0 2
   let b := s.enter t; let res := b.rd .GRN_CAP_STAT_RESULT
   let queued := res = 2 ∧ b.grn.ctr = ctr ∧ b.grn.staged = staged ∧ (staged.map (·.slot)).Nodup
   b.answers .keeper .GRN_CAP_CTRL ∧ queued ∧ b.grn.kind ≠ 2) ∧
  (let t : Nat := 0; let ctr : Nat := 7; let staged : List StagedOp := [⟨63, 5, true, false, 0, 1⟩]; let kind : Nat := 0
   let s : State := (powered.setGrn { powered.grn with kind := 2, ctr := 7, staged := [⟨63, 5, true, false, 0, 1⟩] }).wr .GRN_CAP_STAT_RESULT 0 2
   let b := s.enter t; let res := b.rd .GRN_CAP_STAT_RESULT
   let queued := res = 2 ∧ b.grn.ctr = ctr ∧ b.grn.staged = staged ∧ (staged.map (·.slot)).Nodup
   b.answers .keeper .GRN_CAP_CTRL ∧ queued ∧ b.grn.kind = 2) ∧
  (let t : Nat := 0; let ctr : Nat := 7; let staged : List StagedOp := [⟨63, 5, true, false, 0, 1⟩]; let kind : Nat := 0
   let s : State := (powered.setGrn { powered.grn with kind := 0, ctr := 7, staged := [⟨63, 5, true, false, 0, 1⟩] }).wr .GRN_CAP_STAT_RESULT 0 2
   let b := s.enter t; let res := b.rd .GRN_CAP_STAT_RESULT
   let word := joinPair (BitVec.ofNat 32 ctr) (crc32c (leBytes 4 ctr ++ leBytes 1 (b.rd .GRN_VGEN) ++ staged.flatMap StagedOp.bytes))
   let queued := res = 2 ∧ b.grn.ctr = ctr ∧ b.grn.staged = staged ∧ (staged.map (·.slot)).Nodup
   b.answers .keeper .GRN_CAP_CTRL ∧ queued ∧ b.grn.kind ≠ 2 ∧ word ≠ 0) ∧
  (let t : Nat := 0; let left : DWord := 1; let ctr : Nat := 7; let staged : List StagedOp := [⟨63, 5, true, false, 0, 1⟩]
   let kind : Nat := 0
   let s : State := (powered.setGrn { powered.grn with kind := 1, ctr := 7, staged := [⟨63, 5, true, false, 0, 1⟩] }).wr .GRN_CAP_STAT_RESULT 0 2
   let b := s.enter t; let res := b.rd .GRN_CAP_STAT_RESULT
   let queued := res = 2 ∧ b.grn.ctr = ctr ∧ b.grn.staged = staged ∧ (staged.map (·.slot)).Nodup
   b.answers .keeper .GRN_CAP_CTRL ∧ queued ∧ left ≠ 0 ∧ left ≠ b.commitWord (left.setWidth 32).toNat) := by
  refine ⟨?_, ?_, ?_, ?_, ?_, ?_, ?_, ?_, ?_, ?_, ?_, ?_, ?_, ?_, ?_, ?_⟩
  · dsimp only [State.answers, State.CanRun, State.Calm, State.RunsOn, State.breakAt]; decide +kernel
  · dsimp only [State.answers, State.CanRun, State.Calm, State.RunsOn, State.breakAt]; decide +kernel
  · dsimp only [State.answers, State.CanRun, State.Calm, State.RunsOn, State.breakAt]; decide +kernel
  · dsimp only [State.answers, State.CanRun, State.Calm, State.RunsOn, State.breakAt]; decide +kernel
  · dsimp only [State.answers, State.CanRun, State.Calm, State.RunsOn, State.breakAt]; decide +kernel
  · dsimp only [State.answers, State.CanRun, State.Calm, State.RunsOn, State.breakAt]; decide +kernel
  · dsimp only; refine ⟨by decide +kernel, by decide +kernel, by decide +kernel, by decide +kernel, fun h => absurd h.2 (by decide +kernel)⟩
  · dsimp only; refine ⟨by decide +kernel, by decide +kernel, by decide +kernel, by decide +kernel, ⟨capWin_uid Config.uid.toNat 1 0, by decide +kernel⟩, by decide +kernel⟩
  · dsimp only; refine ⟨by decide +kernel, by decide +kernel, by decide +kernel, by decide +kernel, ⟨capWin_uid Config.uid.toNat 0 1, by decide +kernel⟩, by decide +kernel, by decide +kernel⟩
  · dsimp only; refine ⟨by decide +kernel, by decide +kernel, by decide +kernel, by decide +kernel, ⟨capWin_uid Config.uid.toNat 1 1, by decide +kernel⟩, by decide +kernel, by decide +kernel, by decide +kernel⟩
  · dsimp only [State.answers, State.CanRun, State.Calm, State.RunsOn, State.breakAt]; decide +kernel
  · dsimp only [State.answers, State.CanRun, State.Calm, State.RunsOn, State.breakAt]; decide +kernel
  · dsimp only [State.answers, State.CanRun, State.Calm, State.RunsOn, State.breakAt]; decide +kernel
  · dsimp only [State.answers, State.CanRun, State.Calm, State.RunsOn, State.breakAt]; decide +kernel
  · dsimp only [State.answers, State.CanRun, State.Calm, State.RunsOn, State.breakAt]; decide +kernel
  · dsimp only [State.answers, State.CanRun, State.Calm, State.RunsOn, State.breakAt]; decide +kernel

/-- Hypotheses of MailboxQueues, clause by clause. -/
theorem test_hyps_MailboxQueues :
  (let t : Nat := 0; let m : Master := .pcie; let n : Fin 16 := 15; let i : Fin 2 := 0
   let s : State := { powered with mbox := powered.mbox.set 15 { powered.mbox[15] with ends := powered.mbox[15].ends.set 0 { powered.mbox[15].ends[0] with resetAt := some 0 } } } |>.wr .MBn_BIND_END0 15 15 |>.wr .MBn_BIND_END1 15 3
   let b := s.enter t; let now := ∃ a, ((b.mbox[n]).ends[i]).resetAt = some a ∧ sameCycle a b.now = true
   b.answers m .MBn_TX ∧ b.mbEndOf n m.id = some i ∧ now) ∧
  (let t : Nat := 0; let m : Master := .pcie; let n : Fin 16 := 15; let v : Word := 0x120; let i : Fin 2 := 0
   let s : State := queued ([]) powered |>.wr .MBn_BIND_END0 15 15 |>.wr .MBn_BIND_END1 15 3; let b := s.enter t
   let q := (b.mbox[n]).out[i]; let len := v.toNat % 16; let room := 16 - q.words.length - q.build.length
   let now := ∃ a, ((b.mbox[n]).ends[i]).resetAt = some a ∧ sameCycle a b.now = true
   b.answers m .MBn_TX ∧ b.mbEndOf n m.id = some i ∧ (¬ now) ∧ q.drop = 0 ∧ q.left = 0 ∧ len + 1 ≤ room ∧ len = 0) ∧
  (let t : Nat := 0; let m : Master := .pcie; let n : Fin 16 := 15; let v : Word := 15; let i : Fin 2 := 0
   let s : State := queued ([]) powered |>.wr .MBn_BIND_END0 15 15 |>.wr .MBn_BIND_END1 15 3; let b := s.enter t
   let q := (b.mbox[n]).out[i]; let len := v.toNat % 16; let room := 16 - q.words.length - q.build.length
   let now := ∃ a, ((b.mbox[n]).ends[i]).resetAt = some a ∧ sameCycle a b.now = true
   b.answers m .MBn_TX ∧ b.mbEndOf n m.id = some i ∧ (¬ now) ∧ q.drop = 0 ∧ q.left = 0 ∧ len + 1 ≤ room ∧ len ≠ 0) ∧
  (let t : Nat := 0; let m : Master := .pcie; let n : Fin 16 := 15; let v : Word := 15; let i : Fin 2 := 0
   let s : State := queued ([0]) powered |>.wr .MBn_BIND_END0 15 15 |>.wr .MBn_BIND_END1 15 3; let b := s.enter t
   let q := (b.mbox[n]).out[i]; let len := v.toNat % 16; let room := 16 - q.words.length - q.build.length
   let now := ∃ a, ((b.mbox[n]).ends[i]).resetAt = some a ∧ sameCycle a b.now = true
   b.answers m .MBn_TX ∧ b.mbEndOf n m.id = some i ∧ (¬ now) ∧ q.drop = 0 ∧ q.left = 0 ∧ room < len + 1) ∧
  (let t : Nat := 0; let m : Master := .pcie; let n : Fin 16 := 15; let i : Fin 2 := 0
   let s : State := { powered with mbox := powered.mbox.set 15 { powered.mbox[15] with out := powered.mbox[15].out.set 0 { powered.mbox[15].out[0] with left := 15 } } } |>.wr .MBn_BIND_END0 15 15 |>.wr .MBn_BIND_END1 15 3
   let b := s.enter t; let q := (b.mbox[n]).out[i]
   let now := ∃ a, ((b.mbox[n]).ends[i]).resetAt = some a ∧ sameCycle a b.now = true
   b.answers m .MBn_TX ∧ b.mbEndOf n m.id = some i ∧ (¬ now) ∧ q.drop = 0 ∧ 1 < q.left) ∧
  (let t : Nat := 0; let m : Master := .pcie; let n : Fin 16 := 15; let i : Fin 2 := 0
   let s : State := { powered with mbox := powered.mbox.set 15 { powered.mbox[15] with out := powered.mbox[15].out.set 0 { powered.mbox[15].out[0] with left := 1 } } } |>.wr .MBn_BIND_END0 15 15 |>.wr .MBn_BIND_END1 15 3
   let b := s.enter t; let q := (b.mbox[n]).out[i]
   let now := ∃ a, ((b.mbox[n]).ends[i]).resetAt = some a ∧ sameCycle a b.now = true
   b.answers m .MBn_TX ∧ b.mbEndOf n m.id = some i ∧ (¬ now) ∧ q.drop = 0 ∧ q.left = 1) ∧
  (let t : Nat := 0; let m : Master := .pcie; let n : Fin 16 := 15; let i : Fin 2 := 0
   let s : State := { powered with mbox := powered.mbox.set 15 { powered.mbox[15] with out := powered.mbox[15].out.set 0 { powered.mbox[15].out[0] with drop := 1 } } } |>.wr .MBn_BIND_END0 15 15 |>.wr .MBn_BIND_END1 15 3
   let b := s.enter t; let q := (b.mbox[n]).out[i]
   let now := ∃ a, ((b.mbox[n]).ends[i]).resetAt = some a ∧ sameCycle a b.now = true
   b.answers m .MBn_TX ∧ b.mbEndOf n m.id = some i ∧ (¬ now) ∧ 0 < q.drop) ∧
  (let t : Nat := 0; let m : Master := .pcie; let n : Fin 16 := 15; let w : Word := 5; let rest : List Word := []
   let i : Fin 2 := 0
   let s : State := { powered with mbox := powered.mbox.set 15 { powered.mbox[15] with out := powered.mbox[15].out.set 1 { powered.mbox[15].out[1] with words := [5] } } } |>.wr .MBn_BIND_END0 15 15 |>.wr .MBn_BIND_END1 15 3
   let b := s.enter t; let inq := (b.mbox[n]).out[peerEnd i]
   let now := ∃ a, ((b.mbox[n]).ends[i]).resetAt = some a ∧ sameCycle a b.now = true
   b.answers m .MBn_TX ∧ b.mbEndOf n m.id = some i ∧ (¬ now) ∧ inq.words = w :: rest) ∧
  (let t : Nat := 0; let m : Master := .pcie; let n : Fin 16 := 15; let i : Fin 2 := 0
   let s : State := queued ([]) powered |>.wr .MBn_BIND_END0 15 15 |>.wr .MBn_BIND_END1 15 3; let b := s.enter t
   let inq := (b.mbox[n]).out[peerEnd i]; let now := ∃ a, ((b.mbox[n]).ends[i]).resetAt = some a ∧ sameCycle a b.now = true
   b.answers m .MBn_TX ∧ b.mbEndOf n m.id = some i ∧ (¬ now) ∧ inq.words = []) ∧
  (let t : Nat := 0; let m : Master := .ye 0; let n : Fin 16 := 15
   let s : State := queued ([]) powered |>.wr .MBn_BIND_END0 15 15 |>.wr .MBn_BIND_END1 15 3; let b := s.enter t
   b.answers m .MBn_TX ∧ b.mbEndOf n m.id = none) := by
  refine ⟨?_, ?_, ?_, ?_, ?_, ?_, ?_, ?_, ?_, ?_⟩
  · dsimp only [State.answers]; exact ⟨by decide +kernel, by decide +kernel, 0, by decide +kernel, by decide +kernel⟩
  · dsimp only [State.answers]; refine ⟨by decide +kernel, by decide +kernel, fun ⟨a, h, _⟩ => ?_, by decide +kernel, by decide +kernel, by decide +kernel, by decide +kernel⟩; exact absurd (h.symm.trans (by decide +kernel : _ = none)) (by simp)
  · dsimp only [State.answers]; refine ⟨by decide +kernel, by decide +kernel, fun ⟨a, h, _⟩ => ?_, by decide +kernel, by decide +kernel, by decide +kernel, by decide +kernel⟩; exact absurd (h.symm.trans (by decide +kernel : _ = none)) (by simp)
  · dsimp only [State.answers]; refine ⟨by decide +kernel, by decide +kernel, fun ⟨a, h, _⟩ => ?_, by decide +kernel, by decide +kernel, by decide +kernel⟩; exact absurd (h.symm.trans (by decide +kernel : _ = none)) (by simp)
  · dsimp only [State.answers]; refine ⟨by decide +kernel, by decide +kernel, fun ⟨a, h, _⟩ => ?_, by decide +kernel, by decide +kernel⟩; exact absurd (h.symm.trans (by decide +kernel : _ = none)) (by simp)
  · dsimp only [State.answers]; refine ⟨by decide +kernel, by decide +kernel, fun ⟨a, h, _⟩ => ?_, by decide +kernel, by decide +kernel⟩; exact absurd (h.symm.trans (by decide +kernel : _ = none)) (by simp)
  · dsimp only [State.answers]; refine ⟨by decide +kernel, by decide +kernel, fun ⟨a, h, _⟩ => ?_, by decide +kernel⟩; exact absurd (h.symm.trans (by decide +kernel : _ = none)) (by simp)
  · dsimp only [State.answers]; refine ⟨by decide +kernel, by decide +kernel, fun ⟨a, h, _⟩ => ?_, by decide +kernel⟩; exact absurd (h.symm.trans (by decide +kernel : _ = none)) (by simp)
  · dsimp only [State.answers]; refine ⟨by decide +kernel, by decide +kernel, fun ⟨a, h, _⟩ => ?_, by decide +kernel⟩; exact absurd (h.symm.trans (by decide +kernel : _ = none)) (by simp)
  · dsimp only [State.answers, State.CanRun, State.Calm, State.RunsOn, State.breakAt]; decide +kernel

/-- Hypotheses of MailboxControl, clause by clause. -/
theorem test_hyps_MailboxControl :
  (let t : Nat := 0; let m : Master := .pcie; let n : Fin 16 := 15; let i : Fin 2 := 0
   let s : State := queued ([]) powered |>.wr .MBn_BIND_END0 15 15 |>.wr .MBn_BIND_END1 15 3 |>.wr .MBn_LOCK 15 0
   let b := s.enter t; let lock := b.rd .MBn_LOCK n
   b.answers m .MBn_LOCK ∧ b.mbEndOf n m.id = some i ∧ lock = 0) ∧
  (let t : Nat := 0; let m : Master := .pcie; let n : Fin 16 := 15; let i : Fin 2 := 0
   let s : State := queued ([]) powered |>.wr .MBn_BIND_END0 15 15 |>.wr .MBn_BIND_END1 15 3 |>.wr .MBn_LOCK 15 3 |>.wr .MBn_LOCK 15 1
   let b := s.enter t; let lock := b.rd .MBn_LOCK n
   b.answers m .MBn_LOCK ∧ b.mbEndOf n m.id = some i ∧ lock ≠ 0) ∧
  (let t : Nat := 0; let m : Master := .ye 3; let n : Fin 16 := 15; let i : Fin 2 := 0
   let s : State := queued ([]) powered |>.wr .MBn_BIND_END0 15 15 |>.wr .MBn_BIND_END1 15 3; let b := s.enter t
   let x := b.mbox[n]; let q := x.out[i]
   b.answers m .MBn_LOCK ∧ b.mbEndOf n m.id = none ∧ (q.timer = none ∨ b.rd .MBn_TMO n = 0 ∨ q.words = [] ∨ (∃ a, q.timer = some a ∧
     b.now + 1000000000 < a + min 65000 (b.rd .MBn_TMO n) * 1000000000))) ∧
  (let t : Nat := 0; let m : Master := .spi; let n : Fin 16 := 15
   let s : State := queued ([]) powered |>.wr .MBn_BIND_END0 15 15 |>.wr .MBn_BIND_END1 15 3 |>.wr .MBn_LOCK 15 2
   let b := s.enter t; let lock := b.rd .MBn_LOCK n
   b.answers m .MBn_LOCK ∧ lock = m.id) ∧
  (let t : Nat := 0; let m : Master := .pcie; let n : Fin 16 := 15; let i : Fin 2 := 0
   let s : State := queued ([]) powered |>.wr .MBn_BIND_END0 15 15 |>.wr .MBn_BIND_END1 15 3; let b := s.enter t
   let lock := b.rd .MBn_LOCK n
   b.answers m .MBn_LOCK ∧ lock ≠ m.id ∧ b.mbEndOf n m.id = some i) ∧
  (let t : Nat := 0; let m : Master := .pcie; let n : Fin 16 := 15; let v : Word := 0x30
   let s : State := powered.wr .MB_LOCKTAB 0 0; let b := s.enter t; let x := b.mbox[n]
   let empty := ∀ k : Fin 2, (x.out[k]).words = [] ∧ (x.out[k]).build = []; let c0 := endCode (v.toNat % 16)
   let c1 := endCode (v.toNat / 16 % 16)
   let differ := (c0 = 0 ∨ c0 ≠ c1) ∧ ¬ (c0 = 15 ∧ (c1 = 1 ∨ c1 = 2)) ∧ ¬ (c1 = 15 ∧ (c0 = 1 ∨ c0 = 2))
   let binder := m = .pcie ∨ m = .spi ∨ m = .keeper
   b.answers m .MBn_LOCK ∧ binder ∧ b.bitOf .MB_LOCKTAB 0 n = false ∧ empty ∧ differ) ∧
  (let t : Nat := 0; let m : Master := .pcie; let n : Fin 16 := 15; let v : Word := 0
   let s : State := queued ([]) powered |>.wr .MBn_BIND_END0 15 15 |>.wr .MBn_BIND_END1 15 3 |>.wr .MB_LOCKTAB 0 0x8000
   let b := s.enter t; let x := b.mbox[n]; let empty := ∀ k : Fin 2, (x.out[k]).words = [] ∧ (x.out[k]).build = []
   let c0 := endCode (v.toNat % 16); let c1 := endCode (v.toNat / 16 % 16)
   let differ := (c0 = 0 ∨ c0 ≠ c1) ∧ ¬ (c0 = 15 ∧ (c1 = 1 ∨ c1 = 2)) ∧ ¬ (c1 = 15 ∧ (c0 = 1 ∨ c0 = 2))
   let binder := m = .pcie ∨ m = .spi ∨ m = .keeper
   b.answers m .MBn_LOCK ∧ binder ∧ (b.bitOf .MB_LOCKTAB 0 n = true ∨ ¬ empty ∨ ¬ differ)) ∧
  (let t : Nat := 0; let m : Master := .ye 0; let n : Fin 16 := 15
   let s : State := queued ([]) powered |>.wr .MBn_BIND_END0 15 15 |>.wr .MBn_BIND_END1 15 3; let b := s.enter t
   let binder := m = .pcie ∨ m = .spi ∨ m = .keeper
   b.answers m .MBn_LOCK ∧ (¬ binder) ∧ b.mbEndOf n m.id = none) ∧
  (let t : Nat := 0; let n : Fin 16 := 15; let i : Fin 2 := 0; let since : Nat := 0
   let s : State := { powered with mbox := powered.mbox.set 15 { powered.mbox[15] with out := powered.mbox[15].out.set 0 { powered.mbox[15].out[0] with words := [0], timer := some 0 } } } |>.wr .MBn_BIND_END0 15 15 |>.wr .MBn_BIND_END1 15 3 |>.wr .MBn_TMO 15 70000 |> ({ · with now := 65000000000000 })
   let b := s.enter t; let x := b.mbox[n]; let q := x.out[i]
   q.timer = some since ∧ b.rd .MBn_TMO n ≠ 0 ∧ q.words ≠ [] ∧ since + min 65000 (b.rd .MBn_TMO n) * 1000000000 ≤ b.now) := by
  refine ⟨?_, ?_, ?_, ?_, ?_, ?_, ?_, ?_, ?_⟩ <;> dsimp only [State.answers, State.CanRun, State.Calm, State.RunsOn, State.breakAt] <;> decide +kernel

/-- Hypotheses of KeeperReports, clause by clause. -/
theorem test_hyps_KeeperReports :
  (let t : Nat := 0; let n : Fin 16 := 15; let i : Fin 2 := 1; let h : Word := header 1 0; let p : List Word := []
   let more : List Word := []; let s : State := asking 1 15 1 []; let b := s.enter t
   let asks := fun (ty : Nat) => b.Asks n 1 i h p more ∧ headerType h = ty
   asks 1 ∧ p = []) ∧
  (let t : Nat := 0; let n : Fin 16 := 15; let i : Fin 2 := 1; let h : Word := header 2 1; let p : List Word := [52]
   let more : List Word := []; let o : Word := 52; let s : State := asking 1 15 2 [52]; let b := s.enter t
   let asks := fun (ty : Nat) => b.Asks n 1 i h p more ∧ headerType h = ty
   asks 2 ∧ p = [o]) ∧
  (let t : Nat := 0; let n : Fin 16 := 15; let i : Fin 2 := 1; let h : Word := header 6 1; let p : List Word := [0]
   let more : List Word := []; let o : Word := 0; let s : State := asking 1 15 6 [0]; let b := s.enter t
   let asks := fun (ty : Nat) => b.Asks n 1 i h p more ∧ headerType h = ty
   asks 6 ∧ p = [o]) ∧
  (let t : Nat := 0; let n : Fin 16 := 15; let i : Fin 2 := 1; let h : Word := header 6 1; let p : List Word := [0]
   let more : List Word := []; let o : Word := 0; let s : State := asking 1 15 6 [0]; let b := s.enter t
   let asks := fun (ty : Nat) => b.Asks n 1 i h p more ∧ headerType h = ty
   asks 6 ∧ p = [o]) ∧
  (let t : Nat := 0; let n : Fin 16 := 15; let i : Fin 2 := 1; let h : Word := header 7 0; let p : List Word := []
   let more : List Word := []; let s : State := asking 1 15 7 []; let b := s.enter t
   let asks := fun (ty : Nat) => b.Asks n 1 i h p more ∧ headerType h = ty
   asks 7 ∧ p = []) ∧
  (let t : Nat := 0; let n : Fin 16 := 15; let i : Fin 2 := 1; let h : Word := header 8 0; let p : List Word := []
   let more : List Word := []
   let s : State := asking 1 15 8 [] |> fun (s : State) => { s with keeper := { s.keeper with sample := [1] } }
   let b := s.enter t; let asks := fun (ty : Nat) => b.Asks n 1 i h p more ∧ headerType h = ty
   asks 8 ∧ p = [] ∧ b.keeper.sample ≠ [] ∧ b.keeper.sample.length ≤ 14) ∧
  (let t : Nat := 0; let n : Fin 16 := 15; let i : Fin 2 := 1; let h : Word := header 10 1; let p : List Word := [0]
   let more : List Word := []; let o : Word := 0; let s : State := asking 1 15 10 [0] |>.wr .MB_KEEPER_C3_DROPPED 0 0
   let b := s.enter t; let asks := fun (ty : Nat) => b.Asks n 1 i h p more ∧ headerType h = ty
   asks 10 ∧ b.bit .MB_KEEPER_C3_DROPPED = false ∧ p = [o]) ∧
  (let t : Nat := 0; let n : Fin 16 := 15; let i : Fin 2 := 1; let h : Word := header 10 0; let p : List Word := []
   let more : List Word := []; let s : State := asking 1 15 10 [] |>.wr .MB_KEEPER_C3_DROPPED 0 1; let b := s.enter t
   let asks := fun (ty : Nat) => b.Asks n 1 i h p more ∧ headerType h = ty
   asks 10 ∧ b.bit .MB_KEEPER_C3_DROPPED = true) ∧
  (let t : Nat := 0; let n : Fin 16 := 15; let i : Fin 2 := 1; let h : Word := header 11 0; let p : List Word := []
   let more : List Word := []; let ty := 11; let s : State := asking 1 15 11 []; let b := s.enter t
   let asks := fun (ty : Nat) => b.Asks n 1 i h p more ∧ headerType h = ty
   asks ty ∧ (ty = 0 ∨ 10 < ty)) ∧
  (let t : Nat := 0; let n : Fin 16 := 15; let i : Fin 2 := 1; let h : Word := header 1 1; let p : List Word := [0]
   let more : List Word := []; let s : State := asking 1 15 1 [0]; let b := s.enter t
   let asks := fun (ty : Nat) => b.Asks n 1 i h p more ∧ headerType h = ty
   asks 1 ∧ p ≠ []) ∧
  (let t : Nat := 0; let n : Fin 16 := 15; let i : Fin 2 := 1; let h : Word := header 2 0; let p : List Word := []
   let more : List Word := []; let s : State := asking 1 15 2 []; let b := s.enter t
   let asks := fun (ty : Nat) => b.Asks n 1 i h p more ∧ headerType h = ty
   asks 2 ∧ p.length ≠ 1) ∧
  (let t : Nat := 0; let n : Fin 16 := 15; let i : Fin 2 := 1; let h : Word := header 6 2; let p : List Word := [0, 0]
   let more : List Word := []; let s : State := asking 1 15 6 [0, 0]; let b := s.enter t
   let asks := fun (ty : Nat) => b.Asks n 1 i h p more ∧ headerType h = ty
   asks 6 ∧ p.length ≠ 1) ∧
  (let t : Nat := 0; let n : Fin 16 := 15; let i : Fin 2 := 1; let h : Word := header 7 1; let p : List Word := [0]
   let more : List Word := []; let s : State := asking 1 15 7 [0]; let b := s.enter t
   let asks := fun (ty : Nat) => b.Asks n 1 i h p more ∧ headerType h = ty
   asks 7 ∧ p ≠ []) ∧
  (let t : Nat := 0; let n : Fin 16 := 15; let i : Fin 2 := 1; let h : Word := header 8 1; let p : List Word := [0]
   let more : List Word := []; let s : State := asking 1 15 8 [0]; let b := s.enter t
   let asks := fun (ty : Nat) => b.Asks n 1 i h p more ∧ headerType h = ty
   asks 8 ∧ p ≠ []) ∧
  (let t : Nat := 0; let n : Fin 16 := 15; let i : Fin 2 := 1; let h : Word := header 10 0; let p : List Word := []
   let more : List Word := []; let s : State := asking 1 15 10 [] |>.wr .MB_KEEPER_C3_DROPPED 0 0; let b := s.enter t
   let asks := fun (ty : Nat) => b.Asks n 1 i h p more ∧ headerType h = ty
   asks 10 ∧ b.bit .MB_KEEPER_C3_DROPPED = false ∧ p.length ≠ 1) := by
  refine ⟨?_, ?_, ?_, ?_, ?_, ?_, ?_, ?_, ?_, ?_, ?_, ?_, ?_, ?_, ?_⟩
  · dsimp only [State.answers]; and_intros <;> first | decide +kernel | (constructor <;> decide +kernel)
  · dsimp only [State.answers]; and_intros <;> first | decide +kernel | (constructor <;> decide +kernel)
  · dsimp only [State.answers]; and_intros <;> first | decide +kernel | (constructor <;> decide +kernel)
  · dsimp only [State.answers]; and_intros <;> first | decide +kernel | (constructor <;> decide +kernel)
  · dsimp only [State.answers]; and_intros <;> first | decide +kernel | (constructor <;> decide +kernel)
  · dsimp only [State.answers]; and_intros <;> first | decide +kernel | (constructor <;> decide +kernel)
  · dsimp only [State.answers]; and_intros <;> first | decide +kernel | (constructor <;> decide +kernel)
  · dsimp only [State.answers]; and_intros <;> first | decide +kernel | (constructor <;> decide +kernel)
  · dsimp only [State.answers]; and_intros <;> first | decide +kernel | (constructor <;> decide +kernel)
  · dsimp only [State.answers]; and_intros <;> first | decide +kernel | (constructor <;> decide +kernel)
  · dsimp only [State.answers]; and_intros <;> first | decide +kernel | (constructor <;> decide +kernel)
  · dsimp only [State.answers]; and_intros <;> first | decide +kernel | (constructor <;> decide +kernel)
  · dsimp only [State.answers]; and_intros <;> first | decide +kernel | (constructor <;> decide +kernel)
  · dsimp only [State.answers]; and_intros <;> first | decide +kernel | (constructor <;> decide +kernel)
  · dsimp only [State.answers]; and_intros <;> first | decide +kernel | (constructor <;> decide +kernel)

/-- Hypotheses of KeeperPeriods, clause by clause. -/
theorem test_hyps_KeeperPeriods :
  (let t : Nat := 0; let s : State := late.wr .DEV_STATE_KEEPER 0 1; let b := s.enter t; let k := b.keeper
   let runs := b.keeperRuns = true; let half := if b.bit .MB_KEEPER_C2_HALVED then 2 else 1
   runs ∧ k.refitAt + half * 100000 * 1000000000 ≤ b.now ∧ k.sampleAt + half * 100 * 1000000000 ≤ b.now) ∧
  (let t : Nat := 0; let s : State := powered; let b := s.enter t; let k := b.keeper
   let half := if b.bit .MB_KEEPER_C2_HALVED then 2 else 1
   b.now < k.refitAt + half * 100000 * 1000000000) ∧
  (let t : Nat := 0; let load : Nat := 0; let tja : Word := 0; let tjb : Word := 0; let core : Word := 0; let dvs : Word := 0
   let ana : Word := 0; let c := Instr.keeperBeat 0; let s : State := powered; let b := s.enter t
   let runs := b.keeperRuns = true
   (¬ runs) ∧ (c = .keeperRefit t ∨ c = .telemetrySample t tja tjb core dvs ana ∨ c = .keeperLoadWindow t load ∨ c = .keeperBeat t)) := by
  refine ⟨?_, ?_, ?_⟩
  · dsimp only [State.answers, State.CanRun, State.Calm, State.RunsOn, State.breakAt]; decide +kernel
  · dsimp only [State.answers, State.CanRun, State.Calm, State.RunsOn, State.breakAt]; decide +kernel
  · refine ⟨by decide +kernel, by simp⟩

/-- Hypotheses of KeeperActions, clause by clause. -/
theorem test_hyps_KeeperActions :
  (let t : Nat := 0; let n : Fin 16 := 15; let i : Fin 2 := 1; let h : Word := header 3 8
   let p : List Word := [0, 0, 0, 0, 0, 0, 0, 0]; let more : List Word := []
   let s : State := asking 1 15 3 [0, 0, 0, 0, 0, 0, 0, 0] |>.wr .GRN_STAT_KEYLESS 0 0; let b := s.enter t
   let asks := fun (ty : Nat) => b.Asks n 1 i h p more ∧ headerType h = ty
   asks 3 ∧ p.length = 8 ∧ b.bit .GRN_STAT_KEYLESS = false ∧ b.boot.otpBad = false) ∧
  (let t : Nat := 0; let n : Fin 16 := 15; let i : Fin 2 := 1; let h : Word := header 3 8
   let p : List Word := [0, 0, 0, 0, 0, 0, 0, 0]; let more : List Word := []
   let s : State := asking 1 15 3 [0, 0, 0, 0, 0, 0, 0, 0]; let b := s.enter t
   let asks := fun (ty : Nat) => b.Asks n 1 i h p more ∧ headerType h = ty
   asks 3 ∧ p.length = 8 ∧ (b.bit .GRN_STAT_KEYLESS = true ∨ b.boot.otpBad = true)) ∧
  (let t : Nat := 0; let n : Fin 16 := 15; let i : Fin 2 := 1; let h : Word := header 3 0; let p : List Word := []
   let more : List Word := []; let s : State := asking 1 15 3 []; let b := s.enter t
   let asks := fun (ty : Nat) => b.Asks n 1 i h p more ∧ headerType h = ty
   asks 3 ∧ p.length ≠ 8) ∧
  (let t : Nat := 0; let n : Fin 16 := 15; let i : Fin 2 := 1; let h : Word := header 4 0; let p : List Word := []
   let more : List Word := []; let s : State := asking 1 4 4 []; let b := s.enter t
   let asks := fun (ty : Nat) => b.Asks n 1 i h p more ∧ headerType h = ty; let host := b.fromEngine n i = false
   asks 4 ∧ (¬ host)) ∧
  (let t : Nat := 0; let n : Fin 16 := 15; let i : Fin 2 := 1; let h : Word := header 4 0; let p : List Word := []
   let more : List Word := []; let s : State := asking 1 15 4 []; let b := s.enter t
   let asks := fun (ty : Nat) => b.Asks n 1 i h p more ∧ headerType h = ty; let host := b.fromEngine n i = false
   asks 4 ∧ host ∧ p.length ≠ 1) ∧
  (let t : Nat := 0; let n : Fin 16 := 15; let i : Fin 2 := 1; let h : Word := header 4 1; let p : List Word := [0x0F03]
   let more : List Word := []; let a : Word := 0x0F03; let img : List Byte := program; let iw : Nat := 1; let dw : Nat := 0
   let s : State := asking 1 15 4 [0x0F03] |> flashed |>.wr .CLK_GATE_GATED 0 8; let b := s.enter t
   let asks := fun (ty : Nat) => b.Asks n 1 i h p more ∧ headerType h = ty; let host := b.fromEngine n i = false
   let heard := b.boot.supplies = true ∧ b.gated islYac = false ∧ b.heldRst islYac = false
   asks 4 ∧ host ∧ (¬ heard) ∧ p = [a] ∧ b.programAt (a.toNat / 256 % 256) = some img ∧ goodProgram img = some (iw, dw)) ∧
  (let t : Nat := 0; let n : Fin 16 := 15; let i : Fin 2 := 1; let h : Word := header 4 1; let p : List Word := [0x0F03]
   let more : List Word := []; let a : Word := 0x0F03; let img : List Byte := program; let iw : Nat := 1; let dw : Nat := 0
   let s : State := asking 1 15 4 [0x0F03] |> flashed; let b := s.enter t
   let asks := fun (ty : Nat) => b.Asks n 1 i h p more ∧ headerType h = ty; let host := b.fromEngine n i = false
   let heard := b.boot.supplies = true ∧ b.gated islYac = false ∧ b.heldRst islYac = false
   asks 4 ∧ host ∧ heard ∧ p = [a] ∧ b.programAt (a.toNat / 256 % 256) = some img ∧ goodProgram img = some (iw, dw)) ∧
  (let t : Nat := 0; let n : Fin 16 := 15; let i : Fin 2 := 1; let h : Word := header 4 1; let p : List Word := [0x1000]
   let more : List Word := []; let a : Word := 0x1000; let s : State := asking 1 15 4 [0x1000]; let b := s.enter t
   let asks := fun (ty : Nat) => b.Asks n 1 i h p more ∧ headerType h = ty; let host := b.fromEngine n i = false
   let heard := b.boot.supplies = true ∧ b.gated islYac = false ∧ b.heldRst islYac = false
   asks 4 ∧ host ∧ heard ∧ p = [a] ∧ b.programAt (a.toNat / 256 % 256) = none) ∧
  (let t : Nat := 0; let n : Fin 16 := 15; let i : Fin 2 := 1; let h : Word := header 5 1; let p : List Word := [2]
   let more : List Word := []; let a : Word := 2; let s : State := asking 1 15 5 [2]; let b := s.enter t
   let asks := fun (ty : Nat) => b.Asks n 1 i h p more ∧ headerType h = ty; let host := b.fromEngine n i = false
   asks 5 ∧ host ∧ p = [a] ∧ a.toNat ≤ 2) ∧
  (let t : Nat := 0; let n : Fin 16 := 15; let i : Fin 2 := 1; let h : Word := header 5 1; let p : List Word := [3]
   let more : List Word := []; let a : Word := 3; let s : State := asking 1 15 5 [3]; let b := s.enter t
   let asks := fun (ty : Nat) => b.Asks n 1 i h p more ∧ headerType h = ty; let host := b.fromEngine n i = false
   asks 5 ∧ host ∧ p = [a] ∧ 2 < a.toNat) ∧
  (let t : Nat := 0; let n : Fin 16 := 15; let i : Fin 2 := 1; let h : Word := header 5 1; let p : List Word := [2]
   let more : List Word := []; let s : State := asking 1 7 5 [2]; let b := s.enter t
   let asks := fun (ty : Nat) => b.Asks n 1 i h p more ∧ headerType h = ty; let host := b.fromEngine n i = false
   asks 5 ∧ (¬ host)) ∧
  (let t : Nat := 0; let n : Fin 16 := 15; let i : Fin 2 := 1; let h : Word := header 5 0; let p : List Word := []
   let more : List Word := []; let s : State := asking 1 15 5 []; let b := s.enter t
   let asks := fun (ty : Nat) => b.Asks n 1 i h p more ∧ headerType h = ty; let host := b.fromEngine n i = false
   asks 5 ∧ host ∧ p.length ≠ 1) ∧
  (let t : Nat := 0; let n : Fin 16 := 15; let i : Fin 2 := 1; let h : Word := header 9 0; let p : List Word := []
   let more : List Word := []
   let s : State := asking 1 15 9 [] |>.wr .ATOM_MEAS_PRESENT 0 1 |> fun (s : State) => { s with keeper := { s.keeper with series := [(10 ^ 18, 0, 600)] } }
   let b := s.enter t; let asks := fun (ty : Nat) => b.Asks n 1 i h p more ∧ headerType h = ty
   asks 9 ∧ p = [] ∧ b.refit.1 = true) ∧
  (let t : Nat := 0; let n : Fin 16 := 15; let i : Fin 2 := 1; let h : Word := header 9 0; let p : List Word := []
   let more : List Word := []; let s : State := asking 1 15 9 []; let b := s.enter t
   let asks := fun (ty : Nat) => b.Asks n 1 i h p more ∧ headerType h = ty
   asks 9 ∧ p = [] ∧ b.refit.1 = false) ∧
  (let t : Nat := 0; let n : Fin 16 := 15; let i : Fin 2 := 1; let h : Word := header 9 1; let p : List Word := [0]
   let more : List Word := []; let s : State := asking 1 15 9 [0]; let b := s.enter t
   let asks := fun (ty : Nat) => b.Asks n 1 i h p more ∧ headerType h = ty
   asks 9 ∧ p ≠ []) := by
  refine ⟨?_, ?_, ?_, ?_, ?_, ?_, ?_, ?_, ?_, ?_, ?_, ?_, ?_, ?_, ?_⟩
  · dsimp only [State.answers]; and_intros <;> first | decide +kernel | (constructor <;> decide +kernel)
  · dsimp only [State.answers]; and_intros <;> first | decide +kernel | (constructor <;> decide +kernel)
  · dsimp only [State.answers]; and_intros <;> first | decide +kernel | (constructor <;> decide +kernel)
  · dsimp only [State.answers]; and_intros <;> first | decide +kernel | (constructor <;> decide +kernel)
  · dsimp only [State.answers]; and_intros <;> first | decide +kernel | (constructor <;> decide +kernel)
  · dsimp only; refine ⟨⟨by constructor <;> decide +kernel, by decide +kernel⟩, by decide +kernel, fun h => absurd h.2.1 (by decide +kernel), rfl, ?_, program_good⟩; decide +kernel
  · dsimp only; refine ⟨⟨by constructor <;> decide +kernel, by decide +kernel⟩, by decide +kernel, by decide +kernel, rfl, ?_, program_good⟩; decide +kernel
  · dsimp only [State.answers]; and_intros <;> first | decide +kernel | (constructor <;> decide +kernel)
  · dsimp only [State.answers]; and_intros <;> first | decide +kernel | (constructor <;> decide +kernel)
  · dsimp only [State.answers]; and_intros <;> first | decide +kernel | (constructor <;> decide +kernel)
  · dsimp only [State.answers]; and_intros <;> first | decide +kernel | (constructor <;> decide +kernel)
  · dsimp only [State.answers]; and_intros <;> first | decide +kernel | (constructor <;> decide +kernel)
  · dsimp only [State.answers]; and_intros <;> first | decide +kernel | (constructor <;> decide +kernel)
  · dsimp only [State.answers]; and_intros <;> first | decide +kernel | (constructor <;> decide +kernel)
  · dsimp only [State.answers]; and_intros <;> first | decide +kernel | (constructor <;> decide +kernel)

/-- Hypotheses of RecoveryService, clause by clause. -/
theorem test_hyps_RecoveryService :
  (let t : Nat := 0; let n : Fin 16 := 15; let i : Fin 2 := 1; let h : Word := header 256 1; let p : List Word := [0x7FFFCC]
   let more : List Word := []; let a : Word := 0x7FFFCC; let s : State := asking 2 15 256 [0x7FFFCC]; let b := s.enter t
   let asks := fun (ty : Nat) => b.Asks n 2 i h p more ∧ headerType h = ty ∧ b.mbEndCode n 0 = 15 ∧ b.mbEndCode n 1 = 3
   asks 0x100 ∧ p = [a] ∧ a.toNat % 4 = 0 ∧ a.toNat + 52 ≤ 0x800000) ∧
  (let t : Nat := 0; let n : Fin 16 := 15; let i : Fin 2 := 1; let h : Word := header 256 1; let p : List Word := [0x7FFFD0]
   let more : List Word := []; let a : Word := 0x7FFFD0; let s : State := asking 2 15 256 [0x7FFFD0]; let b := s.enter t
   let asks := fun (ty : Nat) => b.Asks n 2 i h p more ∧ headerType h = ty ∧ b.mbEndCode n 0 = 15 ∧ b.mbEndCode n 1 = 3
   asks 0x100 ∧ p = [a] ∧ (a.toNat % 4 ≠ 0 ∨ 0x800000 < a.toNat + 52)) ∧
  (let t : Nat := 0; let n : Fin 16 := 15; let i : Fin 2 := 1; let h : Word := header 257 1; let p : List Word := [0x7FFFFF]
   let more : List Word := []; let a : Word := 0x7FFFFF; let s : State := asking 2 15 257 [0x7FFFFF]; let b := s.enter t
   let asks := fun (ty : Nat) => b.Asks n 2 i h p more ∧ headerType h = ty ∧ b.mbEndCode n 0 = 15 ∧ b.mbEndCode n 1 = 3
   asks 0x101 ∧ p = [a] ∧ a.toNat < 0x800000) ∧
  (let t : Nat := 0; let n : Fin 16 := 15; let i : Fin 2 := 1; let h : Word := header 257 1; let p : List Word := [0x800000]
   let more : List Word := []; let a : Word := 0x800000; let s : State := asking 2 15 257 [0x800000]; let b := s.enter t
   let asks := fun (ty : Nat) => b.Asks n 2 i h p more ∧ headerType h = ty ∧ b.mbEndCode n 0 = 15 ∧ b.mbEndCode n 1 = 3
   asks 0x101 ∧ p = [a] ∧ 0x800000 ≤ a.toNat) ∧
  (let t : Nat := 0; let n : Fin 16 := 15; let i : Fin 2 := 1; let h : Word := header 258 2
   let p : List Word := [0x7FFFFC, 1]; let more : List Word := []; let a : Word := 0x7FFFFC; let ws : List Word := [1]
   let s : State := asking 2 15 258 [0x7FFFFC, 1]; let b := s.enter t
   let asks := fun (ty : Nat) => b.Asks n 2 i h p more ∧ headerType h = ty ∧ b.mbEndCode n 0 = 15 ∧ b.mbEndCode n 1 = 3
   let inside := a.toNat % 4 = 0 ∧ a.toNat + 4 * ws.length ≤ 0x800000
   let clean := ∀ k, k ∈ sectorsOf a.toNat (4 * ws.length) → k ∉ b.flashDirty
   asks 0x102 ∧ p = a :: ws ∧ ws ≠ [] ∧ ws.length ≤ 13 ∧ inside ∧ clean) ∧
  (let t : Nat := 0; let n : Fin 16 := 15; let i : Fin 2 := 1; let h : Word := header 258 2
   let p : List Word := [0x7FFFFC, 1]; let more : List Word := []; let a : Word := 0x7FFFFC; let ws : List Word := [1]
   let s : State := asking 2 15 258 [0x7FFFFC, 1] |> fun (s : State) => { s with flashDirty := [0x7FF] }; let b := s.enter t
   let asks := fun (ty : Nat) => b.Asks n 2 i h p more ∧ headerType h = ty ∧ b.mbEndCode n 0 = 15 ∧ b.mbEndCode n 1 = 3
   let inside := a.toNat % 4 = 0 ∧ a.toNat + 4 * ws.length ≤ 0x800000
   let clean := ∀ k, k ∈ sectorsOf a.toNat (4 * ws.length) → k ∉ b.flashDirty
   asks 0x102 ∧ p = a :: ws ∧ ws ≠ [] ∧ ws.length ≤ 13 ∧ inside ∧ (¬ clean)) ∧
  (let t : Nat := 0; let n : Fin 16 := 15; let i : Fin 2 := 1; let h : Word := header 258 3
   let p : List Word := [0x7FFFFC, 1, 2]; let more : List Word := []; let a : Word := 0x7FFFFC; let ws : List Word := [1, 2]
   let s : State := asking 2 15 258 [0x7FFFFC, 1, 2]; let b := s.enter t
   let asks := fun (ty : Nat) => b.Asks n 2 i h p more ∧ headerType h = ty ∧ b.mbEndCode n 0 = 15 ∧ b.mbEndCode n 1 = 3
   let inside := a.toNat % 4 = 0 ∧ a.toNat + 4 * ws.length ≤ 0x800000
   asks 0x102 ∧ p = a :: ws ∧ ws ≠ [] ∧ ws.length ≤ 13 ∧ (¬ inside)) ∧
  (let t : Nat := 0; let n : Fin 16 := 15; let i : Fin 2 := 1; let h : Word := header 259 0; let p : List Word := []
   let more : List Word := []; let s : State := asking 2 15 259 []; let b := s.enter t
   let asks := fun (ty : Nat) => b.Asks n 2 i h p more ∧ headerType h = ty ∧ b.mbEndCode n 0 = 15 ∧ b.mbEndCode n 1 = 3
   asks 0x103 ∧ p = [] ∧ b.rd .GRN_CAP_STAT_RESULT ≠ 1 ∧ b.rd .GRN_CAP_STAT_RESULT ≠ 2 ∧ b.grn.word = 0) ∧
  (let t : Nat := 0
   let s : State := (powered.setKeeper { powered.keeper with rebooting := some 0 }).wr .DEV_STATE_KEEPER 0 2 |>.wr .DEV_STATE_KEEPER 0 2
   let b := s.enter t
   b.rd .DEV_STATE_KEEPER = 2 ∧ b.keeper.rebooting ≠ none) ∧
  (let t : Nat := 0; let n : Fin 16 := 15; let i : Fin 2 := 1; let h : Word := header 255 0; let p : List Word := []
   let more : List Word := []; let ty := 0xFF; let s : State := asking 2 15 255 []; let b := s.enter t
   b.Asks n 2 i h p more ∧ headerType h = ty ∧ (ty < 0x100 ∨ 0x103 < ty)) := by
  refine ⟨?_, ?_, ?_, ?_, ?_, ?_, ?_, ?_, ?_, ?_⟩
  · dsimp only [State.answers]; and_intros <;> first | decide +kernel | (constructor <;> decide +kernel)
  · dsimp only [State.answers]; and_intros <;> first | decide +kernel | (constructor <;> decide +kernel)
  · dsimp only [State.answers]; and_intros <;> first | decide +kernel | (constructor <;> decide +kernel)
  · dsimp only [State.answers]; and_intros <;> first | decide +kernel | (constructor <;> decide +kernel)
  · dsimp only [State.answers]; and_intros <;> first | decide +kernel | (constructor <;> decide +kernel)
  · dsimp only [State.answers]; and_intros <;> first | decide +kernel | (constructor <;> decide +kernel)
  · dsimp only [State.answers]; and_intros <;> first | decide +kernel | (constructor <;> decide +kernel)
  · dsimp only [State.answers]; and_intros <;> first | decide +kernel | (constructor <;> decide +kernel)
  · dsimp only [State.answers, State.CanRun, State.Calm, State.RunsOn, State.breakAt]; decide +kernel
  · dsimp only [State.answers]; and_intros <;> first | decide +kernel | (constructor <;> decide +kernel)

/-- Hypotheses of YacorRegisterArithmetic, clause by clause. -/
theorem test_hyps_YacorRegisterArithmetic :
  (let t : Nat := 0; let e : Fin 4 := 0; let rd : Fin 16 := 0; let ra : Fin 16 := 0; let rb : Fin 16 := 0
   let s : State := powered |> runs 0 (.add rd ra rb); let b := s.enter t
   b.CanRun e (.add rd ra rb)) ∧
  (let t : Nat := 0; let e : Fin 4 := 0; let rd : Fin 16 := 0; let ra : Fin 16 := 0; let rb : Fin 16 := 0
   let s : State := powered |> runs 0 (.sub rd ra rb); let b := s.enter t
   b.CanRun e (.sub rd ra rb)) ∧
  (let t : Nat := 0; let e : Fin 4 := 0; let rd : Fin 16 := 0; let ra : Fin 16 := 0; let rb : Fin 16 := 0
   let s : State := powered |> runs 0 (.and_ rd ra rb); let b := s.enter t
   b.CanRun e (.and_ rd ra rb)) ∧
  (let t : Nat := 0; let e : Fin 4 := 0; let rd : Fin 16 := 0; let ra : Fin 16 := 0; let rb : Fin 16 := 0
   let s : State := powered |> runs 0 (.or_ rd ra rb); let b := s.enter t
   b.CanRun e (.or_ rd ra rb)) ∧
  (let t : Nat := 0; let e : Fin 4 := 0; let rd : Fin 16 := 0; let ra : Fin 16 := 0; let rb : Fin 16 := 0
   let s : State := powered |> runs 0 (.xor_ rd ra rb); let b := s.enter t
   b.CanRun e (.xor_ rd ra rb)) ∧
  (let t : Nat := 0; let e : Fin 4 := 0; let rd : Fin 16 := 0; let ra : Fin 16 := 0; let rb : Fin 16 := 0
   let s : State := powered |> runs 0 (.shl rd ra rb); let b := s.enter t
   b.CanRun e (.shl rd ra rb)) ∧
  (let t : Nat := 0; let e : Fin 4 := 0; let rd : Fin 16 := 0; let ra : Fin 16 := 0; let rb : Fin 16 := 0
   let s : State := powered |> runs 0 (.shr rd ra rb); let b := s.enter t
   b.CanRun e (.shr rd ra rb)) ∧
  (let t : Nat := 0; let e : Fin 4 := 0; let rd : Fin 16 := 0; let ra : Fin 16 := 0; let rb : Fin 16 := 0
   let s : State := powered |> runs 0 (.sar rd ra rb); let b := s.enter t
   b.CanRun e (.sar rd ra rb)) := by
  refine ⟨?_, ?_, ?_, ?_, ?_, ?_, ?_, ?_⟩ <;> dsimp only [State.answers, State.CanRun, State.Calm, State.RunsOn, State.breakAt] <;> decide +kernel

/-- Hypotheses of YacorMultiplySaturate, clause by clause. -/
theorem test_hyps_YacorMultiplySaturate :
  (let t : Nat := 0; let e : Fin 4 := 0; let rd : Fin 16 := 0; let ra : Fin 16 := 0; let rb : Fin 16 := 0
   let s : State := powered |> runs 0 (.mul rd ra rb); let b := s.enter t
   b.CanRun e (.mul rd ra rb)) ∧
  (let t : Nat := 0; let e : Fin 4 := 0; let rd : Fin 16 := 0; let ra : Fin 16 := 0; let rb : Fin 16 := 0
   let s : State := powered |> runs 0 (.mulh rd ra rb); let b := s.enter t
   b.CanRun e (.mulh rd ra rb)) ∧
  (let t : Nat := 0; let e : Fin 4 := 0; let rd : Fin 16 := 0; let ra : Fin 16 := 0; let w : Fin 64 := 0
   let s : State := powered |> runs 0 (.sat rd ra w); let b := s.enter t
   b.CanRun e (.sat rd ra w)) := by
  refine ⟨?_, ?_, ?_⟩ <;> dsimp only [State.answers, State.CanRun, State.Calm, State.RunsOn, State.breakAt] <;> decide +kernel

/-- Hypotheses of YacorImmediates, clause by clause. -/
theorem test_hyps_YacorImmediates :
  (let t : Nat := 0; let e : Fin 4 := 0; let rd : Fin 16 := 0; let ra : Fin 16 := 0; let i : Fin 262144 := 0
   let s : State := powered |> runs 0 (.addi rd ra i); let b := s.enter t
   b.CanRun e (.addi rd ra i)) ∧
  (let t : Nat := 0; let e : Fin 4 := 0; let rd : Fin 16 := 0; let ra : Fin 16 := 0; let i : Fin 262144 := 0
   let s : State := powered |> runs 0 (.andi rd ra i); let b := s.enter t
   b.CanRun e (.andi rd ra i)) ∧
  (let t : Nat := 0; let e : Fin 4 := 0; let rd : Fin 16 := 0; let ra : Fin 16 := 0; let i : Fin 262144 := 0
   let s : State := powered |> runs 0 (.ori rd ra i); let b := s.enter t
   b.CanRun e (.ori rd ra i)) ∧
  (let t : Nat := 0; let e : Fin 4 := 0; let rd : Fin 16 := 0; let ra : Fin 16 := 0; let i : Fin 262144 := 0
   let s : State := powered |> runs 0 (.xori rd ra i); let b := s.enter t
   b.CanRun e (.xori rd ra i)) ∧
  (let t : Nat := 0; let e : Fin 4 := 0; let rd : Fin 16 := 0; let ra : Fin 16 := 0; let n : Fin 64 := 0
   let s : State := powered |> runs 0 (.shli rd ra n); let b := s.enter t
   b.CanRun e (.shli rd ra n)) ∧
  (let t : Nat := 0; let e : Fin 4 := 0; let rd : Fin 16 := 0; let ra : Fin 16 := 0; let n : Fin 64 := 0
   let s : State := powered |> runs 0 (.shri rd ra n); let b := s.enter t
   b.CanRun e (.shri rd ra n)) ∧
  (let t : Nat := 0; let e : Fin 4 := 0; let rd : Fin 16 := 0; let ra : Fin 16 := 0; let n : Fin 64 := 0
   let s : State := powered |> runs 0 (.sari rd ra n); let b := s.enter t
   b.CanRun e (.sari rd ra n)) ∧
  (let t : Nat := 0; let e : Fin 4 := 0; let rd : Fin 16 := 0; let k : Fin 4194304 := 0
   let s : State := powered |> runs 0 (.li rd k); let b := s.enter t
   b.CanRun e (.li rd k)) ∧
  (let t : Nat := 0; let e : Fin 4 := 0; let rd : Fin 16 := 0; let h : Fin 65536 := 0
   let s : State := powered |> runs 0 (.lis rd h); let b := s.enter t
   b.CanRun e (.lis rd h)) := by
  refine ⟨?_, ?_, ?_, ?_, ?_, ?_, ?_, ?_, ?_⟩ <;> dsimp only [State.answers, State.CanRun, State.Calm, State.RunsOn, State.breakAt] <;> decide +kernel

/-- Hypotheses of YacorCompare, clause by clause. -/
theorem test_hyps_YacorCompare :
  (let t : Nat := 0; let e : Fin 4 := 0; let pd : Fin 4 := 0; let cc : Cond := .ltu; let ra : Fin 16 := 0
   let rb : Fin 16 := 0; let s : State := powered |> runs 0 (.cmp pd cc ra rb); let b := s.enter t
   b.CanRun e (.cmp pd cc ra rb)) ∧
  (let t : Nat := 0; let e : Fin 4 := 0; let pd : Fin 4 := 0; let cc : Cond := .ltu; let ra : Fin 16 := 0
   let i : Fin 131072 := 0; let s : State := powered |> runs 0 (.cmpi pd cc ra i); let b := s.enter t
   b.CanRun e (.cmpi pd cc ra i)) := by
  refine ⟨?_, ?_⟩ <;> dsimp only [State.answers, State.CanRun, State.Calm, State.RunsOn, State.breakAt] <;> decide +kernel

/-- Hypotheses of YacorControlFlow, clause by clause. -/
theorem test_hyps_YacorControlFlow :
  (let t : Nat := 0; let e : Fin 4 := 3; let pd : Fin 4 := 0; let pa : Fin 4 := 0; let pb : Fin 4 := 0
   let fn : PredOp := .nor; let s : State := powered |> runs 3 (.plog pd pa pb fn); let b := s.enter t
   b.CanRun e (.plog pd pa pb fn)) ∧
  (let t : Nat := 0; let e : Fin 4 := 3; let tgt : Fin 4096 := 0; let s : State := powered |> runs 3 (.jmp tgt)
   let b := s.enter t
   b.CanRun e (.jmp tgt)) ∧
  (let t : Nat := 0; let e : Fin 4 := 3; let pa : Fin 4 := 0; let tgt : Fin 4096 := 0
   let s : State := powered |> runs 3 (.bt pa tgt); let b := s.enter t
   b.CanRun e (.bt pa tgt)) ∧
  (let t : Nat := 0; let e : Fin 4 := 3; let pa : Fin 4 := 0; let tgt : Fin 4096 := 0
   let s : State := powered |> runs 3 (.bf pa tgt); let b := s.enter t
   b.CanRun e (.bf pa tgt)) ∧
  (let t : Nat := 0; let e : Fin 4 := 3; let tgt : Fin 4096 := 0; let rd : Fin 16 := 0
   let s : State := powered |> runs 3 (.jal rd tgt); let b := s.enter t
   b.CanRun e (.jal rd tgt)) ∧
  (let t : Nat := 0; let e : Fin 4 := 3; let ra : Fin 16 := 0; let s : State := powered |> runs 3 (.jr ra)
   let b := s.enter t; let g := b.engines[e]
   b.yeLive e = true ∧ b.breaks e = false ∧ b.atPc e = some (.jr ra) ∧ (g.reg ra).toNat ≤ 4095) ∧
  (let t : Nat := 0; let e : Fin 4 := 3; let ra : Fin 16 := 15
   let s : State := late.setYe 3 { late.engines[3] with g := Vector.replicate 16 4096 } |> runs 3 (.jr ra)
   let b := s.enter t; let g := b.engines[e]
   b.yeLive e = true ∧ b.breaks e = false ∧ b.atPc e = some (.jr ra) ∧ 4095 < (g.reg ra).toNat) ∧
  (let t : Nat := 0; let e : Fin 4 := 3
   let s : State := late.setYe 3 { late.engines[3] with pc := 4096 } |>.wr .YEe_STAT_STATE 3 stRunning; let b := s.enter t
   let g := b.engines[e]
   b.yeLive e = true ∧ b.breaks e = false ∧ g.pc = 4096) ∧
  (let t : Nat := 0; let e : Fin 4 := 3; let s : State := late |> runs 3 (.jmp 0) |>.wr .YEe_BKPT_EN 3 1; let b := s.enter t
   b.breaks e = true) := by
  refine ⟨?_, ?_, ?_, ?_, ?_, ?_, ?_, ?_, ?_⟩ <;> dsimp only [State.answers, State.CanRun, State.Calm, State.RunsOn, State.breakAt] <;> decide +kernel

/-- Hypotheses of YacorMemoryAndTimers, clause by clause. -/
theorem test_hyps_YacorMemoryAndTimers :
  (let t : Nat := 0; let e : Fin 4 := 3; let rd : Fin 16 := 0; let ra : Fin 16 := 0; let o : Fin 262144 := 0
   let s : State := powered |> runs 3 (.ld rd ra o); let b := s.enter t
   b.CanRun e (.ld rd ra o)) ∧
  (let t : Nat := 0; let e : Fin 4 := 3; let rd : Fin 16 := 0; let ra : Fin 16 := 0; let o : Fin 262144 := 0
   let s : State := powered |> runs 3 (.st rd ra o); let b := s.enter t
   b.CanRun e (.st rd ra o)) ∧
  (let t : Nat := 0; let e : Fin 4 := 3; let rd : Fin 16 := 0; let ra : Fin 16 := 15; let o : Fin 262144 := 0
   let s : State := late.setYe 3 { late.engines[3] with g := Vector.replicate 16 1024 } |> runs 3 (.ld rd ra o)
   let b := s.enter t; let g := b.engines[e]; let a := (g.reg ra + BitVec.ofNat 64 o).toNat
   b.yeLive e = true ∧ b.breaks e = false ∧ b.atPc e = some (.ld rd ra o) ∧ 1024 ≤ a) ∧
  (let t : Nat := 0; let e : Fin 4 := 3; let rd : Fin 16 := 0; let ra : Fin 16 := 15; let o : Fin 262144 := 0
   let s : State := late.setYe 3 { late.engines[3] with g := Vector.replicate 16 1024 } |> runs 3 (.st rd ra o)
   let b := s.enter t; let g := b.engines[e]; let a := (g.reg ra + BitVec.ofNat 64 o).toNat
   b.yeLive e = true ∧ b.breaks e = false ∧ b.atPc e = some (.st rd ra o) ∧ 1024 ≤ a) ∧
  (let t : Nat := 0; let e : Fin 4 := 3; let rd : Fin 16 := 0; let ra : Fin 16 := 15; let o : Fin 262144 := 0
   let s : State := late.setYe 3 { late.engines[3] with g := Vector.replicate 16 1023 } |> runs 3 (.ld rd ra o)
   let b := s.enter t; let g := b.engines[e]; let a := (g.reg ra + BitVec.ofNat 64 o).toNat
   b.yeLive e = true ∧ b.breaks e = false ∧ b.atPc e = some (.ld rd ra o) ∧ a < 1024) ∧
  (let t : Nat := 0; let e : Fin 4 := 3; let rd : Fin 16 := 0; let sel : Fin 8 := 0
   let s : State := powered |> runs 3 (.rds rd sel); let b := s.enter t
   b.CanRun e (.rds rd sel)) ∧
  (let t : Nat := 0; let e : Fin 4 := 3; let rd : Fin 16 := 0; let ra : Fin 16 := 0
   let s : State := powered |> runs 3 (.evpoll rd ra); let b := s.enter t
   b.CanRun e (.evpoll rd ra)) ∧
  (let t : Nat := 0; let e : Fin 4 := 3; let i : Fin 4 := 0; let ra : Fin 16 := 0
   let s : State := powered |> runs 3 (.tset i ra); let b := s.enter t
   b.CanRun e (.tset i ra)) ∧
  (let t : Nat := 0; let e : Fin 4 := 3; let i : Fin 4 := 0; let ra : Fin 16 := 0
   let s : State := powered |> runs 3 (.tsetp i ra); let b := s.enter t
   b.CanRun e (.tsetp i ra)) ∧
  (let t : Nat := 0; let e : Fin 4 := 3; let i : Fin 4 := 0; let s : State := powered |> runs 3 (.tstop i)
   let b := s.enter t
   b.CanRun e (.tstop i)) := by
  refine ⟨?_, ?_, ?_, ?_, ?_, ?_, ?_, ?_, ?_, ?_⟩ <;> dsimp only [State.answers, State.CanRun, State.Calm, State.RunsOn, State.breakAt] <;> decide +kernel

/-- Hypotheses of YacorWait, clause by clause. -/
theorem test_hyps_YacorWait :
  (let t : Nat := 0; let e : Fin 4 := 3; let rd : Fin 16 := 0; let ra : Fin 16 := 0; let tm : Fin 16 := 0
   let s : State := powered |> runs 3 (.waitev rd ra tm); let b := s.enter t; let g := b.engines[e]
   b.CanRun e (.waitev rd ra tm) ∧ g.reg ra = 0 ∧ tm = 0) ∧
  (let t : Nat := 0; let e : Fin 4 := 3; let rd : Fin 16 := 0; let ra : Fin 16 := 15; let tm : Fin 16 := 0
   let s : State := late.setYe 3 { late.engines[3] with g := Vector.replicate 16 1 } |> fun (s : State) => { s with evpend := Vector.replicate 4 1 } |> runs 3 (.waitev rd ra tm)
   let b := s.enter t; let g := b.engines[e]
   let holds := fun (x : Waiting) => b.evpend[e] &&& x.mask ≠ 0 ∨ ∃ k : Fin 4, x.tm.val.testBit k ∧ (g.timers[k]).pend = true
   let asked : Waiting := ⟨rd, g.reg ra, tm⟩
   b.CanRun e (.waitev rd ra tm) ∧ (¬ (g.reg ra = 0 ∧ tm = 0)) ∧ holds asked) ∧
  (let t : Nat := 0; let e : Fin 4 := 3; let rd : Fin 16 := 0; let ra : Fin 16 := 15; let tm : Fin 16 := 0
   let s : State := late.setYe 3 { late.engines[3] with g := Vector.replicate 16 1 } |> runs 3 (.waitev rd ra tm)
   let b := s.enter t; let g := b.engines[e]
   let holds := fun (x : Waiting) => b.evpend[e] &&& x.mask ≠ 0 ∨ ∃ k : Fin 4, x.tm.val.testBit k ∧ (g.timers[k]).pend = true
   let asked : Waiting := ⟨rd, g.reg ra, tm⟩
   b.CanRun e (.waitev rd ra tm) ∧ (¬ (g.reg ra = 0 ∧ tm = 0)) ∧ (¬ holds asked)) ∧
  (let t : Nat := 0; let e : Fin 4 := 3; let w : Waiting := ⟨0, 1, 0⟩
   let s : State := late.setYe 3 { late.engines[3] with wait := some ⟨0, 1, 0⟩ } |> fun (s : State) => { s with evpend := Vector.replicate 4 1 } |>.wr .YEe_STAT_STATE 3 stWaiting
   let b := s.enter t; let g := b.engines[e]
   let holds := fun (x : Waiting) => b.evpend[e] &&& x.mask ≠ 0 ∨ ∃ k : Fin 4, x.tm.val.testBit k ∧ (g.timers[k]).pend = true
   b.yeState e = stWaiting ∧ b.gated islYac = false ∧ b.heldRst islYac = false ∧ g.wait = some w ∧ holds w) := by
  refine ⟨?_, ?_, ?_, ?_⟩ <;> dsimp only [State.answers, State.CanRun, State.Calm, State.RunsOn, State.breakAt] <;> decide +kernel

/-- Hypotheses of YacorAccessSlot, clause by clause. -/
theorem test_hyps_YacorAccessSlot :
  (let a : Nat := 0; let c : Nat := 1; let d := 4096; let slot := if 0x340000 ≤ a then 32 else 24
   0 < c ∧ slot + c ≤ 4096 ∧ 4096 < slot + d) ∧
  (let a : Nat := 0; let c : Nat := 1; let d := 4096; let slot := if 0x340000 ≤ a then 32 else 24
   0 < c ∧ slot + c ≤ 4096 ∧ 4096 < slot + d) ∧
  (let a : Nat := 0; let c : Nat := 1; let slot := if 0x340000 ≤ a then 32 else 24
   0 < c ∧ slot + c ≤ 4096) ∧
  (let a : Nat := 0; let c : Nat := 1; let slot := if 0x340000 ≤ a then 32 else 24
   0 < c ∧ slot + c ≤ 4096) ∧
  (let a : Nat := 0; let c : Nat := 1; let f := Field.YEe_BOOT; let slot := if 0x340000 ≤ a then 32 else 24
   0 < c ∧ slot + c ≤ 4096 ∧ f ∉ [Field.YEe_EV_DEV_TMO, .YEe_STAT_LATE, .YEe_EV_LATE, .YEe_DETLOSS_COUNT, .YEe_DETLOSS_MAXOVER] ∧
     f.settles = false) := by
  refine ⟨?_, ?_, ?_, ?_, ?_⟩ <;> dsimp only [State.answers, State.CanRun, State.Calm, State.RunsOn, State.breakAt] <;> decide +kernel

/-- Hypotheses of YacorDeviceAccess, clause by clause. -/
theorem test_hyps_YacorDeviceAccess :
  (let t : Nat := 0; let e : Fin 4 := 3; let rd : Fin 16 := 0; let d : DevAddr := .abs 0
   let s : State := powered |> runs 3 (.rdd rd d); let b := s.enter t
   b.CanRun e (.rdd rd d)) ∧
  (let t : Nat := 0; let e : Fin 4 := 3; let rd : Fin 16 := 0; let d : DevAddr := .abs 0
   let s : State := powered |> runs 3 (.rddp rd d); let b := s.enter t
   b.CanRun e (.rddp rd d)) ∧
  (let t : Nat := 0; let e : Fin 4 := 3; let rd : Fin 16 := 0; let d : DevAddr := .abs 0x10000
   let s : State := powered |> runs 3 (.wrd rd d); let b := s.enter t
   b.CanRun e (.wrd rd d)) ∧
  (let t : Nat := 0; let e : Fin 4 := 3; let rd : Fin 16 := 0; let d : DevAddr := .abs 0x10000
   let s : State := powered |> runs 3 (.wrdp rd d); let b := s.enter t
   b.CanRun e (.wrdp rd d)) ∧
  (let t : Nat := 0; let e : Fin 4 := 3; let rd : Fin 16 := 0; let d : DevAddr := .idx 15 0
   let s : State := late.setYe 3 { late.engines[3] with g := Vector.replicate 16 2 } |> runs 3 (.rdd rd d)
   let b := s.enter t; let g := b.engines[e]
   let a := match d with  | .abs w => w.val * 4  | .idx ra o => (g.reg ra + BitVec.ofNat 64 (o.val * 4)).toNat
   b.yeLive e = true ∧ b.breaks e = false ∧ b.atPc e = some (.rdd rd d) ∧ a % 4 ≠ 0) ∧
  (let t : Nat := 0; let e : Fin 4 := 3; let rd : Fin 16 := 0; let d : DevAddr := .abs 0
   let s : State := powered |> runs 3 (.wrd rd d); let b := s.enter t; let g := b.engines[e]
   let a := match d with  | .abs w => w.val * 4  | .idx ra o => (g.reg ra + BitVec.ofNat 64 (o.val * 4)).toNat
   b.yeLive e = true ∧ b.breaks e = false ∧ b.atPc e = some (.wrd rd d) ∧ a % 4 = 0 ∧ b.window e a true = false) := by
  refine ⟨?_, ?_, ?_, ?_, ?_, ?_⟩ <;> dsimp only [State.answers, State.CanRun, State.Calm, State.RunsOn, State.breakAt] <;> decide +kernel

/-- Hypotheses of YacorMeas, clause by clause. -/
theorem test_hyps_YacorMeas :
  (let t : Nat := 0; let e : Fin 4 := 0; let pd : Fin 4 := 0; let rd : Fin 16 := 0; let n : Fin 16 := 0
   let s : State := powered |> runs 0 (.measStat pd rd n); let b := s.enter t
   b.reach .INn_MEAS = true ∧ b.CanRun e (.measStat pd rd n)) ∧
  (let t : Nat := 0; let e : Fin 4 := 0; let rd : Fin 16 := 0; let n : Fin 16 := 0
   let s : State := powered |> runs 0 (.measFreq rd n); let b := s.enter t
   b.reach .INn_MEAS_FREQ = true ∧ b.CanRun e (.measFreq rd n)) ∧
  (let t : Nat := 0; let e : Fin 4 := 0; let rd : Fin 16 := 0; let n : Fin 16 := 0
   let s : State := powered |> runs 0 (.measRaw rd n); let b := s.enter t
   b.reach .INn_MEAS_PHASE = true ∧ b.CanRun e (.measRaw rd n)) ∧
  (let t : Nat := 0; let e : Fin 4 := 0; let rd : Fin 16 := 0; let ra : Fin 16 := 0; let n : Fin 16 := 0
   let s : State := powered |> runs 0 (.measPhase rd ra n); let b := s.enter t
   b.reach .INn_MEAS_PHASE = true ∧ b.CanRun e (.measPhase rd ra n)) := by
  refine ⟨?_, ?_, ?_, ?_⟩ <;> dsimp only [State.answers, State.CanRun, State.Calm, State.RunsOn, State.breakAt] <;> decide +kernel

/-- Hypotheses of YacorSteerPhstepSelref, clause by clause. -/
theorem test_hyps_YacorSteerPhstepSelref :
  (let t : Nat := 0; let e : Fin 4 := 0; let p : Fin 4 := 0; let ra : Fin 16 := 0; let rb : Fin 16 := 0
   let s : State := powered |> runs 0 (.steer p ra rb); let b := s.enter t
   b.reach .PLn_STEER = true ∧ b.CanRun e (.steer p ra rb)) ∧
  (let t : Nat := 0; let e : Fin 4 := 0; let n : Fin 64 := 0; let ra : Fin 16 := 0
   let s : State := powered |> runs 0 (.phstep n ra); let b := s.enter t
   b.reach .OUTn_PHASE = true ∧ b.CanRun e (.phstep n ra)) ∧
  (let t : Nat := 0; let e : Fin 4 := 0; let p : Fin 4 := 0; let src : SelSrc := .auto
   let s : State := powered |> runs 0 (.selref p src); let b := s.enter t
   b.reach .PLn_SHADOW_CAND = true ∧ b.CanRun e (.selref p src)) := by
  refine ⟨?_, ?_, ?_⟩ <;> dsimp only [State.answers, State.CanRun, State.Calm, State.RunsOn, State.breakAt] <;> decide +kernel

/-- Hypotheses of YacorSpec, clause by clause. -/
theorem test_hyps_YacorSpec :
  (let t : Nat := 0; let e : Fin 4 := 0; let p : Fin 4 := 0; let rd : Fin 16 := 0; let pref : Fin 32 := 0
   let s : State := powered |> runs 0 (.specBegin rd p pref) |>.wr .PLn_COMMIT_BUSY 0 0; let b := s.enter t
   b.reach .PLn_COMMIT = true ∧ b.CanRun e (.specBegin rd p pref) ∧ b.planes[p].region = none ∧ b.bit .PLn_COMMIT_BUSY p = false) ∧
  (let t : Nat := 0; let e : Fin 4 := 0; let p : Fin 4 := 0; let rd : Fin 16 := 0; let pref : Fin 32 := 0
   let r : Region := ⟨2, false, 0, some 4, 0, 0, 0, false⟩
   let s : State := (powered.setPlane 0 { PlaneState.init with region := some ⟨2, false, 0, some 4, 0, 0, 0, false⟩ }) |> runs 0 (.specBegin rd p pref) |>.wr .PLn_COMMIT_BUSY 0 1
   let b := s.enter t
   b.reach .PLn_COMMIT = true ∧ b.CanRun e (.specBegin rd p pref) ∧ b.planes[p].region = some r ∧ b.bit .PLn_COMMIT_BUSY p = true) ∧
  (let t : Nat := 0; let e : Fin 4 := 0; let p : Fin 4 := 0; let rd : Fin 16 := 0; let force : Bool := false
   let r : Region := ⟨2, false, 0, some 4, 0, 0, 0, false⟩
   let s : State := (powered.setPlane 0 { PlaneState.init with region := some ⟨2, false, 0, some 4, 0, 0, 0, false⟩ }) |>.wr .PLn_STATE_STATE 0 2 |>.wr .PLn_SHADOW_STAT_SRC 0 3 |>.wr .PLn_SHADOW_STAT_READY 0 1 |> runs 0 (.specCommit rd p force) |>.wr .PLn_COMMIT_RESULT 0 1
   let b := s.enter t; let was := b.rd .PLn_COMMIT_RESULT p
   let mine := b.planes[p].region = some r ∧ r.owner = some (4 + e.val)
   b.reach .PLn_COMMIT = true ∧ b.CanRun e (.specCommit rd p force) ∧ mine ∧ was = 1 ∧ b.commitAccepted p force = true) ∧
  (let t : Nat := 0; let e : Fin 4 := 1; let p : Fin 4 := 0; let rd : Fin 16 := 0; let force : Bool := false
   let r : Region := ⟨2, false, 0, some 4, 0, 0, 0, false⟩
   let s : State := (powered.setPlane 0 { PlaneState.init with region := some ⟨2, false, 0, some 4, 0, 0, 0, false⟩ }) |> runs 1 (.specCommit rd p force)
   let b := s.enter t
   b.reach .PLn_COMMIT = true ∧ b.CanRun e (.specCommit rd p force) ∧ b.planes[p].region = some r ∧ r.owner ≠ some (4 + e.val)) ∧
  (let t : Nat := 0; let e : Fin 4 := 0; let p : Fin 4 := 0; let rd : Fin 16 := 0
   let r : Region := ⟨2, false, 0, some 4, 0, 0, 0, false⟩
   let s : State := (powered.setPlane 0 { PlaneState.init with region := some ⟨2, false, 0, some 4, 0, 0, 0, false⟩ }) |>.wr .PLn_COMMIT_RESULT 0 1 |> runs 0 (.specAbandon rd p)
   let b := s.enter t; let was := b.rd .PLn_COMMIT_RESULT p
   let mine := b.planes[p].region = some r ∧ r.owner = some (4 + e.val)
   b.reach .PLn_COMMIT = true ∧ b.CanRun e (.specAbandon rd p) ∧ mine ∧ was ≠ 3) ∧
  (let t : Nat := 0; let e : Fin 4 := 3; let p : Fin 4 := 0; let rd : Fin 16 := 0
   let r : Region := ⟨2, false, 0, some 4, 0, 0, 0, false⟩
   let s : State := (powered.setPlane 0 { PlaneState.init with region := some ⟨2, false, 0, some 4, 0, 0, 0, false⟩ }) |> runs 3 (.specAbandon rd p)
   let b := s.enter t
   b.reach .PLn_COMMIT = true ∧ b.CanRun e (.specAbandon rd p) ∧ b.planes[p].region = some r ∧ r.owner ≠ some (4 + e.val)) := by
  refine ⟨?_, ?_, ?_, ?_, ?_, ?_⟩ <;> dsimp only [State.answers, State.CanRun, State.Calm, State.RunsOn, State.breakAt] <;> decide +kernel

/-- Hypotheses of YacorHop, clause by clause. -/
theorem test_hyps_YacorHop :
  (let t : Nat := 0; let e : Fin 4 := 0; let p : Fin 4 := 0; let rd : Fin 16 := 0; let k : Fin 16 := 0; let ra : Fin 16 := 0
   let rb : Fin 16 := 0; let op : HopOp := .hop; let sync : Bool := false; let asap : Bool := false
   let s : State := powered |> runs 0 (.hop rd k p ra rb op sync asap); let b := s.enter t
   b.reach .SHk_CMD = true ∧ b.CanRun e (.hop rd k p ra rb op sync asap)) := by
  dsimp only [State.answers, State.CanRun, State.Calm, State.RunsOn, State.breakAt]; decide +kernel

/-- Hypotheses of YacorPostFetch, clause by clause. -/
theorem test_hyps_YacorPostFetch :
  (let t : Nat := 0; let e : Fin 4 := 3; let rd : Fin 16 := 0; let c : Fin 16 := 15; let ra : Fin 16 := 0
   let n : Fin 16 := 15
   let s : State := queued [0] late |>.wr .MBn_BIND_END0 15 7 |>.wr .MBn_BIND_END1 15 3 |> runs 3 (.post rd c ra n)
   let b := s.enter t; let g := b.engines[e]; let len := n.val + 1; let old := g.unput b.now
   let x := (b.setYe e old).yeRead e .none 0 (Reg.MBn_STAT.addr c); let free := x.1.toNat % 32
   b.CanRun e (.post rd c ra n) ∧ free < len) ∧
  (let t : Nat := 0; let e : Fin 4 := 3; let rd : Fin 16 := 0; let c : Fin 16 := 15; let ra : Fin 16 := 0
   let n : Fin 16 := 14
   let s : State := late |>.wr .MBn_BIND_END0 15 7 |>.wr .MBn_BIND_END1 15 3 |> runs 3 (.post rd c ra n); let b := s.enter t
   let g := b.engines[e]; let len := n.val + 1; let old := g.unput b.now
   let x := (b.setYe e old).yeRead e .none 0 (Reg.MBn_STAT.addr c); let free := x.1.toNat % 32
   b.CanRun e (.post rd c ra n) ∧ len ≤ free) ∧
  (let t : Nat := 0; let e : Fin 4 := 3; let rd : Fin 16 := 0; let c : Fin 16 := 15; let ra : Fin 16 := 0
   let n : Fin 16 := 15
   let s : State := late |>.wr .MBn_BIND_END0 15 7 |>.wr .MBn_BIND_END1 15 3 |> runs 3 (.fetch rd c ra n); let b := s.enter t
   b.CanRun e (.fetch rd c ra n)) ∧
  (let t : Nat := 0; let e : Fin 4 := 3; let rd : Fin 16 := 0; let c : Fin 16 := 15; let ra : Fin 16 := 15
   let n : Fin 16 := 2
   let s : State := late.setYe 3 { late.engines[3] with g := Vector.replicate 16 1023 } |>.wr .MBn_BIND_END0 15 7 |>.wr .MBn_BIND_END1 15 3 |> runs 3 (.post rd c ra n)
   let b := s.enter t; let g := b.engines[e]; let q := (g.reg ra).toNat; let len := n.val + 1
   b.yeLive e = true ∧ b.breaks e = false ∧ b.atPc e = some (.post rd c ra n) ∧ 1024 ≤ q + (len + 1) / 2 - 1) ∧
  (let t : Nat := 0; let e : Fin 4 := 3; let rd : Fin 16 := 0; let c : Fin 16 := 15; let ra : Fin 16 := 15
   let n : Fin 16 := 15
   let s : State := late.setYe 3 { late.engines[3] with g := Vector.replicate 16 1016 } |>.wr .MBn_BIND_END0 15 0 |>.wr .MBn_BIND_END1 15 0 |> runs 3 (.post rd c ra n)
   let b := s.enter t; let g := b.engines[e]; let q := (g.reg ra).toNat; let len := n.val + 1
   b.yeLive e = true ∧ b.breaks e = false ∧ b.atPc e = some (.post rd c ra n) ∧ q + (len + 1) / 2 - 1 < 1024 ∧ b.boundTo e c = false) ∧
  (let t : Nat := 0; let e : Fin 4 := 3; let rd : Fin 16 := 0; let c : Fin 16 := 15; let ra : Fin 16 := 15
   let n : Fin 16 := 15
   let s : State := late.setYe 3 { late.engines[3] with g := Vector.replicate 16 1016 } |>.wr .MBn_BIND_END0 15 0 |>.wr .MBn_BIND_END1 15 0 |> runs 3 (.fetch rd c ra n)
   let b := s.enter t; let g := b.engines[e]; let q := (g.reg ra).toNat; let len := n.val + 1
   b.yeLive e = true ∧ b.breaks e = false ∧ b.atPc e = some (.fetch rd c ra n) ∧ q + (len + 1) / 2 - 1 < 1024 ∧ b.boundTo e c = false) := by
  refine ⟨?_, ?_, ?_, ?_, ?_, ?_⟩ <;> dsimp only [State.answers, State.CanRun, State.Calm, State.RunsOn, State.breakAt] <;> decide +kernel

/-- Hypotheses of YacorTnow, clause by clause. -/
theorem test_hyps_YacorTnow :
  (let t : Nat := 0; let e : Fin 4 := 3; let p : Fin 4 := 0; let rd : Fin 16 := 0; let ra : Fin 16 := 15
   let s : State := late.setYe 3 { late.engines[3] with g := Vector.replicate 16 1021 } |> runs 3 (.tnow rd p ra)
   let b := s.enter t
   b.reach .TODp_REC = true ∧ b.CanRun e (.tnow rd p ra)) ∧
  (let t : Nat := 0; let e : Fin 4 := 3; let p : Fin 4 := 0; let rd : Fin 16 := 0; let ra : Fin 16 := 15
   let s : State := late.setYe 3 { late.engines[3] with g := Vector.replicate 16 1022 } |> runs 3 (.tnow rd p ra)
   let b := s.enter t; let g := b.engines[e]; let q := (g.reg ra).toNat
   b.yeLive e = true ∧ b.breaks e = false ∧ b.atPc e = some (.tnow rd p ra) ∧ 1024 ≤ q + 2) := by
  refine ⟨?_, ?_⟩ <;> dsimp only [State.answers, State.CanRun, State.Calm, State.RunsOn, State.breakAt] <;> decide +kernel

/-- Hypotheses of YacorTraps, clause by clause. -/
theorem test_hyps_YacorTraps :
  (let t : Nat := 0; let e : Fin 4 := 3
   let s : State := late.setYe 3 { late.engines[3] with pc := 4095 } |>.wr .YEe_STAT_STATE 3 stRunning; let b := s.enter t
   let g := b.engines[e]
   b.yeLive e = true ∧ b.breaks e = false ∧ g.pc < 4096 ∧ yeDecode (g.imemAt g.pc) = none) ∧
  (let t : Nat := 0; let e : Fin 4 := 3; let i : YeInstr := .jmp 0
   let s : State := late |> runs 3 (.jmp 0) |>.wr .YEe_WDOG 3 1; let b := s.enter t; let g := b.engines[e]
   b.yeLive e = true ∧ b.atPc e = some i ∧ b.rd .YEe_WDOG e ≠ 0 ∧ g.wdFrom + b.rd .YEe_WDOG e * 1000000 ≤ b.now) ∧
  (let t : Nat := 0; let e : Fin 4 := 3; let due : Nat := 10
   let s : State := late.setYe 3 { late.engines[3] with restartAt := some 10 } |>.wr .YEe_STAT_STATE 3 stTrapped
   let b := s.enter t; let g := b.engines[e]
   b.yeState e = stTrapped ∧ g.restartAt = some due ∧ due ≤ b.now) ∧
  (let t : Nat := 0; let e : Fin 4 := 3; let due : Nat := 0
   let s : State := late |> runs 3 (.jmp 0) |>.wr .YEe_STAT_STATE 3 stTrapped |>.wr .YEe_STAT_STATE 3 stTrapped
   let b := s.enter t; let g := b.engines[e]
   b.yeState e = stTrapped ∧ (g.restartAt = none ∨ (g.restartAt = some due ∧ b.now < due))) ∧
  (let t : Nat := 0; let e : Fin 4 := 3; let s : State := late |> runs 3 (.jmp 0) |>.wr .YEe_BKPT_EN 3 1; let b := s.enter t
   b.breaks e = true) ∧
  (let t : Nat := 0; let e : Fin 4 := 3; let s : State := late; let b := s.enter t; let g := b.engines[e]
   g.trapAt + 60 * 1000000000000 ≤ b.now) := by
  refine ⟨?_, ?_, ?_, ?_, ?_, ?_⟩ <;> dsimp only [State.answers, State.CanRun, State.Calm, State.RunsOn, State.breakAt] <;> decide +kernel

/-- Hypotheses of YacorTimersAndLines, clause by clause. -/
theorem test_hyps_YacorTimersAndLines :
  (let t : Nat := 0; let e : Fin 4 := 3; let i : Fin 4 := 0
   let s : State := late.setYe 3 { late.engines[3] with timers := Vector.replicate 4 ⟨true, true, false, 1, 5, 0⟩ }
   let b := s.enter t; let g := b.engines[e]; let tm := g.timers[i]
   tm.run = true ∧ tm.expiry ≤ b.now) ∧
  (let t : Nat := 0; let m : Master := .pcie; let s : State := powered; let b := s.enter t
   b.answers m .YE_SWEV) := by
  refine ⟨?_, ?_⟩ <;> dsimp only [State.answers, State.CanRun, State.Calm, State.RunsOn, State.breakAt] <;> decide +kernel

/-- Hypotheses of YacorOverruns, clause by clause. -/
theorem test_hyps_YacorOverruns :
  (let t : Nat := 0; let c : Nat := 1; let e : Fin 4 := 3; let rd : Fin 16 := 0; let d : DevAddr := .abs 0
   let s : State := late |> runs 3 (.rdd rd d); let b := s.enter t
   b.CanRun e (.rdd rd d) ∧ 0 < c ∧ c ≤ 4000) ∧
  (let t : Nat := 0; let e : Fin 4 := 3; let rd : Fin 16 := 0; let d : DevAddr := .abs 0
   let s : State := powered |> runs 3 (.rdd rd d); let b := s.enter t
   b.CanRun e (.rdd rd d)) ∧
  (let t : Nat := 0; let m : Master := .pcie; let s : State := powered; let b := s.enter t
   b.answers m .YEe_DETLOSS) := by
  refine ⟨?_, ?_, ?_⟩ <;> dsimp only [State.answers, State.CanRun, State.Calm, State.RunsOn, State.breakAt] <;> decide +kernel

/-- Hypotheses of YacorCommandPrecedence, clause by clause. -/
theorem test_hyps_YacorCommandPrecedence :
  (let v : Word := 15
   v.getLsbD 3 = true) ∧
  (let v : Word := 7
   v.getLsbD 3 = false ∧ v.getLsbD 1 = true) ∧
  (let v : Word := 5
   v.getLsbD 3 = false ∧ v.getLsbD 1 = false ∧ v.getLsbD 2 = true) ∧
  (let v : Word := 31
   v.getLsbD 4 = true) := by
  refine ⟨?_, ?_, ?_, ?_⟩ <;> dsimp only [State.answers, State.CanRun, State.Calm, State.RunsOn, State.breakAt] <;> decide +kernel

/-- Hypotheses of YacorCommands, clause by clause. -/
theorem test_hyps_YacorCommands :
  (let t : Nat := 0; let m : Master := .pcie; let e : Fin 4 := 3
   let s : State := late |>.wr .YEe_STAT_SIG 3 2 |>.wr .YEe_STAT_STATE 3 stReset; let b := s.enter t; let st := b.yeState e
   b.answers m .YEe_CTRL ∧ st = stReset ∧ b.yeMayStart e = true) ∧
  (let t : Nat := 0; let m : Master := .pcie; let e : Fin 4 := 3
   let s : State := late |>.wr .YE_POLICY_SIGN_REQ 0 1 |>.wr .YEe_STAT_STATE 3 stReset; let b := s.enter t
   let st := b.yeState e
   b.answers m .YEe_CTRL ∧ st = stReset ∧ b.yeMayStart e = false) ∧
  (let t : Nat := 0; let m : Master := .pcie; let e : Fin 4 := 3; let s : State := late.wr .YEe_STAT_STATE 3 stTrapped
   let b := s.enter t; let st := b.yeState e
   b.answers m .YEe_CTRL ∧ (st = stHalted ∨ st = stTrapped)) ∧
  (let t : Nat := 0; let m : Master := .pcie; let e : Fin 4 := 3; let s : State := late.wr .YEe_STAT_STATE 3 stWaiting
   let b := s.enter t; let st := b.yeState e
   b.answers m .YEe_CTRL ∧ (st = stRunning ∨ st = stWaiting)) ∧
  (let t : Nat := 0; let m : Master := .pcie; let e : Fin 4 := 3; let i : YeInstr := .add 1 2 3
   let s : State := late |> runs 3 (.add 1 2 3) |>.wr .YEe_STAT_STATE 3 stHalted; let b := s.enter t; let st := b.yeState e
   b.answers m .YEe_CTRL ∧ (st = stHalted ∨ st = stTrapped) ∧ b.atPc e = some i ∧ i.slots = 0 ∧ b.trapOf e i false = none ∧
     (∀ rd ra tm, i ≠ .waitev rd ra tm)) ∧
  (let t : Nat := 0; let m : Master := .pcie; let e : Fin 4 := 3; let s : State := late.wr .YEe_STAT_STATE 3 stHalted
   let b := s.enter t; let g := b.engines[e]; let st := b.yeState e
   b.answers m .YEe_CTRL ∧ (st = stHalted ∨ st = stTrapped) ∧ g.pc < 4096) ∧
  (let t : Nat := 0; let m : Master := .pcie; let e : Fin 4 := 3
   let s : State := late |>.wr .YE_POLICY_SIGN_REQ 0 1 |>.wr .YEe_STAT_STATE 3 stReset; let b := s.enter t
   let st := b.yeState e
   b.answers m .YEe_CTRL ∧ st = stReset ∧ b.yeMayStart e = false) ∧
  (let t : Nat := 0; let m : Master := .pcie; let s : State := powered; let b := s.enter t
   b.answers m .YEe_CTRL) ∧
  (let t : Nat := 0; let m : Master := .pcie; let e : Fin 4 := 3; let s : State := late; let b := s.enter t
   let st := b.yeState e
   b.answers m .YEe_CTRL ∧ (st = stReset ∨ st = stHalted)) ∧
  (let t : Nat := 0; let m : Master := .pcie; let e : Fin 4 := 3; let s : State := late.wr .YEe_STAT_STATE 3 stRunning
   let b := s.enter t; let st := b.yeState e
   b.answers m .YEe_CTRL ∧ st ≠ stReset ∧ st ≠ stHalted) := by
  refine ⟨?_, ?_, ?_, ?_, ?_, ?_, ?_, ?_, ?_, ?_⟩
  · dsimp only [State.answers]; refine ⟨by decide +kernel, by decide +kernel, ?_⟩; rw [State.yeMayStart, Bool.or_eq_true]; exact Or.inr (by decide +kernel)
  · dsimp only [State.answers]; refine ⟨by decide +kernel, by decide +kernel, ?_⟩; rw [State.yeMayStart, State.signReq, Bool.or_eq_false_iff, Bool.not_eq_false', Bool.or_eq_true]; exact ⟨Or.inr (by decide +kernel), by decide +kernel⟩
  · dsimp only [State.answers, State.CanRun, State.Calm, State.RunsOn, State.breakAt]; decide +kernel
  · dsimp only [State.answers, State.CanRun, State.Calm, State.RunsOn, State.breakAt]; decide +kernel
  · dsimp only [State.answers]; refine ⟨by decide +kernel, by decide +kernel, by decide +kernel, by decide +kernel, by decide +kernel, ?_⟩; simp
  · dsimp only [State.answers, State.CanRun, State.Calm, State.RunsOn, State.breakAt]; decide +kernel
  · dsimp only [State.answers]; refine ⟨by decide +kernel, by decide +kernel, ?_⟩; rw [State.yeMayStart, State.signReq, Bool.or_eq_false_iff, Bool.not_eq_false', Bool.or_eq_true]; exact ⟨Or.inr (by decide +kernel), by decide +kernel⟩
  · dsimp only [State.answers, State.CanRun, State.Calm, State.RunsOn, State.breakAt]; decide +kernel
  · dsimp only [State.answers, State.CanRun, State.Calm, State.RunsOn, State.breakAt]; decide +kernel
  · dsimp only [State.answers, State.CanRun, State.Calm, State.RunsOn, State.breakAt]; decide +kernel

/-- Hypotheses of YacorMemoriesFromOutside, clause by clause. -/
theorem test_hyps_YacorMemoriesFromOutside :
  (let t : Nat := 0; let e : Fin 4 := 3; let s : State := late.wr .DEV_STATE_KEEPER 0 1 |>.wr .YEe_STAT_SIG 3 1
   let b := s.enter t
   b.keeperRuns = true ∧ b.rd .YEe_STAT_SIG e = 1) ∧
  (let t : Nat := 0; let m : Master := .pcie; let e : Fin 4 := 3; let s : State := powered; let b := s.enter t
   let st := b.yeState e
   b.answers m .YEe_CTRL ∧ sysMaster m = true ∧ (st = stReset ∨ st = stHalted ∨ st = stTrapped) ∧ b.answers m .YEe_PC) ∧
  (let t : Nat := 0; let m : Master := .pcie; let e : Fin 4 := 3; let s : State := late.wr .YEe_STAT_STATE 3 stWaiting
   let b := s.enter t; let st := b.yeState e
   b.answers m .YEe_CTRL ∧ sysMaster m = true ∧ st ≠ stReset ∧ st ≠ stHalted ∧ st ≠ stTrapped) ∧
  (let t : Nat := 0; let m : Master := .pcie; let e : Fin 4 := 3; let s : State := powered; let b := s.enter t
   b.answers m .YEe_PC ∧ b.yeWritable e = false) := by
  refine ⟨?_, ?_, ?_, ?_⟩
  · dsimp only [State.answers, State.CanRun, State.Calm, State.RunsOn, State.breakAt]; decide +kernel
  · dsimp only [State.answers, State.CanRun, State.Calm, State.RunsOn, State.breakAt]; decide +kernel
  · dsimp only [State.answers, State.CanRun, State.Calm, State.RunsOn, State.breakAt]; decide +kernel
  · dsimp only [State.answers]; refine ⟨by decide +kernel, ?_⟩; rw [State.yeWritable, Bool.and_eq_false_iff]; exact Or.inr (by decide +kernel)

/-- Hypotheses of FaultRecording, clause by clause. -/
theorem test_hyps_FaultRecording :
  (let t : Nat := 0; let src : Fin 64 := 63; let s : State := powered.wr .FLT_LVL 63 0; let b := s.enter t
   let dflt := min 4 (b.rd .FLT_LVL src)
   dflt = 0) ∧
  (let t : Nat := 0; let src : Fin 64 := 3; let s : State := powered; let b := s.enter t
   let fires := b.boot.supplies = true ∧ ¬ (src.val = 20 ∧ b.rd .DEV_STATE_KEEPER = kpRecovery)
   let dflt := min 4 (b.rd .FLT_LVL src)
   dflt ≠ 0 ∧ fires ∧ b.records src = true) ∧
  (let t : Nat := 0; let src : Fin 64 := 2; let o := (⟨2, 1, false, false, none⟩ : OpenFault)
   let s : State := { powered with faults := { powered.faults with open_ := [⟨2, 1, false, false, none⟩] } }
   let b := s.enter t; let dflt := min 4 (b.rd .FLT_LVL src)
   dflt ≠ 0 ∧ o ∈ b.faults.open_ ∧ o.inj = false ∧ faultClass o.src = faultClass src) ∧
  (let t : Nat := 0; let src : Fin 64 := 3
   let s : State := { powered with faults := { powered.faults with windows := [⟨[3], none, none, 2, 0, false, 0⟩] } }
   let b := s.enter t; let fires := b.boot.supplies = true ∧ ¬ (src.val = 20 ∧ b.rd .DEV_STATE_KEEPER = kpRecovery)
   fires ∧ b.windowsOver src ≠ [] ∧ b.bitOf .FLT_MASK 0 src = false) ∧
  (let t : Nat := 0; let src : Fin 64 := 3; let s : State := powered.wr .FLT_MASK 0 8; let b := s.enter t
   let fires := b.boot.supplies = true ∧ ¬ (src.val = 20 ∧ b.rd .DEV_STATE_KEEPER = kpRecovery)
   (¬ fires ∨ (b.bitOf .FLT_MASK 0 src = true ∧ faultNM src = false))) ∧
  (let t : Nat := 0; let m : Master := .keeper; let s : State := powered; let b := s.enter t
   b.answers m .FLT_SWRAISE ∧ m = .keeper ∧ b.records 63 = true) ∧
  (let t : Nat := 0; let m : Master := .pcie; let s : State := powered; let b := s.enter t
   b.answers m .FLT_SWRAISE ∧ m ≠ .keeper) := by
  refine ⟨?_, ?_, ?_, ?_, ?_, ?_, ?_⟩ <;> dsimp only [State.answers, State.CanRun, State.Calm, State.RunsOn, State.breakAt] <;> decide +kernel

/-- Hypotheses of Reactions, clause by clause. -/
theorem test_hyps_Reactions :
  (let t : Nat := 0; let src : Fin 64 := 2; let s : State := powered; let b := s.enter t; let r := faultReaction src
   let fires := b.boot.supplies = true ∧ ¬ (src.val = 20 ∧ b.rd .DEV_STATE_KEEPER = kpRecovery) ∧ b.records src = true
   fires ∧ r ≠ .none) ∧
  (let t : Nat := 0; let src : Fin 64 := 2; let inst : Byte := 0; let s : State := powered; let b := s.enter t
   let w := b.windowOf src inst.toNat
   w = none) ∧
  (let t : Nat := 0; let src : Fin 64 := 2; let inst : Byte := 0; let x := ⟨[3], some 5, none, 2, 0, false, 0⟩; let e := 5
   let s : State := { powered with faults := { powered.faults with windows := [⟨[3], some 5, none, 2, 0, false, 0⟩] } }
   let b := s.enter t; let w := b.windowOf src inst.toNat
   let lasts := fun (z : MaskWindow) => z.until_.any (fun e => decide (b.now + 2000000 < e)) = true
   let others := ∃ z ∈ b.faults.windows, z.reaction ≠ src.val ∧ faultReaction z.reaction = .mcpRestart ∧ lasts z
   w = some x ∧ x.until_ = some e ∧ e ≤ b.now + 2000000 ∧ (¬ others)) ∧
  (let t : Nat := 0; let src : Fin 64 := 2; let inst : Byte := 0; let x := ⟨[50], some 5000000, some 0, 2, 0, false, 0⟩
   let s : State := { powered with faults := { powered.faults with windows := [⟨[50], some 5000000, some 0, 2, 0, false, 0⟩] } }
   let b := s.enter t; let w := b.windowOf src inst.toNat
   let lasts := fun (z : MaskWindow) => z.until_.any (fun e => decide (b.now + 2000000 < e)) = true
   w = some x ∧ lasts x) ∧
  (let t : Nat := 0; let src : Fin 64 := 20
   let s : State := { powered with faults := { powered.faults with windows := [⟨[9], some 5000000, none, 17, 0, false, 0⟩] } }
   let b := s.enter t; let r := faultReaction src
   let lasts := fun (z : MaskWindow) => z.until_.any (fun e => decide (b.now + 2000000 < e)) = true
   let others := ∃ z ∈ b.faults.windows, z.reaction ≠ src.val ∧ faultReaction z.reaction = .mcpRestart ∧ lasts z
   r = .mcpRestart ∧ others) := by
  refine ⟨?_, ?_, ?_, ?_, ?_⟩ <;> dsimp only [State.answers, State.CanRun, State.Calm, State.RunsOn, State.breakAt] <;> decide +kernel

/-- Hypotheses of FaultControl, clause by clause. -/
theorem test_hyps_FaultControl :
  (let t : Nat := 0; let src : Fin 64 := 2; let inj : Bool := false
   let s : State := { late with faults := { powered.faults with open_ := [⟨2, 3, false, false, some 0⟩] } }
   let b := s.enter t
   (∃ o ∈ b.faults.open_, o.src = src ∧ o.inj = inj ∧ ∃ g, o.grace = some g ∧ g + b.gracePs ≤ b.now)) ∧
  (let t : Nat := 0; let src : Fin 64 := 0; let inj : Bool := false; let s : State := powered; let b := s.enter t
   (∀ o ∈ b.faults.open_, o.src = src → o.inj = inj → ∀ g, o.grace = some g → b.now < g + b.gracePs)) ∧
  (let t : Nat := 0; let s : State := { late with faults := { late.faults with quietFrom := some 0 } }; let b := s.enter t
   b.quietOver = true) ∧
  (let t : Nat := 0; let m : Master := .pcie; let s : State := powered; let b := s.enter t
   b.quietOver = false ∧ b.answers m .FLT_ACK ∧ b.answers m .FLT_INJECT ∧ sysMaster m = true ∧ b.answers m .FLT_FIRST) ∧
  (let t : Nat := 0; let m : Master := .pcie; let s : State := powered; let b := s.enter t
   let nearly := fun (o : OpenFault) => ∃ g, o.grace = some g ∧ sameCycle (g + b.gracePs) b.now = true
   let due := fun (o : OpenFault) => ∃ g, o.grace = some g ∧ g + b.gracePs ≤ b.now
   b.answers m .FLT_ACK ∧ sysMaster m = true ∧ (∀ o ∈ b.faults.open_, ¬ due o ∧ ¬ nearly o)) ∧
  (let t : Nat := 0; let m : Master := .pcie; let o := ⟨2, 3, false, false, some (10 ^ 18 - 100000000)⟩
   let g := 10 ^ 18 - 100000000
   let s : State := { late with faults := { powered.faults with open_ := [⟨2, 3, false, false, some (10 ^ 18 - 100000000)⟩] } } |>.wr .FLT_GRACE 0 0
   let b := s.enter t
   b.answers m .FLT_ACK ∧ sysMaster m = true ∧ o ∈ b.faults.open_ ∧ o.grace = some g ∧ sameCycle (g + b.gracePs) b.now = true) ∧
  (let t : Nat := 0; let m : Master := .ye 3; let s : State := powered; let b := s.enter t
   b.answers m .FLT_ACK ∧ sysMaster m = false ∧ b.answers m .FLT_INJECT) := by
  refine ⟨?_, ?_, ?_, ?_, ?_, ?_, ?_⟩
  · dsimp only; exact ⟨⟨2, 3, false, false, some 0⟩, by decide +kernel, rfl, rfl, 0, rfl, by decide +kernel⟩
  · dsimp only; simp [show (powered.enter 0).faults.open_ = [] from by decide +kernel]
  · dsimp only [State.answers, State.CanRun, State.Calm, State.RunsOn, State.breakAt]; decide +kernel
  · dsimp only [State.answers, State.CanRun, State.Calm, State.RunsOn, State.breakAt]; decide +kernel
  · dsimp only [State.answers, State.CanRun, State.Calm, State.RunsOn, State.breakAt]; decide +kernel
  · dsimp only [State.answers, State.CanRun, State.Calm, State.RunsOn, State.breakAt]; decide +kernel
  · dsimp only [State.answers, State.CanRun, State.Calm, State.RunsOn, State.breakAt]; decide +kernel

/-- Hypotheses of EventPath, clause by clause. -/
theorem test_hyps_EventPath :
  (let t : Nat := 0; let src : Nat := 5; let h := (5, 10 ^ 18); let r := ⟨5, 1, false, false, 1, TimeRec.zero, TimeRec.zero⟩
   let s : State := ({ late with events := { late.events with holds := [(5, 10 ^ 18)], logs := [⟨5, 1, false, false, 1, TimeRec.zero, TimeRec.zero⟩] } } : State).wr .EVR_COAL 0 1
   let b := s.enter t
   b.events.holds.find? (fun h => h.1 == src) = some h ∧ b.events.logs.find? (fun r => r.src == src) = some r ∧
     b.now < h.2 + b.rd .EVR_COAL * 1000000000) ∧
  (let t : Nat := 0; let src : Nat := 5; let h := (5, 10 ^ 18); let r := ⟨5, 1, false, false, 1, TimeRec.zero, TimeRec.zero⟩
   let s : State := ({ late with events := { late.events with holds := [(5, 10 ^ 18)], logs := [⟨5, 1, false, false, 1, TimeRec.zero, TimeRec.zero⟩] } } : State).wr .EVR_COAL 0 0
   let b := s.enter t
   b.events.holds.find? (fun h => h.1 == src) = some h ∧ b.events.logs.find? (fun r => r.src == src) = some r ∧
     h.2 + b.rd .EVR_COAL * 1000000000 ≤ b.now ∧ b.logFits = true) ∧
  (let t : Nat := 0; let src : Nat := 5; let h := (5, 10 ^ 18); let r := ⟨5, 1, false, false, 1, TimeRec.zero, TimeRec.zero⟩
   let s : State := ({ late with events := { late.events with holds := [(5, 10 ^ 18)], logs := [⟨5, 1, false, false, 1, TimeRec.zero, TimeRec.zero⟩] } } : State) |>.wr .EVR_COAL 0 0 |>.wr .SHED_STATE_STAGE 0 2
   let b := s.enter t
   b.events.holds.find? (fun h => h.1 == src) = some h ∧ b.events.logs.find? (fun r => r.src == src) = some r ∧
     h.2 + b.rd .EVR_COAL * 1000000000 ≤ b.now ∧ b.logFits = false) ∧
  (let t : Nat := 0; let ok : Bool := true; let e := ⟨.alarm, Vector.replicate 8 0⟩
   let s : State := { linked with events := { linked.events with ring := [⟨.alarm, Vector.replicate 8 0⟩] } } |>.wr .EVR_HCFG_EN 0 1
   let b := s.enter t
   b.bit .EVR_HCFG_EN = true ∧ b.dmaOpen = true ∧ b.evrNext = some e ∧ ok = true) ∧
  (let t : Nat := 0; let ok : Bool := false; let e := ⟨.alarm, Vector.replicate 8 0⟩
   let s : State := { linked with events := { linked.events with ring := [⟨.alarm, Vector.replicate 8 0⟩] } } |>.wr .EVR_HCFG_EN 0 1
   let b := s.enter t
   b.bit .EVR_HCFG_EN = true ∧ b.dmaOpen = true ∧ b.evrNext = some e ∧ ok = false) ∧
  (let t : Nat := 0; let m : Master := .pcie; let c : EvrCounter := .mergeAlarm; let s : State := powered; let b := s.enter t
   let ring := b.events.ring
   (b.bit .EVR_HCFG_EN = false ∨ b.dmaOpen = false ∨ b.evrNext = none) ∧ b.answers m .EVR_ENTRY ∧ (b.bit .EVR_HCFG_EN = true ∨ ring = []) ∧
     b.answers m (evrCounterReg c)) ∧
  (let t : Nat := 0
   let s : State := { late with events := { late.events with unsignalled := 1 } } |>.wr .EVR_HCFG_IRQ_EN 0 1 |>.wr .EVR_HIRQ_TIME 0 1
   let b := s.enter t
   b.bit .EVR_HCFG_IRQ_EN = true ∧ b.rd .EVR_HIRQ_TIME ≠ 0 ∧ 0 < b.events.unsignalled ∧ b.events.firstAt + b.rd .EVR_HIRQ_TIME * 1000000 ≤ b.now) ∧
  (let t : Nat := 0
   let s : State := { late with events := { late.events with unsignalled := 1, firstAt := 10 ^ 18 } } |>.wr .EVR_HCFG_IRQ_EN 0 1 |>.wr .EVR_HIRQ_TIME 0 1
   let b := s.enter t
   b.bit .EVR_HCFG_IRQ_EN = true ∧ b.rd .EVR_HIRQ_TIME ≠ 0 ∧ 0 < b.events.unsignalled ∧ b.now < b.events.firstAt + b.rd .EVR_HIRQ_TIME * 1000000) ∧
  (let t : Nat := 0; let m : Master := .pcie; let e := ⟨.alarm, Vector.replicate 8 0⟩
   let s : State := { linked with events := { linked.events with ring := [⟨.alarm, Vector.replicate 8 0⟩] } } |>.wr .EVR_HCFG_EN 0 0
   let b := s.enter t; let ring := b.events.ring
   let first := match ring.find? (fun e => e.cls == .alarm) with  | some e => some e  | none => ring.head?
   b.answers m .EVR_ENTRY ∧ b.bit .EVR_HCFG_EN = false ∧ first = some e) := by
  refine ⟨?_, ?_, ?_, ?_, ?_, ?_, ?_, ?_, ?_⟩ <;> dsimp only [State.answers, State.CanRun, State.Calm, State.RunsOn, State.breakAt] <;> decide +kernel

/-- Hypotheses of ClockFaults, clause by clause. -/
theorem test_hyps_ClockFaults :
  (let t : Nat := 0; let i : Fin 3 := 0; let m : Master := .pcie; let k : Fin 4 := 0; let s : State := powered
   let b := s.enter t; let counts := b.monArmed i = true ∧ b.monSuspended i = false
   b.boot.supplies = true ∧ counts ∧ b.answers m .CLK_CTRL ∧ b.bitOf .CLK_STAT_COAST 0 k = false ∧ b.records 11 = true) ∧
  (let t : Nat := 0; let s : State := powered |>.wr .XO_STAT_COARSE 0 1 |>.wr .XO_MON_LOST 0 0; let b := s.enter t
   b.rd .XO_STAT_COARSE = 1 ∧ b.bit .XO_MON_LOST = false) ∧
  (let t : Nat := 0; let i : Fin 3 := 0; let s : State := State.reset; let b := s.enter t
   let counts := b.monArmed i = true ∧ b.monSuspended i = false
   (¬ counts)) ∧
  (let t : Nat := 0; let s : State := powered.wr .FLT_MASK 0 2048; let b := s.enter t
   b.records 11 = false) := by
  refine ⟨?_, ?_, ?_, ?_⟩ <;> dsimp only [State.answers, State.CanRun, State.Calm, State.RunsOn, State.breakAt] <;> decide +kernel

/-- Hypotheses of PowerStates, clause by clause. -/
theorem test_hyps_PowerStates :
  (let t : Nat := 0; let k : Fin 4 := 0; let idle : Bool := true; let s : State := powered.wr .PWR_STATE_STATE 0 2
   let b := s.enter t; let c := gateCode k; let woke := ∃ a, b.clk.wokeAt[Fin.ofNat 8 c] = some a ∧ sameCycle a b.now = true
   let may := 2 ≤ b.rd .PWR_STATE_STATE ∧ b.islandIdle c = true ∧ b.gated c = false ∧ ¬ woke
   may ∧ idle = true ∧ b.stepping c = false) ∧
  (let t : Nat := 0; let k : Fin 4 := 0; let idle : Bool := false; let s : State := powered.wr .PWR_STATE_STATE 0 2
   let b := s.enter t; let c := gateCode k; let woke := ∃ a, b.clk.wokeAt[Fin.ofNat 8 c] = some a ∧ sameCycle a b.now = true
   let may := 2 ≤ b.rd .PWR_STATE_STATE ∧ b.islandIdle c = true ∧ b.gated c = false ∧ ¬ woke
   may ∧ (idle = false ∨ b.stepping c = true)) ∧
  (let t : Nat := 0; let k : Fin 4 := 0; let s : State := powered; let b := s.enter t; let c := gateCode k
   let woke := ∃ a, b.clk.wokeAt[Fin.ofNat 8 c] = some a ∧ sameCycle a b.now = true
   let may := 2 ≤ b.rd .PWR_STATE_STATE ∧ b.islandIdle c = true ∧ b.gated c = false ∧ ¬ woke
   (¬ may)) ∧
  (let t : Nat := 0; let k : Fin 4 := 0
   let s : State := late.setClk { late.clk with gating := 0xFFFF } |>.wr .PWR_STATE_STATE 0 2 |>.wr .CLK_CTRL_SSC 0 0
   let b := s.enter t; let c := gateCode k; let woke := ∃ a, b.clk.wokeAt[Fin.ofNat 8 c] = some a ∧ sameCycle a b.now = true
   let overdue := b.clk.gating.testBit c = true ∧ 64 ≤ b.cyclesOf c b.clk.gatingAt[Fin.ofNat 8 c] b.now ∧ 2 ≤ b.rd .PWR_STATE_STATE ∧
     b.islandIdle c = true ∧ b.stepping c = false ∧ ¬ woke
   overdue) ∧
  (let t : Nat := 0; let k : Fin 4 := 0; let s : State := powered; let b := s.enter t; let c := gateCode k
   let woke := ∃ a, b.clk.wokeAt[Fin.ofNat 8 c] = some a ∧ sameCycle a b.now = true
   let overdue := b.clk.gating.testBit c = true ∧ 64 ≤ b.cyclesOf c b.clk.gatingAt[Fin.ofNat 8 c] b.now ∧ 2 ≤ b.rd .PWR_STATE_STATE ∧
     b.islandIdle c = true ∧ b.stepping c = false ∧ ¬ woke
   (¬ overdue)) ∧
  (let t : Nat := 0; let k : Fin 4 := 0; let s : State := powered.wr .CLK_GATE_GATED 0 0xFFFF; let b := s.enter t
   let c := gateCode k; let dormant := b.gated c = true ∨ b.clk.gating.testBit c = true
   dormant) ∧
  (let t : Nat := 0; let k : Fin 4 := 0; let s : State := powered; let b := s.enter t; let c := gateCode k
   let dormant := b.gated c = true ∨ b.clk.gating.testBit c = true
   (¬ dormant)) ∧
  (let t : Nat := 0; let s : State := powered |>.wr .PWR_KTIMER 0 0 |>.wr .CLK_GATE_GATED 0 0xFFFF; let b := s.enter t
   b.ktimer = some 0 ∧ (b.gated 4 = true ∨ b.clk.gating.testBit 4 = true)) ∧
  (let t : Nat := 0; let s : State := powered; let b := s.enter t
   b.ktimer ≠ some 0) ∧
  (let t : Nat := 0; let m : Master := .keeper; let s : State := powered; let b := s.enter t
   b.answers m .PWR_MGT_DVFS ∧ m = .keeper) ∧
  (let t : Nat := 0; let m : Master := .pcie; let s : State := powered; let b := s.enter t
   b.answers m .PWR_MGT_DVFS ∧ m ≠ .keeper) ∧
  (let t : Nat := 0; let p := 3; let s : State := late.setClk { late.clk with step := some 3 }; let b := s.enter t
   b.clk.step = some p ∧ p < 4 ∧ b.clk.stepAt + 10000000 ≤ b.now) ∧
  (let t : Nat := 0; let p := 3; let s : State := late.setTok { late.tok with step := some 3 }; let b := s.enter t
   b.tok.step = some p ∧ p < 4 ∧ b.tok.stepAt + 10000000 ≤ b.now) ∧
  (let t : Nat := 0; let s : State := late.setClk { late.clk with step := some 3, stepAt := 10 ^ 18 }; let b := s.enter t
   (b.clk.step = none ∨ b.now < b.clk.stepAt + 10000000)) ∧
  (let t : Nat := 0; let s : State := late.setTok { late.tok with step := some 3, stepAt := 10 ^ 18 }; let b := s.enter t
   (b.tok.step = none ∨ b.now < b.tok.stepAt + 10000000)) ∧
  (let t : Nat := 0; let s : State := powered; let b := s.enter t
   b.boot.supplies = true ∧ b.boot.keep = false) ∧
  (let t : Nat := 0; let k : Fin 4 := 0; let s : State := powered.wr .CLK_CTRL_SSC 0 0; let b := s.enter t
   let c := gateCode k
   b.bitOf .CLK_CTRL_SSC 0 (spreadBit c) = false) ∧
  (let t : Nat := 0; let k : Fin 4 := 0; let s : State := powered.wr .CLK_CTRL_SSC 0 15; let b := s.enter t
   let c := gateCode k
   b.bitOf .CLK_CTRL_SSC 0 (spreadBit c) = true) := by
  refine ⟨?_, ?_, ?_, ?_, ?_, ?_, ?_, ?_, ?_, ?_, ?_, ?_, ?_, ?_, ?_, ?_, ?_, ?_⟩
  · dsimp only; refine ⟨⟨by decide +kernel, by decide +kernel, by decide +kernel, fun ⟨a, h, _⟩ => absurd (h.symm.trans (by decide +kernel : _ = none)) (by simp)⟩, by decide +kernel, by decide +kernel⟩
  · dsimp only; refine ⟨⟨by decide +kernel, by decide +kernel, by decide +kernel, fun ⟨a, h, _⟩ => absurd (h.symm.trans (by decide +kernel : _ = none)) (by simp)⟩, by decide +kernel⟩
  · dsimp only; exact fun h => absurd h.1 (by decide +kernel)
  · dsimp only; exact ⟨by decide +kernel, by decide +kernel, by decide +kernel, by decide +kernel, by decide +kernel, fun ⟨a, h, _⟩ => absurd (h.symm.trans (by decide +kernel : _ = none)) (by simp)⟩
  · dsimp only; exact fun h => absurd h.1 (by decide +kernel)
  · dsimp only [State.answers, State.CanRun, State.Calm, State.RunsOn, State.breakAt]; decide +kernel
  · dsimp only [State.answers, State.CanRun, State.Calm, State.RunsOn, State.breakAt]; decide +kernel
  · dsimp only [State.answers, State.CanRun, State.Calm, State.RunsOn, State.breakAt]; decide +kernel
  · dsimp only [State.answers, State.CanRun, State.Calm, State.RunsOn, State.breakAt]; decide +kernel
  · dsimp only [State.answers, State.CanRun, State.Calm, State.RunsOn, State.breakAt]; decide +kernel
  · dsimp only [State.answers, State.CanRun, State.Calm, State.RunsOn, State.breakAt]; decide +kernel
  · dsimp only [State.answers, State.CanRun, State.Calm, State.RunsOn, State.breakAt]; decide +kernel
  · dsimp only [State.answers, State.CanRun, State.Calm, State.RunsOn, State.breakAt]; decide +kernel
  · dsimp only [State.answers, State.CanRun, State.Calm, State.RunsOn, State.breakAt]; decide +kernel
  · dsimp only [State.answers, State.CanRun, State.Calm, State.RunsOn, State.breakAt]; decide +kernel
  · dsimp only [State.answers, State.CanRun, State.Calm, State.RunsOn, State.breakAt]; decide +kernel
  · dsimp only [State.answers, State.CanRun, State.Calm, State.RunsOn, State.breakAt]; decide +kernel
  · dsimp only [State.answers, State.CanRun, State.Calm, State.RunsOn, State.breakAt]; decide +kernel

/-- Hypotheses of SheddingAndRails, clause by clause. -/
theorem test_hyps_SheddingAndRails :
  (let t : Nat := 0; let core : Nat := 0; let dvs : Nat := 0; let ana : Nat := 0; let rail : Fin 3 := 2; let mv : Nat := 1619
   let s : State := powered; let b := s.enter t; let old := b.rd .SHED_STATE_STAGE
   let above := fun (r x : Nat) => shedThreshold r old + shedHyst r < x
   let mayLeave := old ≠ 0 ∧ above 0 core ∧ above 1 dvs ∧ above 2 ana ∧ b.clk.shedAt + b.shedExitPs ≤ b.now
   b.boot.supplies = true ∧ (¬ mayLeave) ∧ mv < shedThreshold rail 6) ∧
  (let t : Nat := 0; let core : Nat := 753; let dvs : Nat := 894; let ana : Nat := 1693
   let s : State := late.wr .SHED_STATE_STAGE 0 5; let b := s.enter t; let old := b.rd .SHED_STATE_STAGE
   let above := fun (r x : Nat) => shedThreshold r old + shedHyst r < x
   let mayLeave := old ≠ 0 ∧ above 0 core ∧ above 1 dvs ∧ above 2 ana ∧ b.clk.shedAt + b.shedExitPs ≤ b.now
   mayLeave) ∧
  (let t : Nat := 0; let rail : Fin 3 := 2; let mv : Nat := 1620; let s : State := powered; let b := s.enter t
   (b.boot.supplies = false ∨ shedThreshold rail 6 ≤ mv)) ∧
  (let t : Nat := 0; let g : Fin 16 := 15; let level : Bool := true; let s : State := late.wr .PWR_GPIO_FILTg 15 65535
   let b := s.enter t
   b.bit .GPIO_FUNCg_IN g ≠ level ∧ b.clk.gpioAt[g] + b.rd .PWR_GPIO_FILTg g * 10000 ≤ b.now) ∧
  (let t : Nat := 0; let g : Fin 16 := 15; let level : Bool := false; let s : State := powered; let b := s.enter t
   (b.bit .GPIO_FUNCg_IN g = level ∨ b.now < b.clk.gpioAt[g] + b.rd .PWR_GPIO_FILTg g * 10000)) ∧
  (let t : Nat := 0; let m : Master := .pcie; let mv : Nat := 0; let low : Nat := 0; let s : State := powered
   let b := s.enter t
   b.answers m .PWR_RAIL ∧ low ≤ mv) := by
  refine ⟨?_, ?_, ?_, ?_, ?_, ?_⟩ <;> dsimp only [State.answers, State.CanRun, State.Calm, State.RunsOn, State.breakAt] <;> decide +kernel

/-- Hypotheses of CalibrationRun, clause by clause. -/
theorem test_hyps_CalibrationRun :
  (let t : Nat := 0; let m : Master := .pcie; let v : Word := 0; let s : State := powered; let b := s.enter t
   let busy := b.bit .CAL_STATE_RUN = true ∨ b.bit .XO_MON_LOST = true ∨ b.boot.otpBad = true ∨ b.apllLocked 0 = false ∨ b.apllLocked 1 = false ∨ ∃ p : Fin 4, b.bit .PLn_CTRL_EN p = true ∧ (b.rd .PLn_STATE_STATE p = 1 ∨ b.rd .PLn_STATE_STATE p = 2) ∧ (srcCode (b.rd .PLn_REFSEL_SRC p) ≤ 15 ∨ srcCode (b.rd .PLn_REFSEL_SRC p) = 20)
   let phase := b.rd .CAL_STATE_PHASE
   b.answers m .CAL_CTRL ∧ fieldOf .CAL_CTRL_ABORT v = 0 ∧ sysMaster m = true ∧ busy ∧ phase ≠ 2 ∧
     (phase ≠ 5 ∨ b.now < b.cal.phaseAt + 340000000000 * b.dtcCount)) ∧
  (let t : Nat := 0; let m : Master := .pcie; let v : Word := 0
   let s : State := powered |>.wr .APLLx_STAT_STATE 0 3 |>.wr .APLLx_STAT_STATE 1 3 |>.wr .XO_MON_LOST 0 0
   let b := s.enter t
   let busy := b.bit .CAL_STATE_RUN = true ∨ b.bit .XO_MON_LOST = true ∨ b.boot.otpBad = true ∨ b.apllLocked 0 = false ∨ b.apllLocked 1 = false ∨ ∃ p : Fin 4, b.bit .PLn_CTRL_EN p = true ∧ (b.rd .PLn_STATE_STATE p = 1 ∨ b.rd .PLn_STATE_STATE p = 2) ∧ (srcCode (b.rd .PLn_REFSEL_SRC p) ≤ 15 ∨ srcCode (b.rd .PLn_REFSEL_SRC p) = 20)
   b.answers m .CAL_CTRL ∧ fieldOf .CAL_CTRL_ABORT v = 0 ∧ sysMaster m = true ∧ (¬ busy) ∧ b.rd .SHED_STATE_STAGE < 3) ∧
  (let t : Nat := 0; let m : Master := .pcie; let v : Word := 0
   let s : State := powered |>.wr .APLLx_STAT_STATE 0 3 |>.wr .APLLx_STAT_STATE 1 3 |>.wr .XO_MON_LOST 0 0 |>.wr .SHED_STATE_STAGE 0 3
   let b := s.enter t
   let busy := b.bit .CAL_STATE_RUN = true ∨ b.bit .XO_MON_LOST = true ∨ b.boot.otpBad = true ∨ b.apllLocked 0 = false ∨ b.apllLocked 1 = false ∨ ∃ p : Fin 4, b.bit .PLn_CTRL_EN p = true ∧ (b.rd .PLn_STATE_STATE p = 1 ∨ b.rd .PLn_STATE_STATE p = 2) ∧ (srcCode (b.rd .PLn_REFSEL_SRC p) ≤ 15 ∨ srcCode (b.rd .PLn_REFSEL_SRC p) = 20)
   b.answers m .CAL_CTRL ∧ fieldOf .CAL_CTRL_ABORT v = 0 ∧ sysMaster m = true ∧ (¬ busy) ∧ 3 ≤ b.rd .SHED_STATE_STAGE) ∧
  (let t : Nat := 0; let m : Master := .ye 3; let v : Word := 0; let s : State := powered; let b := s.enter t
   b.answers m .CAL_CTRL ∧ fieldOf .CAL_CTRL_ABORT v = 0 ∧ sysMaster m = false) ∧
  (let t : Nat := 0; let m : Master := .pcie; let v : Word := 0; let s : State := powered |>.wr .CAL_STATE_RUN 0 1
   let b := s.enter t
   b.answers m .CAL_CTRL ∧ fieldOf .CAL_CTRL_GO v = 0 ∧ b.bit .CAL_STATE_RUN = true) ∧
  (let t : Nat := 0; let m : Master := .pcie; let v : Word := 0; let s : State := powered |>.wr .CAL_STATE_RUN 0 0
   let b := s.enter t
   b.answers m .CAL_CTRL ∧ fieldOf .CAL_CTRL_GO v = 0 ∧ b.bit .CAL_STATE_RUN = false) ∧
  (let t : Nat := 0; let hists : Vector (Vector Nat 32) 25 := Vector.replicate 25 (Vector.replicate 32 32768)
   let rate : Nat := 0; let s : State := powered.setCal { powered.cal with rate := 990000 } |>.wr .CAL_STATE_PHASE 0 2
   let b := s.enter t; let e := 2 ^ b.calHits / 32
   let passes := fun (k : Fin 25) => 990000 ≤ b.cal.rate ∧ b.cal.rate ≤ 2020000 ∧ ∀ i : Fin 32, e ≤ 4 * hists[k][i] ∧
     ((hists[k][i] : Int) - e).natAbs * 100 ≤ e * b.rd .CAL_CTRL_MAXDEV
   let phase := b.rd .CAL_STATE_PHASE
   phase = 2 ∧ (∀ k, passes k)) ∧
  (let t : Nat := 0
   let hists : Vector (Vector Nat 32) 25 := (Vector.replicate 25 (Vector.replicate 32 32768)).set 3 (Vector.replicate 32 0)
   let k := 3; let rate : Nat := 0
   let s : State := powered.setCal { powered.cal with rate := 2020000 } |>.wr .CAL_STATE_PHASE 0 2; let b := s.enter t
   let e := 2 ^ b.calHits / 32
   let passes := fun (k : Fin 25) => 990000 ≤ b.cal.rate ∧ b.cal.rate ≤ 2020000 ∧ ∀ i : Fin 32, e ≤ 4 * hists[k][i] ∧
     ((hists[k][i] : Int) - e).natAbs * 100 ≤ e * b.rd .CAL_CTRL_MAXDEV
   let phase := b.rd .CAL_STATE_PHASE
   phase = 2 ∧ (¬ passes k) ∧ (∀ j, j < k → passes j)) ∧
  (let t : Nat := 0; let s : State := late |>.wr .CAL_STATE_PHASE 0 1; let b := s.enter t; let phase := b.rd .CAL_STATE_PHASE
   phase = 1 ∧ b.cal.phaseAt + 10000000000 ≤ b.now) ∧
  (let t : Nat := 0; let s : State := powered |>.wr .CAL_STATE_PHASE 0 3; let b := s.enter t
   let phase := b.rd .CAL_STATE_PHASE
   phase = 3) ∧
  (let t : Nat := 0; let s : State := late |>.wr .CAL_STATE_PHASE 0 4; let b := s.enter t; let phase := b.rd .CAL_STATE_PHASE
   phase = 4 ∧ b.cal.phaseAt + 400000000000 ≤ b.now) ∧
  (let t : Nat := 0; let x : Fin 2 := 1; let n := 63
   let s : State := late |>.wr .CAL_DTC_EN_A 0 1 |>.wr .CAL_DTC_EN_B 0 1 |>.wr .CAL_DTC_OUT_B 0 63 |>.wr .OUTn_SRC_APLL 63 1 |>.wr .OUTn_STAT_RUN 63 2 |>.wr .OBb_BTSEL_EN 7 1 |>.wr .OBb_BTSEL_SEL 7 7 |>.wr .CAL_STATE_PHASE 0 5
   let b := s.enter t; let phase := b.rd .CAL_STATE_PHASE
   phase = 5 ∧ b.dtcOut x = some n ∧ b.dtcOk x n = true ∧ b.cal.phaseAt + 340000000000 * b.dtcParts x ≤ b.now) ∧
  (let t : Nat := 0; let s : State := powered |>.wr .CAL_STATE_PHASE 0 0; let b := s.enter t
   let phase := b.rd .CAL_STATE_PHASE
   phase = 0) ∧
  (let t : Nat := 0; let s : State := late |>.wr .CAL_STATE_PHASE 0 5; let b := s.enter t; let phase := b.rd .CAL_STATE_PHASE
   phase = 5 ∧ b.cal.phaseAt + 340000000000 * b.dtcCount ≤ b.now ∧ (∀ y ∈ b.cal.result.deltas, y.2.length = 17)) ∧
  (let t : Nat := 0; let x : Fin 2 := 1; let n := (63 : Fin 64); let j := (0 : Nat)
   let s : State := powered |>.wr .CAL_STATE_PHASE 0 5 |>.wr .CAL_DTC_EN_B 0 1 |>.wr .CAL_DTC_OUT_B 0 63 |>.wr .OUTn_SRC_APLL 63 1 |>.wr .OUTn_STAT_RUN 63 2 |>.wr .OBb_BTSEL_EN 7 1 |>.wr .OBb_BTSEL_SEL 7 7 |>.wr .CAL_STATE_PHASE 0 5
   let b := s.enter t; let phase := b.rd .CAL_STATE_PHASE; let start := b.cal.phaseAt + 340000000000 * (b.dtcParts x - 1)
   phase = 5 ∧ b.dtcOut x = some n ∧ b.dtcOk x n = true ∧ start + 20000000000 * j ≤ b.now ∧ b.now < start + 20000000000 * (j + 1)) ∧
  (let t : Nat := 0; let s : State := powered; let b := s.enter t; let phase := b.rd .CAL_STATE_PHASE
   phase ≠ 5) ∧
  (let t : Nat := 0; let s : State := powered |>.wr .CAL_STATE_RUN 0 1; let b := s.enter t
   b.bit .CAL_STATE_RUN = true) := by
  refine ⟨?_, ?_, ?_, ?_, ?_, ?_, ?_, ?_, ?_, ?_, ?_, ?_, ?_, ?_, ?_, ?_, ?_⟩ <;> dsimp only [State.answers, State.CanRun, State.Calm, State.RunsOn, State.breakAt] <;> decide +kernel

/-- Hypotheses of CalibrationImage, clause by clause. -/
theorem test_hyps_CalibrationImage :
  (let t : Nat := 0; let m : Master := .pcie; let v : Word := 0; let s : State := powered.wr .CAL_STATE_RUN 0 1
   let b := s.enter t; let idle := b.bit .CAL_STATE_RUN = false ∧ b.boot.otpBad = false
   b.answers m .CAL_APPLY ∧ fieldOf .CAL_APPLY_REVERT v = 0 ∧ (¬ idle)) ∧
  (let t : Nat := 0; let m : Master := .pcie; let v : Word := 0; let e := 4; let s : State := powered; let b := s.enter t
   let img := b.imageBytes; let idle := b.bit .CAL_STATE_RUN = false ∧ b.boot.otpBad = false
   b.answers m .CAL_APPLY ∧ fieldOf .CAL_APPLY_REVERT v = 0 ∧ idle ∧ imageError img = some e ∧ fieldOf .CAL_APPLY_GO v = 0) ∧
  (let t : Nat := 0; let m : Master := .pcie; let s : State := powered |>.wr .CAL_STATE_RUN 0 0; let b := s.enter t
   b.answers m .CAL_IMAGE ∧ sysMaster m = true ∧ b.bit .CAL_STATE_RUN = false) ∧
  (let t : Nat := 0; let m : Master := .pcie; let s : State := powered |>.wr .CAL_STATE_RUN 0 1; let b := s.enter t
   b.answers m .CAL_IMAGE ∧ sysMaster m = true ∧ b.bit .CAL_STATE_RUN = true) ∧
  (let t : Nat := 0; let m : Master := .ye 3; let s : State := powered; let b := s.enter t
   b.answers m .CAL_IMAGE ∧ sysMaster m = false) ∧
  (let t : Nat := 0; let p : Fin 4 := 3; let s : State := late; let b := s.enter t
   b.timebase = true ∧ (b.tods[p]).secDone < (b.tod p b.now / 1000000000000).floor.toNat) := by
  refine ⟨?_, ?_, ?_, ?_, ?_, ?_⟩ <;> dsimp only [State.answers, State.CanRun, State.Calm, State.RunsOn, State.breakAt] <;> decide +kernel

/-- Hypotheses of PowerResets, clause by clause. -/
theorem test_hyps_PowerResets :
  (let t : Nat := 0; let s : State := State.reset; let b := s.enter t
   b.boot.supplies = false) ∧
  (let t : Nat := 0; let m : Master := .pcie; let key : Byte := 0xA5; let s : State := powered; let b := s.enter t
   let refused := b.boot.keeperRan = false ∨ b.bit .DEV_STATE_WARM = true
   let step3 := b.boot.supplies = true ∧ b.rd .DEV_STATE_TIMING = 1 ∧ b.boot.stepAt + 220000000 ≤ b.now
   b.boot.supplies = true ∧ (b.boot.supplies = true ∨ b.boot.brown = true) ∧ b.answers m .SOFT_RESET ∧ key = 0xA5 ∧ sysMaster m = true ∧
     (¬ refused) ∧ (¬ step3)) ∧
  (let t : Nat := 0; let s : State := State.reset; let b := s.enter t
   b.boot.supplies = false ∧ b.boot.brown = false) ∧
  (let t : Nat := 0; let m : Master := .pcie; let key : Byte := 0xA5; let s : State := powered.wr .DEV_STATE_WARM 0 1
   let b := s.enter t; let refused := b.boot.keeperRan = false ∨ b.bit .DEV_STATE_WARM = true
   b.answers m .SOFT_RESET ∧ key = 0xA5 ∧ sysMaster m = true ∧ refused) ∧
  (let t : Nat := 0; let m : Master := .ye 3; let key : Byte := 0xA5; let s : State := powered; let b := s.enter t
   b.answers m .SOFT_RESET ∧ (key ≠ 0xA5 ∨ sysMaster m = false)) ∧
  (let t : Nat := 0; let s : State := late.wr .DEV_STATE_TIMING 0 1; let b := s.enter t
   let step3 := b.boot.supplies = true ∧ b.rd .DEV_STATE_TIMING = 1 ∧ b.boot.stepAt + 220000000 ≤ b.now
   step3) := by
  refine ⟨?_, ?_, ?_, ?_, ?_, ?_⟩ <;> dsimp only [State.answers, State.CanRun, State.Calm, State.RunsOn, State.breakAt] <;> decide +kernel

/-- Hypotheses of BootImages, clause by clause. -/
theorem test_hyps_BootImages :
  (let t : Nat := 0; let s : State := powered.wr .DEV_STATE_TIMING 0 2; let b := s.enter t; let first := b.flashBytes 0 1600
   let second := b.flashBytes 0x1000 1600
   let loads := b.boot.supplies = true ∧ 2 ≤ b.rd .DEV_STATE_TIMING ∧ b.boot.cfgRead = false
   loads ∧ cfgOk first = false ∧ cfgOk second = false) ∧
  (let t : Nat := 0; let s : State := powered.wr .DEV_STATE_TIMING 0 1; let b := s.enter t
   let loads := b.boot.supplies = true ∧ 2 ≤ b.rd .DEV_STATE_TIMING ∧ b.boot.cfgRead = false
   (¬ loads)) ∧
  (let t : Nat := 0; let s : State := powered.wr .DEV_STATE_TIMING 0 2 |>.wr .DEV_STATE_KEEPER 0 0; let b := s.enter t
   let boots := b.mcpRuns = true ∧ 2 ≤ b.rd .DEV_STATE_TIMING ∧ b.rd .DEV_STATE_KEEPER = kpLoading
   boots ∧ b.keeper.toRecovery = false) ∧
  (let t : Nat := 0
   let s : State := ({ powered with keeper := { powered.keeper with toRecovery := true } } : State).wr .DEV_STATE_TIMING 0 4
   let b := s.enter t; let boots := b.mcpRuns = true ∧ 2 ≤ b.rd .DEV_STATE_TIMING ∧ b.rd .DEV_STATE_KEEPER = kpLoading
   boots ∧ b.keeper.toRecovery = true) ∧
  (let t : Nat := 0; let s : State := powered.wr .DEV_STATE_KEEPER 0 1; let b := s.enter t
   let boots := b.mcpRuns = true ∧ 2 ≤ b.rd .DEV_STATE_TIMING ∧ b.rd .DEV_STATE_KEEPER = kpLoading
   (¬ boots)) := by
  refine ⟨?_, ?_, ?_, ?_, ?_⟩ <;> dsimp only [State.answers, State.CanRun, State.Calm, State.RunsOn, State.breakAt] <;> decide +kernel

/-- Hypotheses of WarmReset, clause by clause. -/
theorem test_hyps_WarmReset :
  (let t : Nat := 0; let m : Master := .pcie; let key : Byte := 0xA5; let s : State := powered; let b := s.enter t
   let refused := b.boot.keeperRan = false ∨ b.bit .DEV_STATE_WARM = true
   b.answers m .SOFT_RESET ∧ key = 0xA5 ∧ sysMaster m = true ∧ (¬ refused)) ∧
  (let t : Nat := 0; let m : Master := .pcie; let key : Byte := 0xA5; let s : State := powered.wr .DEV_STATE_WARM 0 1
   let b := s.enter t; let refused := b.boot.keeperRan = false ∨ b.bit .DEV_STATE_WARM = true
   b.answers m .SOFT_RESET ∧ key = 0xA5 ∧ sysMaster m = true ∧ refused) ∧
  (let t : Nat := 0; let m : Master := .pcie; let key : Byte := 0; let s : State := powered; let b := s.enter t
   b.answers m .SOFT_RESET ∧ (key ≠ 0xA5 ∨ sysMaster m = false)) ∧
  (let t : Nat := 0; let m : Master := .spi; let key : Byte := 0xA5; let s : State := powered; let b := s.enter t
   let host := m = .pcie ∨ m = .spi
   b.answers m .SOFT_RESET ∧ key = 0xA5 ∧ host) ∧
  (let t : Nat := 0; let m : Master := .keeper; let key : Byte := 0xA5; let s : State := powered; let b := s.enter t
   let host := m = .pcie ∨ m = .spi
   b.answers m .SOFT_RESET ∧ (key ≠ 0xA5 ∨ ¬ host)) ∧
  (let t : Nat := 0; let w := 5; let s : State := { late with boot := { late.boot with warmAt := some 5 } }
   let b := s.enter t
   b.boot.warmAt = some w ∧ w + 20000000 ≤ b.now) ∧
  (let t : Nat := 0; let s : State := powered; let b := s.enter t
   (∀ w, b.boot.warmAt = some w → b.now < w + 20000000)) ∧
  (let t : Nat := 2000005; let since : Nat := 5; let c := (3 : Nat); let p : Fin 4 := 0
   let s : State := { powered with boot := { powered.boot with warmAt := some 5 } }
   s.boot.warmAt = some since ∧ s.boot.held = false ∧ since + 2000000 ≤ t ∧ s.now ≤ since + 2000000 ∧ c ∈ [3, 4, 5, 7] ∧
     s.boot.cut.testBit p = false ∧ (s.planes[p]).region = none ∧ s.hif.spiHeld = []) ∧
  (let t : Nat := 2000005; let since : Nat := 5; let p : Fin 4 := 3
   let s : State := { powered with boot := { powered.boot with warmAt := some 5 } } |>.wr .PLn_STATE_STATE 3 4
   s.boot.warmAt = some since ∧ s.boot.held = false ∧ since + 2000000 ≤ t ∧ s.now ≤ since + 2000000 ∧
     (s.rd .PLn_STATE_STATE p = 1 ∨ s.rd .PLn_STATE_STATE p = 2 ∨ s.rd .PLn_STATE_STATE p = 4)) ∧
  (let t : Nat := 0; let r := Reg.MBn_LOCK
   let s : State := { powered with boot := { powered.boot with warmAt := some 5, held := true } }; let b := s.enter t
   b.boot.held = true ∧ r.warmHeld = true) := by
  refine ⟨?_, ?_, ?_, ?_, ?_, ?_, ?_, ?_, ?_, ?_⟩
  · dsimp only [State.answers, State.CanRun, State.Calm, State.RunsOn, State.breakAt]; decide +kernel
  · dsimp only [State.answers, State.CanRun, State.Calm, State.RunsOn, State.breakAt]; decide +kernel
  · dsimp only [State.answers, State.CanRun, State.Calm, State.RunsOn, State.breakAt]; decide +kernel
  · dsimp only [State.answers, State.CanRun, State.Calm, State.RunsOn, State.breakAt]; decide +kernel
  · dsimp only [State.answers, State.CanRun, State.Calm, State.RunsOn, State.breakAt]; decide +kernel
  · dsimp only [State.answers, State.CanRun, State.Calm, State.RunsOn, State.breakAt]; decide +kernel
  · dsimp only; simp [show (powered.enter 0).boot.warmAt = none from by decide +kernel]
  · dsimp only [State.answers, State.CanRun, State.Calm, State.RunsOn, State.breakAt]; decide +kernel
  · dsimp only [State.answers, State.CanRun, State.Calm, State.RunsOn, State.breakAt]; decide +kernel
  · dsimp only [State.answers, State.CanRun, State.Calm, State.RunsOn, State.breakAt]; decide +kernel

/-- Hypotheses of PcieAndMsix, clause by clause. -/
theorem test_hyps_PcieAndMsix :
  (let t : Nat := 0; let k : HifReset := .flr; let n : Nat := 16; let lock : Bool := false
   let data : List (Word × Fin 16) := [(0, 14)]; let s : State := linked; let b := s.enter t
   let acts := match k with  | .linkDown => b.hif.up = true  | .flr => b.pcieServes = true  | .perst | .hotReset | .island => True
   let serves := b.pcieServes = true
   acts ∧ serves ∧ n ≤ 16 ∧ lock = false ∧ (16 < data.length ∨ lock = true ∨ (∃ y ∈ data, y.2 ≠ 15))) ∧
  (let t : Nat := 0; let k : HifReset := .linkDown; let x : Fin 64 := 0; let m : Master := .pcie; let s : State := powered
   let b := s.enter t
   let acts := match k with  | .linkDown => b.hif.up = true  | .flr => b.pcieServes = true  | .perst | .hotReset | .island => True
   let serves := b.pcieServes = true
   (¬ acts) ∧ b.hifReach = true ∧ (¬ serves) ∧ b.msiDue.toNat.testBit x = false ∧ b.hasMaster m = true) ∧
  (let t : Nat := 0; let s : State := State.reset; let b := s.enter t
   b.hifReach = false) ∧
  (let t : Nat := 0; let n : Nat := 17; let lock : Bool := false; let s : State := linked; let b := s.enter t
   let serves := b.pcieServes = true
   serves ∧ (16 < n ∨ lock = true)) ∧
  (let t : Nat := 0; let x : Fin 64 := 63; let s : State := { powered with msiDue := 0x8000000000000000 }; let b := s.enter t
   b.msiDue.toNat.testBit x = true ∧ b.Calm) := by
  refine ⟨?_, ?_, ?_, ?_, ?_⟩ <;> dsimp only [State.answers, State.CanRun, State.Calm, State.RunsOn, State.breakAt] <;> decide +kernel

/-- Hypotheses of SpiFrames, clause by clause. -/
theorem test_hyps_SpiFrames :
  (let t : Nat := 0; let addr : Word := 0x3FFFFC; let n : Nat := 1; let cmd : Byte := 0x9F; let s : State := powered
   let b := s.begin t; let a := addr.toNat
   b.boot.supplies = true ∧ a % 4 = 0 ∧ a + 4 * n ≤ 0x400000 ∧ a < 0x400000 ∧ b.heldWords < 16 ∧ cmd ≠ 0x0B ∧ cmd ≠ 0x05 ∧ cmd ≠ 0x02) ∧
  (let t : Nat := 0; let addr : Word := 0x3FFFFC; let n : Nat := 2; let s : State := powered; let b := s.begin t
   let a := addr.toNat
   b.boot.supplies = true ∧ a % 4 = 0 ∧ 0x400000 < a + 4 * n) ∧
  (let t : Nat := 0; let addr : Word := 2; let s : State := powered; let b := s.begin t; let a := addr.toNat
   b.boot.supplies = true ∧ a % 4 ≠ 0) ∧
  (let t : Nat := 0; let addr : Word := 0x3FFFF8; let s : State := powered; let b := s.begin t; let a := addr.toNat
   b.boot.supplies = true ∧ a % 4 = 0 ∧ a + 4 < 0x400000 ∧ b.heldWords < 15) ∧
  (let t : Nat := 0; let addr : Word := 0x400000; let s : State := powered; let b := s.begin t; let a := addr.toNat
   b.boot.supplies = true ∧ a % 4 = 0 ∧ (16 ≤ b.heldWords ∨ 0x400000 ≤ a)) ∧
  (let t : Nat := 0; let addr : Word := 0x3FFFFF; let s : State := powered; let b := s.begin t; let a := addr.toNat
   b.boot.supplies = true ∧ a % 4 ≠ 0) ∧
  (let t : Nat := 0; let addr : Word := 0; let s : State := powered; let b := s.begin t; let a := addr.toNat
   b.boot.supplies = true ∧ a % 4 = 0) := by
  refine ⟨?_, ?_, ?_, ?_, ?_, ?_, ?_⟩ <;> dsimp only [State.answers, State.CanRun, State.Calm, State.RunsOn, State.breakAt] <;> decide +kernel

end Sys2Proof.Tests
end

section
/-!
PROOFS. The machine as a whole and the access to registers: the queue (O1), what power-on reset leaves (O2), and the registers
that are said to have no behaviour of their own (O7).
-/
namespace Sys2Proof.Machine

/-! ## The queue -/

/-- A command's answer is always that of `finish`, over the state that its handler made: no arm of `exec` faults or refuses. -/
theorem exec_eq_finish (c : Instr) (s : State) : ∃ t, exec c s = finish s t := by
  cases c <;> exact ⟨_, rfl⟩

theorem exec_keeps_pending (c : Instr) (s : State) : ∃ u, exec c s = .next u ∧ u.pending = s.pending := by
  obtain ⟨t, ht⟩ := exec_eq_finish c s
  obtain ⟨u, hu, -, hp⟩ := finish_settles s t
  exact ⟨u, ht.trans hu, hp⟩

theorem step_of_pending_nil {s : State} (h : s.pending = []) : step s = .next s := by
  unfold step; rw [h]

theorem step_of_pending_cons {s : State} {c : Instr} {rest : List Instr} (h : s.pending = c :: rest) :
    step s = exec c { s with pending := rest } := by
  unfold step; rw [h]

/-- Settles O1: `step` by the two forms of the queue, and every command ends in `finish`, which puts back the queue it found. -/
theorem stepRunsTheFront : Obligations.StepRunsTheFront :=
  ⟨fun _ _ _ => step_of_pending_cons, fun _ => step_of_pending_nil, fun s c => exec_keeps_pending c s⟩

/-! ## Power-on reset -/

/-- The reset state stores no register, so each field reads its Reset column (R6). -/
theorem State.reset_rd (f : Field) (n : Nat) : State.reset.rd f n = f.reset n % 2 ^ f.info.width := rfl

/-- Without supplies no GPIO is driven (R406). -/
theorem State.reset_gpioPin (g : Fin 16) : State.reset.gpioPin g = .hiZ := rfl

/-- Without supplies no output is driven (R129). -/
theorem State.reset_outPad (n : Fin 64) : State.reset.outPad n = .hiZ := rfl

/-- FAULT_N, INT_N and configuration space by computation; the GPIOs and the outputs pin by pin. -/
theorem State.reset_pinsAgree : State.reset.PinsAgree := by
  refine ⟨rfl, rfl, fun g => ?_, fun alive => ?_, fun n => ?_, rfl⟩
  · rw [State.reset_gpioPin]; exact Vector.getElem_replicate _
  · exact absurd alive (by decide)
  · rw [State.reset_outPad]; exact Vector.getElem_replicate _

theorem State.reset_shedCount : State.reset.shedCount = 0 := by decide

theorem State.reset_statusAgrees : State.reset.StatusAgrees := ⟨rfl, State.reset_shedCount.symm⟩

/-- Settles O2: the register clauses are the Reset column (`State.reset_rd`), the rest stands in the reset state as it is. -/
theorem resetState : Obligations.ResetState := by
  refine ⟨rfl, State.reset_pinsAgree, State.reset_statusAgrees, rfl, fun f n fits => ?_, rfl, rfl, rfl, rfl, rfl, rfl, rfl, rfl,
    fun _ => rfl, fun _ => rfl, fun _ => rfl, rfl, rfl, rfl⟩
  rw [State.reset_rd, Nat.mod_eq_of_lt fits]

/-! ## A register said to be plain that is not

`Reg.plainWord` leaves OUTn_DELAY and OUTn_MINPER among the registers without a behaviour of their own, but a write of either also
moves the next edge of a running output while its last high time has not ended (`State.writeOutEdge`; R111, R113, R117). -/

/-- A part with its supplies good and its timebase running. Output 0 is enabled in PPS mode, with no plane; it runs and is in the high
time that began at the instant 0, and its next edge stands to come at one second (R110, R111). -/
def State.ppsHigh : State :=
  let s : State := { State.reset with boot := { BootState.init with supplies := true }, timebase := true }
  let s := (s.wr .DEV_STATE_TIMING 0 4).wr .OUTn_CFG_EN 0 1
  let s := ((s.wr .OUTn_CFG_MODE 0 1).wr .OUTn_SRC_PL 0 7).wr .OUTn_STAT_RUN 0 2
  s.setOut 0 { OutState.init with pulses := [⟨0, 500000000000, 1000000000000⟩], instFrom := 1, startedAt := some 0 }

/-- The state in which a write of 5 to OUT0_DELAY leaves that part, before it settles. -/
def State.ppsDelayed : State := (State.ppsHigh.enter 0).busWrite .pcie (Reg.OUTn_DELAY.addr 0) 5

theorem locate_outDelay_zero : locate (Reg.OUTn_DELAY.addr 0) = some (.OUTn_DELAY, 0, 0) := by decide +kernel

theorem State.ppsHigh_reach_outDelay : (State.ppsHigh.enter 0).reach .OUTn_DELAY = true := by decide +kernel

theorem State.ppsHigh_pulses :
    ((State.ppsHigh.enter 0).outs[0]).pulses = [⟨0, 500000000000, 1000000000000⟩] := by decide +kernel

/-- A delay of 5 ps places the next edge 5 ps earlier (R107, R110), and half of that earlier the high time ends (R111). -/
theorem State.ppsDelayed_pulses : (State.ppsDelayed.outs[0]).pulses = [⟨0, 500000000000, 999999999995⟩] := by decide +kernel

theorem State.ppsDelayed_outs_ne : State.ppsDelayed.outs ≠ (State.ppsHigh.enter 0).outs := by
  intro same
  have pulses := State.ppsDelayed_pulses
  rw [same, State.ppsHigh_pulses] at pulses
  exact absurd pulses (by decide +kernel)

/-- A frame keeps every output. -/
theorem State.Keeps.outs {b u : State} {may : Field → Nat → Bool} (h : b.Keeps u may) : u.outs = b.outs := by rw [h.rest]

/-- Refutes O7: OUTn_DELAY counts as a plain word, but a write of 5 to OUT0_DELAY of `State.ppsHigh` moves the output's next edge,
while the clause for REGISTER_WRITE has every output kept. OUTn_MINPER stands in the same gap of `Reg.plainWord`. -/
theorem not_registerAccess : ¬ Obligations.RegisterAccess := by
  intro h
  obtain ⟨present, -⟩ := h State.ppsHigh 0 .pcie .OUTn_DELAY 0 (Reg.OUTn_DELAY.addr 0) 5 0
  obtain ⟨low, -⟩ := present (by decide) (by decide) (by decide) rfl
  obtain ⟨word, -⟩ := low locate_outDelay_zero rfl State.ppsHigh_reach_outDelay
  obtain ⟨u, answer, -, -, own⟩ := word rfl
  obtain ⟨w, finished, settled, -⟩ := finish_settles State.ppsHigh State.ppsDelayed
  obtain rfl : u = w := Host.Outcome.next.inj (answer.symm.trans finished)
  exact State.ppsDelayed_outs_ne (settled.outs.symm.trans own.outs)

end Sys2Proof.Machine
end

section
/-!
PROOFS. The power state that the horizon allows (O54): an island whose held write makes it idle as its gate opens.
-/
namespace Sys2Proof.Machine

/-! ## A write held for a gated island

On entering NAP or DOZE the power manager ungates each island that is not idle and asks for the gate of each that is (R334), island by
island. Opening the gate of LNZ delivers the writes held for it (R330), and such a write may disable the last enabled link: LNZ is
then idle, ungated, and no request for its gate stands. -/

/-- A part in DOZE with LNZ gated while link 0 is enabled, as leaving SHED2 leaves it (R334, R340); its tokens have been idle for 100 µs,
and the SPI port holds a write of 0 to LZ0_CFG. -/
def State.dozingLink : State :=
  let s : State := { State.reset with boot := { BootState.init with supplies := true }, timebase := true, now := 100000000 }
  let s := ((s.wr .DEV_STATE_TIMING 0 4).wr .PWR_STATE_STATE 0 3).setClk { s.clk with tokIdle := some 0 }
  let s := ((s.wr .LZn_CFG_EN 0 1).wr .LZn_STAT_STATE 0 lzSync).wr .CLK_GATE_GATED 0 (2 ^ islLnz)
  s.setHeld [(Reg.LZn_CFG.addr 0, [0])]

/-- What the power manager makes of that part, before it settles. -/
def State.dozingLinkJudged : State := (State.dozingLink.enter 0).powerEval

theorem State.dozingLink_powered :
    (State.dozingLink.enter 0).boot.supplies = true ∧ (State.dozingLink.enter 0).boot.keep = false := by decide +kernel

theorem State.dozingLinkJudged_state : State.dozingLinkJudged.rd .PWR_STATE_STATE = 3 := by decide +kernel

theorem State.dozingLinkJudged_idle : State.dozingLinkJudged.islandIdle islLnz = true := by decide +kernel

theorem State.dozingLinkJudged_ungated : State.dozingLinkJudged.gated islLnz = false := by decide +kernel

theorem State.dozingLinkJudged_slept : State.dozingLinkJudged.wokeNow islLnz = false := by decide +kernel

theorem State.dozingLinkJudged_unasked : State.dozingLinkJudged.clk.gating.testBit islLnz = false := by decide +kernel

section
variable {t u : State}

/-- LNZ is idle while its links are shed or disabled (R334). -/
theorem State.islandIdle_lnz (s : State) :
    s.islandIdle islLnz = (decide (2 ≤ s.rd .SHED_STATE_STAGE) || (List.range 4).all (fun n => !s.bit .LZn_CFG_EN n)) := rfl

theorem Settles.islandIdle_lnz (h : Settles t u) : u.islandIdle islLnz = t.islandIdle islLnz := by
  simp only [State.islandIdle_lnz, State.bit, h.regs .SHED_STATE_STAGE _ rfl, h.regs .LZn_CFG_EN _ rfl]

theorem Settles.gated (h : Settles t u) (c : Nat) : u.gated c = t.gated c := by
  simp only [State.gated, State.bitOf, h.regs .CLK_GATE_GATED _ rfl]

theorem Settles.wokeNow (h : Settles t u) (c : Nat) : u.wokeNow c = t.wokeNow c := by
  simp only [State.wokeNow, h.clk, h.now]

end

/-- Refutes O54: in `State.dozingLink` the power manager opens the gate of LNZ, whose link 0 is enabled, and so delivers the held write
that disables it. In DOZE LNZ is then idle, neither gated nor woken, and its gate has not been asked for. -/
theorem not_powerStates : ¬ Obligations.PowerStates := by
  intro h
  obtain ⟨-, -, -, -, -, -, -, -, -, -, -, -, -, -, -, eval, -⟩ := h State.dozingLink 0 .pcie 0 true 0 none 0
  obtain ⟨u, answer, -, -, asks, -⟩ := eval State.dozingLink_powered.1 State.dozingLink_powered.2
  obtain ⟨w, finished, settled, -⟩ := finish_settles State.dozingLink State.dozingLinkJudged
  obtain rfl : u = w := Host.Outcome.next.inj (answer.symm.trans finished)
  have asked : u.clk.gating.testBit islLnz = true := by
    refine asks ?_ 3 (settled.islandIdle_lnz.trans State.dozingLinkJudged_idle)
      ((settled.gated islLnz).trans State.dozingLinkJudged_ungated) ((settled.wokeNow islLnz).trans State.dozingLinkJudged_slept)
    rw [settled.regs .PWR_STATE_STATE 0 rfl, State.dozingLinkJudged_state]
    decide
  rw [settled.clk, State.dozingLinkJudged_unasked] at asked
  exact Bool.noConfusion asked

end Sys2Proof.Machine
end

section
/-!
PROOFS. What the resets of the whole part share (R371): the fields that a power reset drops, the end of a command that leaves SYS on its
own source, and what the work of AON may touch.
-/
namespace Sys2Proof.Machine

/-! ## Dropped fields -/

/-- A store from which keys have been dropped: they read as unlisted, the others as before. -/
theorem Store.get_filter {α : Type} (p : Nat → Bool) (m : List (Nat × α)) (k : Nat) (d : α) :
    Store.get (m.filter (fun c => p c.1)) k d = if p k then Store.get m k d else d := by
  induction m with
  | nil => simp [Store.get]
  | cons c r ih =>
    obtain ⟨k', v⟩ := c
    by_cases hk : k' = k
    · subst hk
      by_cases hp : p k' = true <;> simp [hp, Store.get, ih]
    · by_cases hp : p k' = true <;> simp [hp, hk, Store.get, ih]

/-- A power reset keeps the fields of AON and gives every other field its Reset column (R371). -/
theorem State.rd_powerReset (s : State) (f : Field) (n : Nat) :
    s.powerReset.rd f n = if aonKeeps (f.key n) then s.rd f n else State.reset.rd f n := by
  unfold State.rd
  rw [show s.powerReset.regs = s.regs.filter (fun c => aonKeeps c.1) from rfl, Store.get_filter]
  split <;> rfl

/-- A field's key is of a list of fields exactly if the field is in it. -/
theorem isField_key (l : List Field) (f : Field) (n : Nat) : isField l (f.key n) = true ↔ f ∈ l := by
  have key : f.key n % 1024 = f.ctorIdx := by
    have := f.ctorIdx_lt
    unfold Field.key
    omega
  simp only [isField, List.any_eq_true, beq_iff_eq, key]
  exact ⟨fun ⟨g, mem, eq⟩ => Field.ctorIdx_inj eq ▸ mem, fun mem => ⟨f, mem, rfl⟩⟩

/-! ## The end of a command -/

/-- FAULT_N follows from what the command left (R310). -/
theorem finish_faultN {s t u : State} (h : finish s t = .next u) : u.pins.faultN = u.faultPin := by
  obtain rfl := Host.Outcome.next.inj h
  rfl

/-- ALIVE that is low stays low while SYS runs from its own source: settling then only writes two status fields. -/
theorem finish_alive {s t u : State} (h : finish s t = .next u) (calm : t.bitOf .CLK_STAT_FB 0 0 = false)
    (low : t.pins.alive = false) : u.pins.alive = false := by
  have own : ∀ x, (t.wrB .CLK_STAT_TB_ROSC 0 x).timebaseRosc = false := by
    intro x
    have same : (t.wrB .CLK_STAT_TB_ROSC 0 x).bitOf .CLK_STAT_FB 0 0 = t.bitOf .CLK_STAT_FB 0 0 :=
      congrArg (Nat.testBit · 0) (State.rd_wr_ne t (by decide) 0 0 _)
    simp [State.timebaseRosc, same, calm]
  obtain rfl := Host.Outcome.next.inj h
  unfold State.settle
  simp only [own, Bool.false_eq_true, if_false]
  exact Bool.and_eq_false_imp.2 (fun high => absurd (high.symm.trans low) (by decide))

/-! ## Frames -/

section
variable {b s t u : State} {may : Field → Nat → Bool}

/-- What settling leaves alone, a frame still holds. -/
theorem State.Keeps.settle (h : b.Keeps t may) (settled : Settles t u) : b.Keeps u may where
  rest := by rw [settled.rest, h.rest]
  regs f n out quiet := (settled.regs f n quiet).trans (h.regs f n out quiet)

theorem State.Keeps.refl (b : State) (may : Field → Nat → Bool) : b.Keeps b may := ⟨rfl, fun _ _ _ _ => rfl⟩

/-- A command whose handler leaves the state as it found it keeps everything. -/
theorem finish_keeps (s : State) (unchanged : t = b) (may : Field → Nat → Bool) : ∃ u, finish s t = .next u ∧ b.Keeps u may := by
  obtain ⟨u, hu, settled, -⟩ := finish_settles s t
  rw [unchanged] at settled
  exact ⟨u, hu, (State.Keeps.refl b may).settle settled⟩

/-- Setting a field of DEV_STATE writes it, and else raises only signals. -/
theorem State.setDev_signals (s : State) (f : Field) (v : Nat) (fits : v < 2 ^ f.info.width) :
    Signals (s.wr f 0 v) (s.setDev f v) := by
  unfold State.setDev
  split
  · rename_i same
    have reads : ∀ g n, (s.wr f 0 v).rd g n = s.rd g n := by
      intro g n
      rw [State.rd_wr, Nat.mod_eq_of_lt fits]
      split
      · rename_i here
        obtain ⟨rfl, rfl⟩ := here
        exact same.symm
      · rfl
    exact ⟨rfl, fun g n _ => (reads g n).symm, fun _ _ h => by simpa only [State.bitOf, reads] using h,
      fun _ _ h => by simpa only [State.bitOf, reads] using h, fun _ _ h => h⟩
  · exact State.raiseInt_signals _ _

/-! ## The work of AON and its reports -/

/-- `t` is `s` but for the register fields that `p` names, what the Granary, the token engine and the draws of free values keep, and the
signals raised; no bit of FLT_STATUS falls. -/
structure Within (p : Field → Bool) (s t : State) : Prop where
  rest : t = { s with regs := t.regs, faults := t.faults, events := t.events, evpend := t.evpend, evovf := t.evovf, pulsed := t.pulsed
                      sets := t.sets, wakes := t.wakes, msiDue := t.msiDue, grn := t.grn, tok := t.tok, draw := t.draw }
  regs : ∀ f n, f.signal = false → p f = false → t.rd f n = s.rd f n
  flts : ∀ v, v < 64 → s.bitOf .FLT_STATUS 0 v = true → t.bitOf .FLT_STATUS 0 v = true

/-- The register fields of the Granary (R279), and the token engine's report of a scrub. -/
def Field.ofGranary (f : Field) : Bool := inFields .GRN_STAT_KEYLESS .MBn_BIND_END0 (f.key 0) || f == .TOK_EV_SCRUB

variable {p : Field → Bool}

theorem Within.refl (p : Field → Bool) (s : State) : Within p s s := ⟨rfl, fun _ _ _ _ => rfl, fun _ _ h => h⟩

theorem Within.trans (a : Within p s t) (b : Within p t u) : Within p s u where
  rest := by rw [b.rest, a.rest]
  regs f n quiet out := (b.regs f n quiet out).trans (a.regs f n quiet out)
  flts v h x := b.flts v h (a.flts v h x)

theorem Signals.within (h : Signals s t) : Within p s t where
  rest := by rw [h.rest]
  regs f n quiet _ := h.regs f n quiet
  flts := h.flts

theorem Within.ite (c : Prop) [Decidable c] (a : Within p s t) (b : Within p s u) : Within p s (if c then t else u) := by
  split <;> assumption

theorem Within.wr (s : State) (f : Field) (n v : Nat) (hf : p f = true) (status : f ≠ .FLT_STATUS) : Within p s (s.wr f n v) where
  rest := rfl
  regs g m _ out := State.rd_wr_ne s (fun h => by rw [h, out] at hf; cases hf) n m v
  flts i _ h := by simpa only [State.bitOf, State.rd_wr_ne s status] using h

theorem Within.flag (s : State) (f : Field) (n : Nat) (hf : p f = true) (status : f ≠ .FLT_STATUS) : Within p s (s.flag f n) :=
  ((Within.wr s f n _ hf status).trans (Signals.noteSet _ _ _ _).within).trans (State.flag_signals s f n).within

theorem Within.setGrn (s : State) (x : GranaryState) : Within p s (s.setGrn x) := ⟨rfl, fun _ _ _ _ => rfl, fun _ _ h => h⟩

theorem Within.setTok (s : State) (x : TokState) : Within p s (s.setTok x) := ⟨rfl, fun _ _ _ _ => rfl, fun _ _ h => h⟩

theorem Within.fresh (s : State) : Within p s s.fresh.2 := ⟨rfl, fun _ _ _ _ => rfl, fun _ _ h => h⟩

theorem Within.incSat (s : State) (f : Field) (n : Nat) (hf : p f = true) (status : f ≠ .FLT_STATUS) : Within p s (s.incSat f n) := by
  unfold State.incSat
  exact Within.ite _ (Within.wr _ _ _ _ hf status) (Within.wr _ _ _ _ hf status)

theorem Within.foldl {α : Type} (f : State → α → State) (h : ∀ s a, Within p s (f s a)) (l : List α) (s : State) :
    Within p s (l.foldl f s) := by
  induction l generalizing s with
  | nil => exact Within.refl p s
  | cons a l ih => exact (h s a).trans (ih _)

end

/-! ## The commit word (R273) -/

theorem State.capGo_within (s : State) (r : Nat) : Within Field.ofGranary s (s.capGo r) := by
  have result : Within Field.ofGranary s (s.wr .GRN_CAP_STAT_RESULT 0 r) := Within.wr _ _ _ _ (by decide) (by decide)
  unfold State.capGo
  exact Within.ite _ (result.trans (State.raiseInt_signals _ _).within) result

theorem State.clearStaging_within (s : State) : Within Field.ofGranary s s.clearStaging := Within.setGrn _ _

theorem State.applyOp_within (s : State) (o : StagedOp) : Within Field.ofGranary s (s.applyOp o) := by
  unfold State.applyOp
  extract_lets n s'
  have metadata : Within Field.ofGranary s s' :=
    (((Within.wr _ _ _ _ (by decide) (by decide)).trans (Within.wr _ _ _ _ (by decide) (by decide))).trans
      (Within.wr _ _ _ _ (by decide) (by decide))).trans (Within.wr _ _ _ _ (by decide) (by decide))
  exact (metadata.trans (Within.setGrn _ _)).trans (Within.setTok _ _)

theorem State.emptySlots_within (s : State) : Within Field.ofGranary s s.emptySlots :=
  Within.foldl _ (fun _ _ => (((Within.wr _ _ _ _ (by decide) (by decide)).trans (Within.wr _ _ _ _ (by decide) (by decide))).trans
    (Within.wr _ _ _ _ (by decide) (by decide))).trans (Within.wr _ _ _ _ (by decide) (by decide))) _ s

theorem State.wipeVault_within (s : State) : Within Field.ofGranary s s.wipeVault :=
  ((Within.setGrn _ _).trans (State.emptySlots_within _)).trans (Within.wr _ _ _ _ (by decide) (by decide))

theorem State.tokScrub_within (s : State) : Within Field.ofGranary s s.tokScrub :=
  (Within.setTok _ _).trans (Within.flag _ .TOK_EV_SCRUB 0 (by decide) (by decide))

theorem State.zeroise_within (s : State) (cause : Nat) : Within Field.ofGranary s (s.zeroise cause) := by
  unfold State.zeroise
  extract_lets s1 s2 s3 s4 s5 s6
  have recorded : Within Field.ofGranary s s3 :=
    (((State.wipeVault_within s).trans (Within.wr _ _ _ _ (by decide) (by decide))).trans
      (Within.wr _ _ _ _ (by decide) (by decide))).trans (Within.incSat _ _ _ (by decide) (by decide))
  have ended : Within Field.ofGranary s3 s4 := Within.ite _ (State.capGo_within _ _) (Within.refl _ _)
  have scrubbed : Within Field.ofGranary s4 s6 :=
    (State.tokScrub_within s4).trans (Within.ite _ (Within.refl _ _) (Within.flag _ _ _ (by decide) (by decide)))
  exact (recorded.trans ended).trans (Within.ite _ (scrubbed.trans (State.raise_signals _ _ _).within)
    (Within.ite _ (Within.setGrn _ _) (Within.refl _ _)))

theorem State.finishCommit_within (s : State) (ctr : Nat) : Within Field.ofGranary s (s.finishCommit ctr) := by
  unfold State.finishCommit
  extract_lets kind staged s'
  have applied : Within Field.ofGranary s s' :=
    Within.ite _ (State.zeroise_within _ _) (Within.foldl _ State.applyOp_within _ _)
  exact ((applied.trans (Within.wr _ _ _ _ (by decide) (by decide))).trans (State.clearStaging_within _)).trans
    (State.capGo_within _ _)

/-- Examining the commit word touches the Granary, and what its reports raise. -/
theorem State.examineWord_within (s : State) : Within Field.ofGranary s s.examineWord := by
  unfold State.examineWord
  exact Within.ite _ (Within.refl _ _) (Within.ite _
    ((State.finishCommit_within _ _).trans (Within.flag _ _ _ (by decide) (by decide)))
    ((State.clearStaging_within _).trans (State.capGo_within _ _)))

/-! ## The identity and the reports of start-up (R265, R277, R311) -/

theorem State.deriveIdentity_within (s : State) : Within Field.ofGranary s s.deriveIdentity := by
  unfold State.deriveIdentity
  refine Within.ite _ (Within.refl _ _) ?_
  extract_lets g v d
  split
  · exact Within.setGrn _ _
  · exact Within.refl _ _

theorem State.reportKeep_within (s : State) : Within Field.ofGranary s s.reportKeep := by
  unfold State.reportKeep
  exact Within.ite _ ((Within.setGrn _ _).trans (Within.flag _ _ _ (by decide) (by decide))) (Within.refl _ _)

theorem State.postPrev_within (s : State) : Within Field.ofGranary s s.postPrev := by
  unfold State.postPrev
  exact Within.ite _ ((Within.fresh s).trans (State.post_signals _ _).within) (Within.refl _ _)

end Sys2Proof.Machine
end

section
/-!
PROOFS. The resets of the whole part (R18, R371): what a state after one holds, and that power coming good, power lost and a cold reset each
leave such a state.
-/
namespace Sys2Proof.Machine

/-! ## A state after a power reset -/

/-- The causes of a reset (R374). -/
def resetCauses : List Field := [.RESET_CAUSE_POR, .RESET_CAUSE_BOR, .RESET_CAUSE_COLD, .RESET_CAUSE_WARM]

/-- AON keeps the causes (R371). -/
theorem aonKeeps_of_resetCause {f : Field} (mem : f ∈ resetCauses) (n : Nat) : aonKeeps (f.key n) = true := by
  have listed : ∀ g ∈ resetCauses, g ∈ [Field.FLT_PREV_SRC, .FLT_PREV_LEVEL, .FLT_PREV_VALID, .RESET_CAUSE_POR, .RESET_CAUSE_BOR,
      .RESET_CAUSE_COLD, .RESET_CAUSE_WARM, .BOOT_STAT_PREF] := by decide
  exact Bool.or_eq_true_iff.2 (.inr ((isField_key _ f n).2 (listed f mem)))

/-- `t` is `b` after a power reset, with `cause` recorded where there is one: but for AON and the course of start-up everything is at its
reset value (R371). -/
structure State.PowerReset (b t : State) (cause : Option Field) : Prop where
  rest : t = { b.powerReset with regs := t.regs, grn := t.grn, boot := t.boot, sets := t.sets, draw := t.draw }
  regs : ∀ f n, aonKeeps (f.key n) = false → t.rd f n = State.reset.rd f n
  causes : ∀ f ∈ resetCauses, t.rd f = if cause = some f then 1 else b.rd f

/-- The course of start-up is no part of what a power reset fixes. -/
theorem State.PowerReset.setBoot {b t : State} {cause : Option Field} (h : b.PowerReset t cause) (x : BootState) :
    b.PowerReset { t with boot := x } cause := ⟨by rw [h.rest], h.regs, h.causes⟩

/-- What a command leaves that reset the part: AON's record of the causes and the boot flash as they are, every other field at its reset
value, and every block at its reset state. -/
def State.Cleared (b u : State) (cause : Option Field) : Prop :=
  (∀ f k, aonKeeps (f.key k) = false → f.settles = false → u.rd f k = State.reset.rd f k) ∧
  (∀ f, isField resetCauses (f.key 0) = true → u.rd f = if cause = some f then 1 else b.rd f) ∧
  u.flash = b.flash ∧ u.timebase = false ∧ u.planes = State.reset.planes ∧ u.aplls = State.reset.aplls ∧ u.outs = State.reset.outs ∧
  u.tods = State.reset.tods ∧ u.inputs = State.reset.inputs ∧ u.engines = State.reset.engines ∧
  u.tok = { State.reset.tok with downFrom := some b.now } ∧
  u.links = State.reset.links ∧ u.mbox = State.reset.mbox ∧ u.keeper = State.reset.keeper ∧ u.hif = State.reset.hif ∧
  u.events = State.reset.events ∧ u.faults = State.reset.faults ∧ u.pins.alive = false

/-- What a command leaves that begins the sequence at step 2 (R362): the reset state, the Granary kept, and FAULT_N asserted. -/
def State.Begun (b u : State) (cause : Option Field) : Prop :=
  b.Cleared u cause ∧ u.grn = b.grn ∧ u.boot.supplies = true ∧ u.boot.stepAt = b.now ∧ u.rd .DEV_STATE_TIMING = 0 ∧
    u.pins.faultN = true

/-- Settling raises no signal and reports nothing of a part that has just been reset. -/
theorem finish_cleared (s : State) {b t : State} {cause : Option Field} (h : b.PowerReset t cause) :
    ∃ u, finish s t = .next u ∧ Settles t u ∧ b.Cleared u cause ∧ u.pins.faultN = u.faultPin := by
  have calm : t.bitOf .CLK_STAT_FB 0 0 = false := by
    unfold State.bitOf
    rw [h.regs .CLK_STAT_FB 0 (by decide)]
    decide
  have low : t.pins.alive = false := by rw [h.rest]; rfl
  obtain ⟨u, hu, settled, -, faults, events, -⟩ := finish_calm s t calm
  refine ⟨u, hu, settled, ⟨fun f k lost quiet => (settled.regs f k quiet).trans (h.regs f k lost), fun f isCause => ?cause, ?_, ?_, ?_,
    ?_, ?_, ?_, ?_, ?_, ?_, ?_, ?_, ?_, ?_, ?events, ?faults, finish_alive hu calm low⟩, finish_faultN hu⟩
  case cause =>
    have mem : f ∈ resetCauses := (isField_key resetCauses f 0).1 isCause
    have quiet : ∀ g ∈ resetCauses, g.settles = false := by decide
    exact (settled.regs f 0 (quiet f mem)).trans (h.causes f mem)
  case events => rw [events, h.rest]; rfl
  case faults => rw [faults, h.rest]; rfl
  all_goals rw [settled.rest, h.rest]; rfl

/-- After a reset from which the sequence begins, step 2 is in progress and FAULT_N is asserted (R310, R362). -/
theorem finish_begun (s : State) {b t : State} {cause : Option Field} (h : b.PowerReset t cause) (keeps : t.grn = b.grn)
    (on : t.boot.supplies = true) (since : t.boot.stepAt = b.now) : ∃ u, finish s t = .next u ∧ b.Begun u cause := by
  obtain ⟨u, hu, settled, cleared, pin⟩ := finish_cleared s h
  have supplies : u.boot.supplies = true := by rw [settled.boot]; exact on
  have step2 : u.rd .DEV_STATE_TIMING = 0 := (settled.regs .DEV_STATE_TIMING 0 rfl).trans (h.regs .DEV_STATE_TIMING 0 (by decide))
  refine ⟨u, hu, cleared, settled.grn.trans keeps, supplies, by rw [settled.boot]; exact since, step2, ?_⟩
  rw [pin, State.faultPin, supplies, step2]
  rfl

/-! ## The resets -/

section
variable (b : State)

/-- A power reset alone records no cause. -/
theorem State.powerReset_powerReset : b.PowerReset b.powerReset none where
  rest := rfl
  regs f n lost := by rw [State.rd_powerReset, lost]; rfl
  causes f mem := by
    rw [State.rd_powerReset, aonKeeps_of_resetCause mem]
    rfl

theorem State.startStep2_powerReset : b.PowerReset b.powerReset.startStep2 none :=
  b.powerReset_powerReset.setBoot _

/-- A cause that is recorded reads 1. -/
theorem State.stepTwo_powerReset (cause : Field) (mem : cause ∈ resetCauses) : b.PowerReset (b.stepTwo cause) (some cause) where
  rest := rfl
  regs f n lost := by
    have other : cause ≠ f := by
      rintro rfl
      exact absurd ((aonKeeps_of_resetCause mem n).symm.trans lost) (by decide)
    exact (State.rd_wr_ne b.powerReset other 0 n _).trans (b.powerReset_powerReset.regs f n lost)
  causes f hf := by
    have reads : (b.stepTwo cause).rd f =
        if cause = f then (b.powerReset.rd cause ||| 1) % 2 ^ cause.info.width else b.powerReset.rd f := by
      refine (State.rd_wr b.powerReset cause f 0 0 _).trans ?_
      simp
    have one : ∀ g ∈ resetCauses, g.info.width = 1 := by decide
    rw [reads, one cause mem]
    by_cases h : cause = f
    · subst h
      simp
    · rw [if_neg h, if_neg (fun e => h (Option.some.inj e))]
      exact (b.powerReset_powerReset.causes f hf)

/-- The work that AON does on VBAT before the supplies return leaves no more of the reset part than its record (R273). -/
theorem State.supplyLoss_powerReset : b.PowerReset b.powerReset.examineWord.powerReset none := by
  have work := State.examineWord_within b.powerReset
  have again := b.powerReset.examineWord.powerReset_powerReset
  refine ⟨?_, again.regs, fun f mem => ?_⟩
  · rw [work.rest]
    rfl
  · have apart : ∀ g ∈ resetCauses, g.signal = false ∧ g.ofGranary = false := by decide
    obtain ⟨quiet, own⟩ := apart f mem
    exact ((again.causes f mem).trans (work.regs f 0 quiet own)).trans (b.powerReset_powerReset.causes f mem)

/-! ## The commands -/

variable (s : State)

/-- Supplies coming good begin the sequence; after a brown-out they bring no cause of their own (R342, R362). -/
theorem State.suppliesGood_begins (off : b.boot.supplies = false) :
    ∃ u, finish s b.suppliesGood = .next u ∧ b.Begun u (if b.boot.brown then none else some .RESET_CAUSE_POR) := by
  unfold State.suppliesGood
  rw [off]
  by_cases brown : b.boot.brown = true
  · simp only [brown, Bool.false_eq_true, if_false, if_true]
    exact finish_begun s b.startStep2_powerReset rfl rfl rfl
  · simp only [brown, Bool.false_eq_true, if_false]
    exact finish_begun s (b.stepTwo_powerReset .RESET_CAUSE_POR (by decide)) rfl rfl rfl

theorem State.suppliesGood_of_supplies (on : b.boot.supplies = true) : b.suppliesGood = b := by
  simp [State.suppliesGood, on]

/-- The loss of the main supplies leaves AON alone, in KEEP, and no pin driven (R18). -/
theorem State.supplyLoss_clears (falls : b.boot.supplies = true ∨ b.boot.brown = true) :
    ∃ u, finish s b.supplyLoss = .next u ∧ b.Cleared u none ∧ u.boot.supplies = false ∧ u.boot.keep = true ∧ u.pins.faultN = false := by
  have acts : (!b.boot.supplies && !b.boot.brown) = false := by
    rcases falls with h | h <;> simp [h]
  obtain ⟨u, hu, settled, cleared, pin⟩ := finish_cleared s (b.supplyLoss_powerReset.setBoot
    { b.powerReset.examineWord.powerReset.boot with keep := true })
  have off : u.boot.supplies = false := by rw [settled.boot]; rfl
  refine ⟨u, ?_, cleared, off, by rw [settled.boot], ?_⟩
  · unfold State.supplyLoss
    rw [acts]
    exact hu
  · rw [pin, State.faultPin, off]
    rfl

theorem State.supplyLoss_of_lost (off : b.boot.supplies = false) (brown : b.boot.brown = false) : b.supplyLoss = b := by
  simp [State.supplyLoss, off, brown]

end

end Sys2Proof.Machine
end

section
/-!
PROOFS. The cold reset (R371): what a write of SOFT_RESET with COLD and a key does.
-/
namespace Sys2Proof.Machine

/-- The word of SOFT_RESET that asks for a cold reset. -/
def coldWord (key : Byte) : Word := cmdWord [(.SOFT_RESET_COLD, 1), (.SOFT_RESET_KEY, key.toNat)]

theorem coldWord_toNat (key : Byte) : (coldWord key).toNat = 2 + key.toNat * 256 := by
  have := key.isLt
  rw [show coldWord key = BitVec.ofNat 32 (2 + key.toNat * 256) from rfl, BitVec.toNat_ofNat]
  omega

theorem coldWord_key (key : Byte) : fieldOf .SOFT_RESET_KEY (coldWord key) = key.toNat := by
  have := key.isLt
  rw [show fieldOf .SOFT_RESET_KEY (coldWord key) = ((coldWord key).toNat >>> 8) % 2 ^ 8 from rfl, coldWord_toNat,
    Nat.shiftRight_eq_div_pow]
  omega

/-- It asks for a cold reset, for neither of the others. -/
theorem coldWord_asks (key : Byte) : (coldWord key).toNat.testBit 0 = false ∧ (coldWord key).toNat.testBit 1 = true ∧
    (coldWord key).toNat.testBit 2 = false := by
  simp only [coldWord_toNat, Nat.testBit_eq_decide_div_mod_eq]
  refine ⟨?_, ?_, ?_⟩ <;> simp only [decide_eq_true_eq, decide_eq_false_iff_not] <;> omega

section
variable (b s : State) (m : Master) (key : Byte)

/-- Every field of SOFT_RESET keeps its value: the commands are write-only, and REFUSED is written 0. -/
theorem State.written_coldWord (f : Field) (mem : f ∈ Reg.SOFT_RESET.fields) :
    b.written f 0 0xFFFFFFFF (coldWord key).toNat = b.rd f 0 := by
  have refused : ((coldWord key).toNat >>> 16) % 2 = 0 := by
    have := key.isLt
    rw [coldWord_toNat, Nat.shiftRight_eq_div_pow]
    omega
  have fields : Reg.SOFT_RESET.fields =
    [.SOFT_RESET_WARM, .SOFT_RESET_COLD, .SOFT_RESET_RECOVER, .SOFT_RESET_KEY, .SOFT_RESET_REFUSED] := rfl
  rw [fields] at mem
  simp only [List.mem_cons, List.not_mem_nil, or_false] at mem
  rcases mem with rfl | rfl | rfl | rfl | rfl
  · rfl
  · rfl
  · rfl
  · rfl
  · have absorbs : ∀ x y : Nat, x ||| (x &&& y) = x := fun x y =>
      Nat.eq_of_testBit_eq (fun i => by simpa using fun here _ => here)
    rw [show b.written .SOFT_RESET_REFUSED 0 0xFFFFFFFF (coldWord key).toNat =
      (b.rd .SOFT_RESET_REFUSED 0 ^^^ (b.rd .SOFT_RESET_REFUSED 0 &&& (((coldWord key).toNat >>> 16) % 2 &&& 1))) |||
        (b.rd .SOFT_RESET_REFUSED 0 &&& b.setNow .SOFT_RESET_REFUSED 0) from rfl,
      refused, Nat.zero_and, Nat.and_zero, Nat.xor_zero, absorbs]

/-- So the write of the word itself changes no field. -/
theorem State.rd_writeCold (f : Field) (n : Nat) : (b.writeWord .SOFT_RESET 0 (coldWord key)).rd f n = b.rd f n := by
  unfold State.writeWord
  rw [State.rd_writeReg]
  split
  · rename_i here
    obtain ⟨mem, rfl⟩ := here
    rw [State.written_coldWord b key f mem, Nat.mod_eq_of_lt (b.rd_lt f 0)]
  · rfl

theorem State.writeCold_rest : b.writeWord .SOFT_RESET 0 (coldWord key) =
    { b with regs := (b.writeWord .SOFT_RESET 0 (coldWord key)).regs } := b.writeReg_rest _ _ _ _

/-- What the write does (R370 to R374): with the key of a system master the reset, or its refusal; else nothing. -/
theorem State.writeSoftReset_cold :
    let c := b.writeWord .SOFT_RESET 0 (coldWord key)
    b.writeSoftReset m (coldWord key) =
      if key = 0xA5 ∧ sysMaster m = true then
        if b.boot.keeperRan = false ∨ b.bit .DEV_STATE_WARM = true then c.flag .SOFT_RESET_REFUSED 0 else c.stepTwo .RESET_CAUSE_COLD
      else c := by
  intro c
  have ran : c.boot.keeperRan = b.boot.keeperRan := by rw [show c = _ from b.writeCold_rest key]
  have warm : c.bit .DEV_STATE_WARM = b.bit .DEV_STATE_WARM := congrArg (· != 0) (b.rd_writeCold key _ 0)
  have named : (fieldOf .SOFT_RESET_KEY (coldWord key) == 0xA5) = decide (key = 0xA5) := by
    rw [coldWord_key, Bool.eq_iff_iff, beq_iff_eq, decide_eq_true_eq]
    exact ⟨fun same => BitVec.eq_of_toNat_eq same, fun same => by rw [same]; rfl⟩
  obtain ⟨notWarm, cold, notRecover⟩ := coldWord_asks key
  unfold State.writeSoftReset
  rw [show b.writeWord .SOFT_RESET 0 (coldWord key) = c from rfl]
  extract_lets c' id isKey sys asksCold asksWarm refused
  have asks : asksCold = (decide (key = 0xA5) && sysMaster m) := by
    rw [show asksCold = (sys && (coldWord key).toNat.testBit 1) from rfl, cold, Bool.and_true]
    rw [show sys = (isKey && 1 ≤ id && id ≤ 3) from rfl, show isKey = decide (key = 0xA5) from named, Bool.and_assoc]
    rfl
  have noWarm : asksWarm = false := by
    rw [show asksWarm = (sys && (coldWord key).toNat.testBit 0) from rfl, notWarm, Bool.and_false]
  have refuses : refused = true ↔ b.boot.keeperRan = false ∨ b.bit .DEV_STATE_WARM = true := by
    rw [show refused = (!c.boot.keeperRan || c.bit .DEV_STATE_WARM) from rfl, ran, warm]
    simp
  rw [asks, noWarm, Bool.or_false, notRecover, Bool.and_false]
  simp only [Bool.and_eq_true, decide_eq_true_eq, refuses, Bool.false_eq_true, if_false]
  by_cases granted : key = 0xA5 ∧ sysMaster m = true
  · simp only [granted, and_self, if_true]
    rfl
  · simp only [granted, if_false]
    rfl

/-! ## The command -/

variable {m key}

theorem State.regWrite_cold (answers : b.answers m .SOFT_RESET) :
    b.regWrite m .SOFT_RESET 0 (coldWord key) = b.writeSoftReset m (coldWord key) := State.regWrite_word answers rfl _

/-- A cold reset that is granted begins the sequence at step 2, with its cause (R371). -/
theorem State.coldReset_begins (answers : b.answers m .SOFT_RESET) (isKey : key = 0xA5) (system : sysMaster m = true)
    (granted : ¬ (b.boot.keeperRan = false ∨ b.bit .DEV_STATE_WARM = true)) :
    ∃ u, finish s (b.regWrite m .SOFT_RESET 0 (coldWord key)) = .next u ∧ b.Begun u (some .RESET_CAUSE_COLD) := by
  rw [b.regWrite_cold answers, State.writeSoftReset_cold, if_pos ⟨isKey, system⟩, if_neg granted]
  have rest := b.writeCold_rest key
  have reset := (b.writeWord .SOFT_RESET 0 (coldWord key)).stepTwo_powerReset .RESET_CAUSE_COLD (by decide)
  refine finish_begun s ⟨?_, reset.regs, fun f mem => ?_⟩ ?_ rfl ?_
  · rw [rest]
    rfl
  · rw [← b.rd_writeCold key f 0]
    exact reset.causes f mem
  · rw [rest]
    rfl
  · rw [rest]
    rfl

/-- A refused one sets REFUSED (R374). -/
theorem State.coldReset_refused (answers : b.answers m .SOFT_RESET) (isKey : key = 0xA5) (system : sysMaster m = true)
    (refused : b.boot.keeperRan = false ∨ b.bit .DEV_STATE_WARM = true) :
    ∃ u, finish s (b.regWrite m .SOFT_RESET 0 (coldWord key)) = .next u ∧ u.bit .SOFT_RESET_REFUSED = true ∧
      b.Keeps u (fun f _ => f == .SOFT_RESET_REFUSED) := by
  rw [b.regWrite_cold answers, State.writeSoftReset_cold, if_pos ⟨isKey, system⟩, if_pos refused]
  obtain ⟨u, hu, settled, -⟩ := finish_settles s ((b.writeWord .SOFT_RESET 0 (coldWord key)).flag .SOFT_RESET_REFUSED 0)
  refine ⟨u, hu, ?_, State.Keeps.settle ⟨?_, fun f n out quiet => ?_⟩ settled⟩
  · have reads : u.rd .SOFT_RESET_REFUSED = ((b.writeWord .SOFT_RESET 0 (coldWord key)).rd .SOFT_RESET_REFUSED 0 ||| 1) % 2 :=
      (settled.regs _ 0 rfl).trans (State.rd_flag _ _ _ _ _ rfl)
    simp [State.bit, reads]
  · rw [State.flag_rest, b.writeCold_rest key]
  · have other : Field.SOFT_RESET_REFUSED ≠ f := by
      rintro rfl
      simp at out
    have unreported : f.signal = false := by
      revert quiet
      cases f <;> simp [Field.settles, Field.signal]
    rw [State.rd_flag _ _ _ _ _ unreported, if_neg (fun e => other e.1)]
    exact b.rd_writeCold key f n

/-- Without the key, or from another master, the write does nothing (R371). -/
theorem State.coldReset_ignored (answers : b.answers m .SOFT_RESET) (denied : key ≠ 0xA5 ∨ sysMaster m = false) :
    ∃ u, finish s (b.regWrite m .SOFT_RESET 0 (coldWord key)) = .next u ∧ b.Keeps u (fun _ _ => false) := by
  have no : ¬ (key = 0xA5 ∧ sysMaster m = true) := fun ⟨isKey, system⟩ =>
    denied.elim (absurd isKey) (fun h => absurd (h.symm.trans system) (by decide))
  rw [b.regWrite_cold answers, State.writeSoftReset_cold, if_neg no]
  obtain ⟨u, hu, settled, -⟩ := finish_settles s (b.writeWord .SOFT_RESET 0 (coldWord key))
  refine ⟨u, hu, State.Keeps.settle ⟨?_, fun f n _ _ => b.rd_writeCold key f n⟩ settled⟩
  rw [b.writeCold_rest key]

end

end Sys2Proof.Machine
end

section
/-!
PROOFS. Step 3 of the sequence (R362, R364): the silicon trims come into force, and the engines' memories are cleared.
-/
namespace Sys2Proof.Machine

/-! ## A trim and its table entry -/

/-- A number of `w` bits lies in the signed range of `w` bits. -/
theorem toSigned_mem (w v : Nat) (hw : 0 < w) : -(2 ^ (w - 1) : Int) ≤ toSigned w v ∧ toSigned w v < 2 ^ (w - 1) := by
  have halves : 2 ^ w = 2 * 2 ^ (w - 1) := by
    rw [← Nat.pow_succ']
    congr 1
    omega
  have below : v % 2 ^ w < 2 ^ w := Nat.mod_lt _ (Nat.two_pow_pos w)
  have cast : ((2 ^ (w - 1) : Nat) : Int) = 2 ^ (w - 1) := by norm_cast
  unfold toSigned
  rw [← cast, halves] at *
  generalize 2 ^ (w - 1) = h at *
  generalize v % (2 * h) = r at *
  simp only [Int.ofNat_eq_natCast]
  split <;> omega

/-- A signed value within the range of `w` bits survives its two's complement. -/
theorem toSigned_ofSigned (w : Nat) (x : Int) (hw : 0 < w) (low : -(2 ^ (w - 1) : Int) ≤ x) (high : x < 2 ^ (w - 1)) :
    toSigned w (ofSigned w x) = x := by
  have halves : 2 ^ w = 2 * 2 ^ (w - 1) := by
    rw [← Nat.pow_succ']
    congr 1
    omega
  have cast : ((2 ^ (w - 1) : Nat) : Int) = 2 ^ (w - 1) := by norm_cast
  unfold toSigned ofSigned
  rw [← cast] at low high
  rw [halves]
  generalize 2 ^ (w - 1) = h at *
  have wrapped : ((x % Int.ofNat (2 * h)).toNat : Int) = if 0 ≤ x then x else x + 2 * h := by
    simp only [Int.ofNat_eq_natCast]
    split
    · rw [Int.emod_eq_of_lt (by omega) (by omega)]
      omega
    · rw [← Int.add_emod_right, Int.emod_eq_of_lt (by omega) (by omega)]
      omega
  generalize (x % Int.ofNat (2 * h)).toNat = r at wrapped
  have below : r < 2 * h := by split at wrapped <;> omega
  simp only [Int.ofNat_eq_natCast, Nat.mod_eq_of_lt below]
  split at wrapped <;> split <;> omega

theorem toSigned_mod (w v : Nat) : toSigned w (v % 2 ^ w) = toSigned w v := by
  unfold toSigned
  rw [Nat.mod_mod]

/-- A trim within its width is its own table entry. -/
theorem toSigned_trimSum (w : Nat) (x : Int) (hw : 0 < w) (low : -(2 ^ (w - 1) : Int) ≤ x) (high : x < 2 ^ (w - 1)) :
    toSigned w (trimSum w x % 2 ^ w) = x := by
  unfold trimSum
  rw [if_pos ⟨low, high⟩, toSigned_mod, toSigned_ofSigned w x hw low high]

/-! ## Passes over a block -/

section
variable {k : Nat} {step : State → Fin k → State} {g : Field} {i : Nat}

/-- A pass that never touches a field leaves it. -/
theorem State.rd_forAll_miss (miss : ∀ s j, (step s j).rd g i = s.rd g i) (s : State) : (s.forAll k step).rd g i = s.rd g i :=
  State.forAll_induct (R := fun s t => t.rd g i = s.rd g i) (fun _ => rfl) (fun _ _ _ a b => b.trans a) k step miss s

/-- A pass of which one part alone touches a field leaves the value that this part gives it; `I` holds all along. -/
theorem State.rd_forAll_hit {I : State → Prop} {c : Fin k} {v : Nat} (keeps : ∀ s j, I s → I (step s j))
    (hit : ∀ s, I s → (step s c).rd g i = v) (miss : ∀ s j, j ≠ c → (step s j).rd g i = s.rd g i) (s : State) (hI : I s) :
    (s.forAll k step).rd g i = v := by
  have pass : ∀ (l : List (Fin k)) (s : State), I s → c ∈ l ∨ s.rd g i = v → (l.foldl step s).rd g i = v := by
    intro l
    induction l with
    | nil => exact fun s _ done => done.resolve_left (List.not_mem_nil)
    | cons a l ih =>
      intro s hs done
      refine ih _ (keeps s a hs) ?_
      by_cases here : a = c
      · exact .inr (here ▸ hit s hs)
      · refine done.imp (fun mem => ?_) (fun reads => (miss s a here).trans reads)
        exact (List.mem_cons.1 mem).resolve_left (fun e => here e.symm)
  exact pass _ s hI (.inl (List.mem_finRange c))

end

/-! ## The silicon tables (R96, R357) -/

/-- The fields of an APLL's table. -/
def Field.ofTable (f : Field) : Bool := f == .APLLx_GAIN || f == .APLLx_TAP || f == .APLLx_TRIM_CTRL_SRC

/-- `t` is `s` but for tables. -/
structure Tabled (s t : State) : Prop where
  rest : t = { s with regs := t.regs }
  regs : ∀ f n, f.ofTable = false → t.rd f n = s.rd f n

theorem Tabled.refl (s : State) : Tabled s s := ⟨rfl, fun _ _ _ => rfl⟩

theorem Tabled.trans {s t u : State} (a : Tabled s t) (b : Tabled t u) : Tabled s u where
  rest := by rw [b.rest, a.rest]
  regs f n out := (b.regs f n out).trans (a.regs f n out)

theorem Tabled.wr (s : State) (f : Field) (n v : Nat) (hf : f.ofTable = true) : Tabled s (s.wr f n v) where
  rest := rfl
  regs g m out := State.rd_wr_ne s (fun e => by rw [e, out] at hf; cases hf) n m v

theorem Tabled.forAll {k : Nat} {step : State → Fin k → State} (h : ∀ s j, Tabled s (step s j)) (s : State) :
    Tabled s (s.forAll k step) :=
  State.forAll_induct Tabled.refl (fun _ _ _ => Tabled.trans) k step h s

theorem Tabled.boot {s t : State} (h : Tabled s t) : t.boot = s.boot := by rw [h.rest]

/-- The taps of one bin at their trims. -/
def State.loadTaps (s : State) (x : Fin 2) (b : Fin 16) : State :=
  s.forAll 16 (fun s j => s.wr .APLLx_TAP (256 * x + 16 * b + j) (trimSum 16 (s.otpTap x b j + 0)))

/-- One bin at its trims. -/
def State.loadBin (s : State) (x : Fin 2) (b : Fin 16) : State :=
  (s.wr .APLLx_GAIN (16 * x + b) (trimSum 12 (s.otpGain x b + 0))).loadTaps x b

theorem State.loadSilicon_eq (s : State) :
    s.loadSilicon = s.forAll 2 (fun s x => (s.forAll 16 (fun s b => s.loadBin x b)).wrB .APLLx_TRIM_CTRL_SRC x false) := rfl

theorem State.loadTaps_tabled (s : State) (x : Fin 2) (b : Fin 16) : Tabled s (s.loadTaps x b) :=
  Tabled.forAll (fun _ _ => Tabled.wr _ _ _ _ rfl) s

theorem State.loadBin_tabled (s : State) (x : Fin 2) (b : Fin 16) : Tabled s (s.loadBin x b) :=
  (Tabled.wr _ _ _ _ rfl).trans (State.loadTaps_tabled _ x b)

theorem State.loadSilicon_tabled (s : State) : Tabled s s.loadSilicon := by
  rw [State.loadSilicon_eq]
  exact Tabled.forAll (fun _ x => (Tabled.forAll (fun _ b => State.loadBin_tabled _ x b) _).trans (Tabled.wr _ _ _ _ rfl)) s

section
variable (s : State) (x : Fin 2) (bin j : Fin 16)

theorem State.rd_gain_loadTaps (n : Nat) : (s.loadTaps x bin).rd .APLLx_GAIN n = s.rd .APLLx_GAIN n :=
  State.rd_forAll_miss (fun _ _ => State.rd_wr_ne _ (by decide) _ _ _) s

/-- The gain of each bin at its trim. -/
theorem State.rd_gain_loadSilicon :
    s.loadSilicon.rd .APLLx_GAIN (16 * x.val + bin.val) = trimSum 12 (s.otpGain x bin + 0) % 2 ^ 12 := by
  rw [State.loadSilicon_eq]
  refine State.rd_forAll_hit (I := fun t => t.boot = s.boot) (c := x) (fun t y same => ?_) (fun t same => ?_) (fun t y other => ?_) s rfl
  · exact (Tabled.boot ((Tabled.forAll (fun _ b => State.loadBin_tabled _ y b) t).trans (Tabled.wr _ _ _ _ rfl))).trans same
  · refine (State.rd_wr_ne _ (by decide) _ _ _).trans ?_
    refine State.rd_forAll_hit (I := fun t => t.boot = s.boot) (c := bin) (fun t b same => ?_) (fun t same => ?_)
      (fun t b other => ?_) t same
    · exact (State.loadBin_tabled t x b).boot.trans same
    · refine (State.rd_gain_loadTaps _ x bin _).trans ((State.rd_wr_self _ _ _ _).trans ?_)
      rw [show t.otpGain x bin = s.otpGain x bin by unfold State.otpGain; rw [same]]
      rfl
    · refine (State.rd_gain_loadTaps _ x b _).trans (State.rd_wr_inst _ _ _ (fun e => other (Fin.ext ?_)) _)
      omega
  · refine (State.rd_wr_ne _ (by decide) _ _ _).trans (State.rd_forAll_miss (fun t b => ?_) t)
    refine (State.rd_gain_loadTaps _ y b _).trans (State.rd_wr_inst _ _ _ (fun e => other (Fin.ext ?_)) _)
    omega

theorem State.rd_tap_loadTaps :
    (s.loadTaps x bin).rd .APLLx_TAP (256 * x.val + 16 * bin.val + j.val) = trimSum 16 (s.otpTap x bin j + 0) % 2 ^ 16 := by
  unfold State.loadTaps
  refine State.rd_forAll_hit (I := fun t => t.boot = s.boot) (c := j) (fun t i same => (t.wr_boot _ _ _).trans same)
    (fun t same => ?_) (fun t i other => ?_) s rfl
  · rw [State.rd_wr_self, State.otpTap, State.otpTap, same]
    rfl
  · refine State.rd_wr_inst _ _ _ (fun e => other (Fin.ext ?_)) _
    omega

theorem State.rd_tap_loadTaps_other (b : Fin 16) (y : Fin 2) (other : y ≠ x ∨ b ≠ bin) :
    (s.loadTaps y b).rd .APLLx_TAP (256 * x.val + 16 * bin.val + j.val) = s.rd .APLLx_TAP (256 * x.val + 16 * bin.val + j.val) := by
  refine State.rd_forAll_miss (fun t i => State.rd_wr_inst _ _ _ (fun e => ?_) _) s
  rcases other with h | h
  · exact h (Fin.ext (by omega))
  · exact h (Fin.ext (by omega))

theorem State.rd_tap_loadBin_other (b : Fin 16) (y : Fin 2) (other : y ≠ x ∨ b ≠ bin) :
    (s.loadBin y b).rd .APLLx_TAP (256 * x.val + 16 * bin.val + j.val) = s.rd .APLLx_TAP (256 * x.val + 16 * bin.val + j.val) :=
  (State.rd_tap_loadTaps_other _ x bin j b y other).trans (State.rd_wr_ne _ (by decide) _ _ _)

/-- Each tap of each bin at its trim. -/
theorem State.rd_tap_loadSilicon :
    s.loadSilicon.rd .APLLx_TAP (256 * x.val + 16 * bin.val + j.val) = trimSum 16 (s.otpTap x bin j + 0) % 2 ^ 16 := by
  rw [State.loadSilicon_eq]
  refine State.rd_forAll_hit (I := fun t => t.boot = s.boot) (c := x) (fun t y same => ?_) (fun t same => ?_) (fun t y other => ?_) s rfl
  · exact (Tabled.boot ((Tabled.forAll (fun _ b => State.loadBin_tabled _ y b) t).trans (Tabled.wr _ _ _ _ rfl))).trans same
  · refine (State.rd_wr_ne _ (by decide) _ _ _).trans ?_
    refine State.rd_forAll_hit (I := fun t => t.boot = s.boot) (c := bin) (fun t b same => ?_) (fun t same => ?_)
      (fun t b other => ?_) t same
    · exact (State.loadBin_tabled t x b).boot.trans same
    · refine (State.rd_tap_loadTaps _ x bin j).trans ?_
      rw [State.otpTap, State.otpTap, State.wr_boot, same]
    · exact State.rd_tap_loadBin_other t x bin j b x (.inr other)
  · exact (State.rd_wr_ne _ (by decide) _ _ _).trans
      (State.rd_forAll_miss (fun t b => State.rd_tap_loadBin_other t x bin j b y (.inl other)) t)

theorem State.rdI_gain_loadSilicon : s.loadSilicon.rdI .APLLx_GAIN (16 * x.val + bin.val) = s.otpGain x bin := by
  have range : -(2 ^ (12 - 1) : Int) ≤ s.otpGain x bin ∧ s.otpGain x bin < 2 ^ (12 - 1) := by
    unfold State.otpGain
    split
    · decide
    · exact toSigned_mem 12 _ (by decide)
  refine (congrArg (toSigned 12) (s.rd_gain_loadSilicon x bin)).trans ?_
  rw [Int.add_zero]
  exact toSigned_trimSum 12 _ (by decide) range.1 range.2

theorem State.rdI_tap_loadSilicon :
    s.loadSilicon.rdI .APLLx_TAP (256 * x.val + 16 * bin.val + j.val) = s.otpTap x bin j := by
  have range : -(2 ^ (16 - 1) : Int) ≤ s.otpTap x bin j ∧ s.otpTap x bin j < 2 ^ (16 - 1) := by
    unfold State.otpTap
    split
    · decide
    · exact toSigned_mem 16 _ (by decide)
  refine (congrArg (toSigned 16) (s.rd_tap_loadSilicon x bin j)).trans ?_
  rw [Int.add_zero]
  exact toSigned_trimSum 16 _ (by decide) range.1 range.2

end

end Sys2Proof.Machine
end

section
/-!
PROOFS. The end of step 3 (R362, R364), and power-on, supply loss, cold reset and the trim load together (O57).
-/
namespace Sys2Proof.Machine

/-! ## The end of step 3 -/

/-- Whether a source is recorded follows from its mask, the open windows and the instant (R302, R306). -/
theorem State.records_congr {s t : State} (mask : t.rd .FLT_MASK = s.rd .FLT_MASK) (faults : t.faults = s.faults) (now : t.now = s.now)
    (src : Nat) : t.records src = s.records src := by
  unfold State.records State.windowsOver State.bitOf
  rw [mask, faults, now]

/-- What stands once step 3 has ended, with the check of the trims `otpOk` (R362, R364). -/
structure State.Trimmed (b u : State) (otpOk : Bool) : Prop where
  timing : u.rd .DEV_STATE_TIMING = 2
  check : u.boot.otpBad = !otpOk
  since : u.boot.stepAt = b.now
  memories : ∀ e : Fin 4, (u.engines[e]).imem = [] ∧ (u.engines[e]).dmem = []
  failed : otpOk = false → u.rd .DEV_STATE_ERR = 4 ∧ (b.records 62 = true → u.bitOf .FLT_STATUS 0 62 = true)
  gain : ∀ x : Fin 2, ∀ bin : Fin 16,
    u.rdI .APLLx_GAIN (16 * x.val + bin.val) = if otpOk then toSigned 12 (Config.trimGain x bin) else 0
  tap : ∀ x : Fin 2, ∀ bin j : Fin 16,
    u.rdI .APLLx_TAP (256 * x.val + 16 * bin.val + j.val) = if otpOk then toSigned 16 (Config.trimTap x bin j) else 0

theorem State.Trimmed.settle {b t u : State} {otpOk : Bool} (h : b.Trimmed t otpOk) (settled : Settles t u) : b.Trimmed u otpOk where
  timing := (settled.regs _ _ rfl).trans h.timing
  check := by rw [settled.boot, h.check]
  since := by rw [settled.boot, h.since]
  memories e := by
    rw [settled.engines]
    exact h.memories e
  failed bad := ⟨(settled.regs _ _ rfl).trans (h.failed bad).1, fun recorded => settled.flts 62 (by decide) ((h.failed bad).2 recorded)⟩
  gain x bin := (congrArg (toSigned 12) (settled.regs _ _ rfl)).trans (h.gain x bin)
  tap x bin j := (congrArg (toSigned 16) (settled.regs _ _ rfl)).trans (h.tap x bin j)

section
variable (b : State) (otpOk : Bool)

/-- The outcome of the check of the trims, noted. -/
def State.noteCheck : State := { b with boot := { b.boot with otpBad := !otpOk, stepAt := b.now } }

/-- The trims in force and the memories cleared, before the check is reported. -/
def State.trimsInForce : State := (b.noteCheck otpOk).loadSilicon.clearMemories

/-- A failed check reported (R364). -/
def State.checkReported : State :=
  if otpOk then b.trimsInForce otpOk else ((b.trimsInForce otpOk).raise 62).setDev .DEV_STATE_ERR 4

theorem State.rd_clearMemories (s : State) (f : Field) (n : Nat) : s.clearMemories.rd f n = s.rd f n := rfl

theorem State.rd_noteCheck (f : Field) (n : Nat) : (b.noteCheck otpOk).rd f n = b.rd f n := rfl

theorem State.trimsInForce_rest : b.trimsInForce otpOk =
    { b with regs := (b.noteCheck otpOk).loadSilicon.regs, boot := (b.noteCheck otpOk).boot
             engines := b.engines.map (fun x => { x with imem := [], dmem := [] }) } := by
  unfold State.trimsInForce
  generalize hs : (b.noteCheck otpOk).loadSilicon = s
  have loaded := State.loadSilicon_tabled (b.noteCheck otpOk)
  rw [hs] at loaded
  rw [loaded.rest]
  rfl

/-- What the loading of the trims leaves alone. -/
theorem State.rd_trimsInForce (f : Field) (n : Nat) (out : f.ofTable = false) : (b.trimsInForce otpOk).rd f n = b.rd f n := by
  rw [State.trimsInForce, State.rd_clearMemories, (State.loadSilicon_tabled _).regs f n out, State.rd_noteCheck]

theorem State.trimsInForce_boot : (b.trimsInForce otpOk).boot = { b.boot with otpBad := !otpOk, stepAt := b.now } := by
  rw [State.trimsInForce_rest]
  rfl

theorem State.trimsInForce_memories (e : Fin 4) :
    ((b.trimsInForce otpOk).engines[e]).imem = [] ∧ ((b.trimsInForce otpOk).engines[e]).dmem = [] := by
  simp [State.trimsInForce_rest]

theorem State.trimsInForce_records (src : Nat) : (b.trimsInForce otpOk).records src = b.records src :=
  State.records_congr (b.rd_trimsInForce otpOk .FLT_MASK 0 rfl) (by rw [State.trimsInForce_rest]) (by rw [State.trimsInForce_rest]) src

theorem State.rdI_gain_trimsInForce (x : Fin 2) (bin : Fin 16) : (b.trimsInForce otpOk).rdI .APLLx_GAIN (16 * x.val + bin.val) =
    if otpOk then toSigned 12 (Config.trimGain x bin) else 0 := by
  rw [State.rdI, State.trimsInForce, State.rd_clearMemories, ← State.rdI, State.rdI_gain_loadSilicon]
  cases otpOk <;> rfl

theorem State.rdI_tap_trimsInForce (x : Fin 2) (bin j : Fin 16) :
    (b.trimsInForce otpOk).rdI .APLLx_TAP (256 * x.val + 16 * bin.val + j.val) =
      if otpOk then toSigned 16 (Config.trimTap x bin j) else 0 := by
  rw [State.rdI, State.trimsInForce, State.rd_clearMemories, ← State.rdI, State.rdI_tap_loadSilicon]
  cases otpOk <;> rfl

/-- The report raises FSRC62 and leaves OTP_ERR. -/
theorem State.checkReported_signals (bad : otpOk = false) :
    Signals (((b.trimsInForce otpOk).raise 62).wr .DEV_STATE_ERR 0 4) (b.checkReported otpOk) := by
  unfold State.checkReported
  rw [if_neg (by simp [bad])]
  exact State.setDev_signals _ _ _ (by decide)

theorem State.checkReported_of_ok (ok : otpOk = true) : b.checkReported otpOk = b.trimsInForce otpOk := if_pos ok

/-- The report leaves the tables, the memories and the course of start-up. -/
theorem State.checkReported_rest : (b.checkReported otpOk).boot = (b.trimsInForce otpOk).boot ∧
    (b.checkReported otpOk).engines = (b.trimsInForce otpOk).engines ∧
    ∀ f n, f.signal = false → f ≠ .DEV_STATE_ERR → (b.checkReported otpOk).rd f n = (b.trimsInForce otpOk).rd f n := by
  cases h : otpOk with
  | true => exact ⟨rfl, rfl, fun _ _ _ _ => rfl⟩
  | false =>
    have reported := b.checkReported_signals false rfl
    have raised := State.raise_signals (b.trimsInForce false) 62 {}
    exact ⟨reported.boot.trans raised.boot, reported.engines.trans raised.engines, fun f n quiet other =>
      (reported.regs f n quiet).trans ((State.rd_wr_ne _ (Ne.symm other) _ _ _).trans (raised.regs f n quiet))⟩

/-- What is left of step 3 once the check has been reported: the work of AON, the reports of start-up, and TIMING. -/
theorem State.trimLoaded_after (due : b.boot.supplies = true ∧ b.rd .DEV_STATE_TIMING = 1 ∧ b.boot.stepAt + 220000000 ≤ b.now) :
    ∃ w k, Within Field.ofGranary (b.checkReported otpOk) w ∧ b.trimLoaded otpOk = (w.setKeeper k).setDev .DEV_STATE_TIMING 2 := by
  obtain ⟨on, trim, late⟩ := due
  unfold State.trimLoaded
  rw [if_neg (by simp [on, trim, late])]
  extract_lets boot noted loaded checked examined identified reported keeper finished
  have work : Within Field.ofGranary checked examined := State.examineWord_within checked
  have identity : Within Field.ofGranary examined identified := Within.ite _ (Within.refl _ _) (State.deriveIdentity_within examined)
  have reports : Within Field.ofGranary identified reported := (State.reportKeep_within identified).trans (State.postPrev_within _)
  exact ⟨reported, _, (work.trans identity).trans reports, rfl⟩

/-- Step 3 ends with the trims in force or nominal, the memories cleared and TIMING at its next value (R362, R364). -/
theorem State.trimLoaded_trimmed (due : b.boot.supplies = true ∧ b.rd .DEV_STATE_TIMING = 1 ∧ b.boot.stepAt + 220000000 ≤ b.now) :
    b.Trimmed (b.trimLoaded otpOk) otpOk := by
  obtain ⟨w, k, work, eq⟩ := b.trimLoaded_after otpOk due
  have timed : Signals ((w.setKeeper k).wr .DEV_STATE_TIMING 0 2) (b.trimLoaded otpOk) := by
    rw [eq]
    exact State.setDev_signals _ _ _ (by decide)
  obtain ⟨bootKept, enginesKept, regsKept⟩ := b.checkReported_rest otpOk
  have boot : (b.trimLoaded otpOk).boot = { b.boot with otpBad := !otpOk, stepAt := b.now } := by
    rw [timed.boot, ← b.trimsInForce_boot otpOk, ← bootKept]
    change w.boot = _
    rw [work.rest]
  have engines : (b.trimLoaded otpOk).engines = (b.trimsInForce otpOk).engines := by
    rw [timed.engines, ← enginesKept]
    change w.engines = _
    rw [work.rest]
  have reads : ∀ f n, f.signal = false → f.ofGranary = false → f ≠ .DEV_STATE_TIMING →
      (b.trimLoaded otpOk).rd f n = (b.checkReported otpOk).rd f n := fun f n quiet own other =>
    (timed.regs f n quiet).trans ((State.rd_wr_ne _ (Ne.symm other) _ _ _).trans (work.regs f n quiet own))
  have table : ∀ f n, f.signal = false → f.ofGranary = false → f ≠ .DEV_STATE_TIMING → f ≠ .DEV_STATE_ERR →
      (b.trimLoaded otpOk).rd f n = (b.trimsInForce otpOk).rd f n := fun f n quiet own h1 h2 =>
    (reads f n quiet own h1).trans (regsKept f n quiet h2)
  refine ⟨(timed.regs .DEV_STATE_TIMING 0 rfl).trans (State.rd_wr_self _ _ _ _), by rw [boot], by rw [boot],
    fun e => ?_, fun bad => ⟨?_, ?_⟩,
    fun x bin => ?_, fun x bin j => ?_⟩
  · rw [engines]
    exact b.trimsInForce_memories otpOk e
  · exact (reads .DEV_STATE_ERR 0 rfl (by decide) (by decide)).trans
      (((b.checkReported_signals otpOk bad).regs .DEV_STATE_ERR 0 rfl).trans (State.rd_wr_self _ _ _ _))
  · intro recorded
    have raised := State.raise_status (b.trimsInForce otpOk) 62 {} ((b.trimsInForce_records otpOk 62).trans recorded) (by decide)
    have reported : (b.checkReported otpOk).bitOf .FLT_STATUS 0 62 = true := by
      refine (b.checkReported_signals otpOk bad).flts 62 (by decide) ?_
      rw [State.bitOf, State.rd_wr_ne _ (by decide)]
      exact raised
    refine timed.flts 62 (by decide) ?_
    rw [State.bitOf, State.rd_wr_ne _ (by decide)]
    exact work.flts 62 (by decide) reported
  · refine (congrArg (toSigned 12) (table .APLLx_GAIN _ rfl (by decide) (by decide) (by decide))).trans ?_
    exact b.rdI_gain_trimsInForce otpOk x bin
  · refine (congrArg (toSigned 16) (table .APLLx_TAP _ rfl (by decide) (by decide) (by decide))).trans ?_
    exact b.rdI_tap_trimsInForce otpOk x bin j

theorem State.trimLoaded_of_early (early : ¬ (b.boot.supplies = true ∧ b.rd .DEV_STATE_TIMING = 1 ∧ b.boot.stepAt + 220000000 ≤ b.now)) :
    b.trimLoaded otpOk = b := by
  unfold State.trimLoaded
  refine if_pos ?_
  simp only [Bool.or_eq_true, Bool.not_eq_true', decide_eq_true_eq]
  by_cases on : b.boot.supplies = true
  · by_cases trim : b.rd .DEV_STATE_TIMING = 1
    · exact .inr (Nat.lt_of_not_le (fun late => early ⟨on, trim, late⟩))
    · exact .inl (.inr trim)
  · exact .inl (.inl (eq_false_of_ne_true on))

end

/-! ## The statement -/

/-- Settles O57: each reset of the part leaves a state of `State.PowerReset`, which settles calmly (`finish_cleared`); a write of SOFT_RESET
resets, is refused or does nothing (`State.writeSoftReset_cold`); and step 3 is `State.trimLoaded_trimmed`. -/
theorem powerResets : Obligations.PowerResets := by
  intro s t m key otpOk b cleared begun refused step3
  refine ⟨fun off => b.suppliesGood_begins s off, fun on => finish_keeps s (b.suppliesGood_of_supplies on) _,
    fun falls => b.supplyLoss_clears s falls, fun off brown => finish_keeps s (b.supplyLoss_of_lost off brown) _,
    fun answers => ⟨b.coldReset_begins s answers, b.coldReset_refused s answers, b.coldReset_ignored s answers⟩, fun due => ?_,
    fun early => finish_keeps s (b.trimLoaded_of_early otpOk early) _⟩
  obtain ⟨u, hu, settled, -⟩ := finish_settles s (b.trimLoaded otpOk)
  have trimmed := (b.trimLoaded_trimmed otpOk due).settle settled
  exact ⟨u, hu, trimmed.timing, trimmed.check, trimmed.since, trimmed.memories, trimmed.failed,
    fun x bin j => ⟨trimmed.gain x bin, trimmed.tap x bin j⟩⟩

end Sys2Proof.Machine
end

section
/-!
PROOFS. What the statements of the timing planes share: the end of a command, and reads of fields and planes after one of them is set.
-/
namespace Sys2Proof.Machine

/-! ## The end of a command -/

/-- A command completes with what settling its handler's state keeps. -/
theorem finish_completes {s t : State} {post : State → Prop} (h : ∀ u, Settles t u → post u) :
    ∃ u, finish s t = .next u ∧ post u := by
  obtain ⟨u, hu, settled, -⟩ := finish_settles s t
  exact ⟨u, hu, h u settled⟩

theorem Settles.bit {t u : State} (h : Settles t u) (f : Field) (n : Nat) (quiet : f.settles = false) : u.bit f n = t.bit f n := by
  rw [State.bit, h.regs f n quiet, State.bit]

/-- A handler that touches only planes and the fields that `may` names leaves a frame beside the planes. -/
theorem Settles.keepsButPlanes {b t u : State} {may : Field → Nat → Bool} (settled : Settles t u)
    (rest : t = { b with regs := t.regs, planes := t.planes }) (regs : ∀ f n, may f n = false → t.rd f n = b.rd f n) :
    State.Keeps b { u with planes := b.planes } may where
  rest := by rw [settled.rest, rest]
  regs f n out quiet := (settled.regs f n quiet).trans (regs f n out)

/-- A frame keeps every plane. -/
theorem State.Keeps.planes {b u : State} {may : Field → Nat → Bool} (h : b.Keeps u may) : u.planes = b.planes := by rw [h.rest]

/-! ## Fields and planes -/

/-- A field written with the value that it holds reads as before, and so does every other. -/
theorem State.rd_wr_own (s : State) (f g : Field) (n k : Nat) : (s.wr f n (s.rd f n)).rd g k = s.rd g k := by
  rw [State.rd_wr]
  split
  · rename_i same
    obtain ⟨rfl, rfl⟩ := same
    exact Nat.mod_eq_of_lt (s.rd_lt f n)
  · rfl

/-- Bits set by hardware join the field that holds them; every other field is as before. -/
theorem State.rd_hwSet (s : State) (f g : Field) (n k x : Nat) :
    (s.hwSet f n x).rd g k = if f = g ∧ n = k then (s.rd f n ||| x) % 2 ^ f.info.width else s.rd g k :=
  State.rd_wr s f g n k _

theorem State.setPlane_plane (s : State) (p : Fin 4) (x : PlaneState) : (s.setPlane p x).planes[p] = x := by simp

/-- The other planes stand where one is set. -/
theorem State.setPlane_other (s : State) {p q : Fin 4} (x : PlaneState) (h : q ≠ p) : (s.setPlane p x).planes[q] = s.planes[q] := by
  have apart : p.val ≠ q.val := fun same => h (Fin.ext same.symm)
  simp [apart]

end Sys2Proof.Machine
end

section
/-!
PROOFS. The commit of a speculation region (O16): what BEGIN, GO and ABANDON of PLn_COMMIT do.
-/
namespace Sys2Proof.Machine

/-! ## Event lines -/

/-- A pulse leaves its line pending in every engine (R171). -/
theorem State.pulse_pending (s : State) (i : Nat) (e : Fin 4) (line : i < 64) : ((s.pulse i).evpend[e]).getLsbD i = true := by
  have own : (BitVec.ofNat 64 (2 ^ i)).getLsbD i = true := by
    rw [BitVec.getLsbD_ofNat, Nat.testBit_two_pow_self, decide_eq_true line]
    rfl
  unfold State.pulse
  simp only [Fin.getElem_fin, Vector.getElem_map, BitVec.getLsbD_or, own, Bool.or_true]

/-! ## Regions -/

section
variable (s : State) (p : Fin 4)

/-- The region of plane `p` has closed with the result `k` (R70, R74, R171). -/
def State.RegionClosed (u : State) (p : Fin 4) (k : Nat) : Prop :=
  u.rd .PLn_COMMIT_RESULT p = k ∧ u.bit .PLn_COMMIT_BUSY p = false ∧ (u.planes[p]).region = none ∧
    u.bit .PLn_EV_REGION_END p = true ∧ ∀ e : Fin 4, (u.evpend[e]).getLsbD (20 + p) = true

/-- A region that closes shows its result, and raises its flag and its event line. -/
theorem State.closeRegion_closed (k : Nat) (fits : k < 16) : (s.closeRegion p k).RegionClosed p k := by
  unfold State.closeRegion
  extract_lets pl s1 s2 s3
  have flagged : Signals (s2.flag .PLn_EV_REGION_END p) s3 := State.pulse_signals _ _
  have last : Signals s3 (s3.log (0x54 + p) (s3.regVal .PLn_EV p)) := State.log_signals _ _ _
  have signals := flagged.trans last
  have reads : ∀ f n, f.signal = false →
      (s3.log (0x54 + p) (s3.regVal .PLn_EV p)).rd f n = (s2.flag .PLn_EV_REGION_END p).rd f n := signals.regs
  refine ⟨?_, ?_, ?_, ?_, fun e => last.lines e _ (State.pulse_pending _ _ e (by omega))⟩
  · rw [reads _ _ rfl, State.rd_flag _ _ _ _ _ rfl, if_neg (by simp), State.rd_wr_ne _ (by simp), State.rd_wr_self]
    exact Nat.mod_eq_of_lt fits
  · rw [State.bit, reads _ _ rfl, State.rd_flag _ _ _ _ _ rfl, if_neg (by simp), State.rd_wr_self]
    rfl
  · rw [signals.planes, State.flag_rest]
    simp [s2, s1]
  · rw [State.bit, reads _ _ rfl, State.rd_flag _ _ _ _ _ rfl, if_pos ⟨rfl, rfl⟩]
    exact congrArg (· != 0) (Nat.or_mod_two_eq_one.2 (.inr rfl))

variable {s p} in
theorem State.RegionClosed.settle {t u : State} {k : Nat} (h : t.RegionClosed p k) (settled : Settles t u) : u.RegionClosed p k := by
  obtain ⟨result, busy, region, flag, lines⟩ := h
  exact ⟨(settled.regs _ _ rfl).trans result, (settled.bit _ _ rfl).trans busy, by rw [settled.planes]; exact region,
    (settled.bit _ _ rfl).trans flag, fun e => settled.lines e _ (lines e)⟩

/-- R175's rule as the masters read it: 1 to 3 may act on every region, another on its own. -/
theorem State.ownsRegion_iff {m : Master} {r : Region} (h : (s.planes[p]).region = some r) :
    s.ownsRegion p m = true ↔ m = .pcie ∨ m = .spi ∨ m = .keeper ∨ r.owner = some m.id.val := by
  cases m <;> simp only [State.ownsRegion, h, beq_iff_eq] <;> simp

theorem State.ownsRegion_none (m : Master) (h : (s.planes[p]).region = none) : s.ownsRegion p m = true := by
  cases m <;> simp only [State.ownsRegion, h]

/-- A commit that is accepted is PENDING in its region (R67). -/
theorem State.issueCommit_accepted {r : Region} (force : Bool) (h : (s.planes[p]).region = some r)
    (open_ : s.rd .PLn_COMMIT_RESULT p = 1) (accepted : s.commitAccepted p force = true) :
    (s.issueCommit p force false).rd .PLn_COMMIT_RESULT p = 2 ∧ ((s.issueCommit p force false).planes[p]).region.isSome = true := by
  have test : (s.rd .PLn_COMMIT_RESULT p = resOpen && s.commitAccepted p force) = true := by simp [open_, accepted, resOpen]
  simp only [State.issueCommit, h, if_pos test, Bool.false_eq_true, if_false]
  exact ⟨State.rd_wr_self .., by simp⟩

/-- Any other commit closes its region with REFUSED (R67). -/
theorem State.issueCommit_refused {r : Region} (force : Bool) (h : (s.planes[p]).region = some r)
    (refused : s.rd .PLn_COMMIT_RESULT p ≠ 1 ∨ s.commitAccepted p force = false) :
    s.issueCommit p force false = s.closeRegion p resRefused := by
  have test : ¬ (s.rd .PLn_COMMIT_RESULT p = resOpen && s.commitAccepted p force) = true := by
    rcases refused with h | h <;> simp [h, resOpen]
  simp only [State.issueCommit, h, if_neg test]

end

/-! ## The words of PLn_COMMIT -/

section
variable {b : State} {m : Master} {p : Fin 4}

theorem State.regWrite_commit (answers : b.answers m .PLn_COMMIT) (v : Word) :
    b.regWrite m .PLn_COMMIT p v = b.writeCommit p m v := by
  rw [State.regWrite_word answers rfl]
  show b.writeCommit (Fin.ofNat 4 p) m v = _
  simp

theorem beginWord_fields : ∀ pref : Fin 32, let w := cmdWord [(.PLn_COMMIT_BEGIN, 1), (.PLn_COMMIT_PREF, pref.val)]
    fieldOf .PLn_COMMIT_PREF w = pref ∧ fieldOf .PLn_COMMIT_BEGIN w = 1 ∧ fieldOf .PLn_COMMIT_GO w = 0 ∧
      fieldOf .PLn_COMMIT_ABANDON w = 0 := by decide

theorem goWord_fields : ∀ (force : Bool) (pref : Fin 32),
    let w := cmdWord [(.PLn_COMMIT_GO, 1), (.PLn_COMMIT_FORCE, force.toNat), (.PLn_COMMIT_PREF, pref.val)]
    fieldOf .PLn_COMMIT_PREF w = pref ∧ fieldOf .PLn_COMMIT_BEGIN w = 0 ∧ fieldOf .PLn_COMMIT_GO w = 1 ∧
      (fieldOf .PLn_COMMIT_FORCE w == 1) = force ∧ fieldOf .PLn_COMMIT_ABANDON w = 0 := by decide

theorem abandonWord_fields : ∀ pref : Fin 32, let w := cmdWord [(.PLn_COMMIT_ABANDON, 1), (.PLn_COMMIT_PREF, pref.val)]
    fieldOf .PLn_COMMIT_PREF w = pref ∧ fieldOf .PLn_COMMIT_BEGIN w = 0 ∧ fieldOf .PLn_COMMIT_GO w = 0 ∧
      fieldOf .PLn_COMMIT_ABANDON w = 1 := by decide

theorem State.writeCommit_begin (pref : Fin 32) :
    b.writeCommit p m (cmdWord [(.PLn_COMMIT_BEGIN, 1), (.PLn_COMMIT_PREF, pref.val)]) =
      (b.wr .PLn_COMMIT_PREF p pref).beginRegion p pref m := by
  obtain ⟨pref', begin', go, abandon⟩ := beginWord_fields pref
  have reads : (b.wr .PLn_COMMIT_PREF p pref).rd .PLn_COMMIT_PREF p = pref := (State.rd_wr_self ..).trans (Nat.mod_eq_of_lt pref.isLt)
  simp only [State.writeCommit, pref', begin', go, abandon, reads, if_true, if_neg Nat.zero_ne_one]

/-- PLn_COMMIT_PREF written with the value that it holds, as GO and ABANDON do. -/
def State.samePref (b : State) (p : Fin 4) : State := b.wr .PLn_COMMIT_PREF p (b.rd .PLn_COMMIT_PREF p)

theorem State.samePref_rd (f : Field) (n : Nat) : (b.samePref p).rd f n = b.rd f n := b.rd_wr_own .PLn_COMMIT_PREF f p n

theorem State.samePref_planes : (b.samePref p).planes = b.planes := rfl

theorem State.samePref_keeps : b.Keeps (b.samePref p) (fun _ _ => false) := ⟨rfl, fun f n _ _ => State.samePref_rd f n⟩

theorem State.samePref_accepted (force : Bool) : (b.samePref p).commitAccepted p force = b.commitAccepted p force := by
  have grade : ∀ c, (b.samePref p).srcHolds p c = b.srcHolds p c := fun c => by
    simp only [State.srcHolds, State.srcGrade, State.linkQualified, State.bit, State.samePref_rd]
    rfl
  simp only [State.commitAccepted, State.bit, State.samePref_rd, grade]

theorem State.writeCommit_go (force : Bool) :
    b.writeCommit p m (cmdWord [(.PLn_COMMIT_GO, 1), (.PLn_COMMIT_FORCE, force.toNat), (.PLn_COMMIT_PREF, b.rd .PLn_COMMIT_PREF p)]) =
      (b.samePref p).commitGo p m force := by
  obtain ⟨pref, begin', go, force', abandon⟩ := goWord_fields force ⟨_, b.rd_lt .PLn_COMMIT_PREF p⟩
  simp only [State.writeCommit, pref, begin', go, force', abandon, if_true, if_neg Nat.zero_ne_one]
  rfl

theorem State.writeCommit_abandon :
    b.writeCommit p m (cmdWord [(.PLn_COMMIT_ABANDON, 1), (.PLn_COMMIT_PREF, b.rd .PLn_COMMIT_PREF p)]) = (b.samePref p).abandon p m := by
  obtain ⟨pref, begin', go, abandon⟩ := abandonWord_fields ⟨_, b.rd_lt .PLn_COMMIT_PREF p⟩
  simp only [State.writeCommit, pref, begin', go, abandon, if_true, if_neg Nat.zero_ne_one]
  rfl

end

/-! ## The commands -/

section
variable (b s : State) (m : Master) (p : Fin 4)

/-- BEGIN with no region open opens one for its master (R67, R175). -/
theorem State.commitBegin_opens (pref : Fin 32) (none_ : (b.planes[p]).region = none) :
    ∃ u, finish s ((b.wr .PLn_COMMIT_PREF p pref).beginRegion p pref m) = .next u ∧
      u.rd .PLn_COMMIT_RESULT p = 1 ∧ u.bit .PLn_COMMIT_BUSY p = true ∧ u.rd .PLn_COMMIT_PREF p = pref ∧
      ∃ x, (u.planes[p]).region = some x ∧ x.owner = some m.id.val ∧
        x.pref = if srcCode pref = 31 then srcCode (b.rd .PLn_REFSEL_SRC p) else srcCode pref := by
  have source : (b.wr .PLn_COMMIT_PREF p pref).rd .PLn_REFSEL_SRC p = b.rd .PLn_REFSEL_SRC p := State.rd_wr_ne _ (by simp) ..
  have opens : (b.wr .PLn_COMMIT_PREF p pref).beginRegion p pref m = (b.wr .PLn_COMMIT_PREF p pref).openRegion p
      (if srcCode pref = 31 then srcCode (b.rd .PLn_REFSEL_SRC p) else srcCode pref) (some m.id.val) := by
    simp only [State.beginRegion, State.wr_planes, none_, source, Option.isSome_none, Bool.false_eq_true, if_false]
  rw [opens]
  refine finish_completes fun u settled => ⟨?_, ?_, ?_,
    ⟨if srcCode pref = 31 then srcCode (b.rd .PLn_REFSEL_SRC p) else srcCode pref, false, 0, some m.id.val, 0, 0, 0, false⟩, ?_, rfl,
    rfl⟩
  · rw [settled.regs _ _ rfl, State.openRegion, State.rd_wr_ne _ (by simp), State.rd_wr_self]
    rfl
  · rw [settled.bit _ _ rfl, State.bit, State.openRegion, State.rd_wr_self]
    rfl
  · rw [settled.regs _ _ rfl, State.openRegion, State.rd_wr_ne _ (by simp), State.rd_wr_ne _ (by simp), State.setPlane_rd,
      State.rd_wr_self]
    exact Nat.mod_eq_of_lt pref.isLt
  · simp only [settled.planes, State.openRegion, State.wr_planes, State.setPlane_plane]

/-- BEGIN leaves an open region untouched (R74). -/
theorem State.commitBegin_open {r : Region} (pref : Fin 32) (h : (b.planes[p]).region = some r) :
    ∃ u, finish s ((b.wr .PLn_COMMIT_PREF p pref).beginRegion p pref m) = .next u ∧
      u.planes = b.planes ∧ u.rd .PLn_COMMIT_RESULT p = b.rd .PLn_COMMIT_RESULT p := by
  have stays : (b.wr .PLn_COMMIT_PREF p pref).beginRegion p pref m = b.wr .PLn_COMMIT_PREF p pref := by
    simp only [State.beginRegion, State.wr_planes, h, Option.isSome_some, if_true]
  rw [stays]
  exact finish_completes fun u settled => ⟨settled.planes, (settled.regs _ _ rfl).trans (State.rd_wr_ne _ (by simp) ..)⟩

variable {r : Region} (force : Bool)

/-- GO by a master that may act: PENDING where the commit is accepted (R67). -/
theorem State.commitGo_accepted (h : (b.planes[p]).region = some r) (owns : b.ownsRegion p m = true)
    (open_ : b.rd .PLn_COMMIT_RESULT p = 1) (accepted : b.commitAccepted p force = true) :
    ∃ u, finish s (b.commitGo p m force) = .next u ∧ u.rd .PLn_COMMIT_RESULT p = 2 ∧ (u.planes[p]).region.isSome = true := by
  obtain ⟨pending, region⟩ := b.issueCommit_accepted p force h open_ accepted
  rw [State.commitGo, if_pos owns]
  exact finish_completes fun u settled => ⟨(settled.regs _ _ rfl).trans pending, by rw [settled.planes]; exact region⟩

/-- GO by a master that may act: REFUSED otherwise (R67). -/
theorem State.commitGo_refused (h : (b.planes[p]).region = some r) (owns : b.ownsRegion p m = true)
    (refused : b.rd .PLn_COMMIT_RESULT p ≠ 1 ∨ b.commitAccepted p force = false) :
    ∃ u, finish s (b.commitGo p m force) = .next u ∧ u.RegionClosed p 9 := by
  rw [State.commitGo, if_pos owns, b.issueCommit_refused p force h refused]
  exact finish_completes fun u settled => (b.closeRegion_closed p resRefused (by decide)).settle settled

/-- GO without a region is REFUSED (R67). -/
theorem State.commitGo_none (h : (b.planes[p]).region = none) :
    ∃ u, finish s (b.commitGo p m force) = .next u ∧ u.rd .PLn_COMMIT_RESULT p = 9 := by
  have refused : b.issueCommit p force false = b.wr .PLn_COMMIT_RESULT p resRefused := by simp only [State.issueCommit, h]
  rw [State.commitGo, if_pos (b.ownsRegion_none p m h), refused]
  exact finish_completes fun u settled => (settled.regs _ _ rfl).trans (State.rd_wr_self ..)

/-- ABANDON by a master that may act closes a region before its swap (R71). -/
theorem State.abandon_closes (h : (b.planes[p]).region = some r) (owns : b.ownsRegion p m = true)
    (before : b.rd .PLn_COMMIT_RESULT p ≠ 3) : ∃ u, finish s (b.abandon p m) = .next u ∧ u.RegionClosed p 5 := by
  have test : ((b.planes[p]).region.isSome && b.ownsRegion p m && b.rd .PLn_COMMIT_RESULT p != resWindow) = true := by
    rw [h, owns]
    simpa [resWindow] using before
  rw [State.abandon, if_pos test]
  exact finish_completes fun u settled => (b.closeRegion_closed p resAbandoned (by decide)).settle settled

/-- ABANDON by another master, or after the swap, does nothing (R71, R175). -/
theorem State.abandon_ignored (h : b.ownsRegion p m ≠ true ∨ b.rd .PLn_COMMIT_RESULT p = 3) : b.abandon p m = b := by
  have test : ¬ ((b.planes[p]).region.isSome && b.ownsRegion p m && b.rd .PLn_COMMIT_RESULT p != resWindow) = true := by
    rcases h with h | h <;> simp [h, resWindow]
  rw [State.abandon, if_neg test]

end

/-! ## The statement -/

/-- A command whose handler leaves all but PREF, which it writes as it is, keeps everything. -/
theorem finish_samePref (s b : State) (p : Fin 4) : ∃ u, finish s (b.samePref p) = .next u ∧ b.Keeps u (fun _ _ => false) :=
  finish_completes fun _ settled => State.samePref_keeps.settle settled

/-- Settles O16: `State.writeCommit` on the three command words, then what opening, issuing and closing a region do. GO and ABANDON
meet the state `State.samePref`, which reads as the one they found. -/
theorem commitRegion : Obligations.CommitRegion := by
  intro s t m p pref force r b res src may closed answers
  have begun : exec (.commitBegin t m p pref) s = finish s ((b.wr .PLn_COMMIT_PREF p pref).beginRegion p pref m) := by
    rw [← State.writeCommit_begin, ← State.regWrite_commit answers]
    rfl
  have goes : exec (.commitGo t m p force) s = finish s ((b.samePref p).commitGo p m force) := by
    rw [← State.writeCommit_go, ← State.regWrite_commit answers]
    rfl
  have abandons : exec (.commitAbandon t m p) s = finish s ((b.samePref p).abandon p m) := by
    rw [← State.writeCommit_abandon, ← State.regWrite_commit answers]
    rfl
  unfold Completes
  rw [begun, goes, abandons]
  clear_value b
  have result : (b.samePref p).rd .PLn_COMMIT_RESULT p = res := State.samePref_rd _ _
  have accepts : (b.samePref p).commitAccepted p force = b.commitAccepted p force := State.samePref_accepted force
  have owns : (b.planes[p]).region = some r → ((b.samePref p).ownsRegion p m = true ↔ may) :=
    fun h => (b.samePref p).ownsRegion_iff p h
  refine ⟨b.commitBegin_opens s m p pref, b.commitBegin_open s m p pref, fun h by_ opened accepted => ?_, fun h by_ refused => ?_,
    (b.samePref p).commitGo_none s m p force, fun h other => ?_, fun h by_ before => ?_, fun h ignored => ?_⟩
  · exact (b.samePref p).commitGo_accepted s m p force h ((owns h).2 by_) (result.trans opened) (accepts.trans accepted)
  · refine (b.samePref p).commitGo_refused s m p force h ((owns h).2 by_) ?_
    rwa [result, accepts]
  · rw [State.commitGo, if_neg (fun own => other ((owns h).1 own))]
    exact finish_samePref s b p
  · refine (b.samePref p).abandon_closes s m p h ((owns h).2 by_) ?_
    rwa [result]
  · have same : (b.samePref p).abandon p m = b.samePref p :=
      (b.samePref p).abandon_ignored m p (ignored.imp (fun other own => other ((owns h).1 own)) result.trans)
    rw [same]
    exact finish_samePref s b p

end Sys2Proof.Machine
end

section
/-!
PROOFS. Word history, holdover growth and the drift model's commands (O17).
-/
namespace Sys2Proof.Machine

section
variable {b t u : State} {p : Fin 4} {may : Field → Nat → Bool}

/-! ## The history (R58) -/

/-- The history with this second's record. -/
def State.recorded (b : State) (p : Fin 4) : List (Nat × Int) :=
  ((b.now, (b.planes[p]).c) :: (b.planes[p]).hist).take (b.rd .PLn_HO_CFG_AVG p + b.rd .PLn_HO_CFG_GUARD p + 1)

/-- A LOCKED, unlimited plane records its word; HIST_VALID follows from a history longer than the guard. -/
theorem State.historyRecord_records (locked : b.rd .PLn_STATE_STATE p = 2) (band : b.bit .PLn_STATE_FMAX_HIT p = false)
    (slope : b.bit .PLn_STATE_SLOPE_HIT p = false) (on : b.bit .PLn_CTRL_EN p = true) :
    b.historyRecord p =
      (let s := b.setPlane p { b.planes[p] with hist := b.recorded p }
       if b.rd .PLn_HO_CFG_GUARD p + 1 ≤ (b.recorded p).length then s.wr .PLn_STATE_HIST_VALID p 1 else s) := by
  have test : (b.rd .PLn_STATE_STATE p = 2 && !b.bit .PLn_STATE_FMAX_HIT p && !b.bit .PLn_STATE_SLOPE_HIT p
      && b.bit .PLn_CTRL_EN p) = true := by simp [locked, band, slope, on]
  rw [State.historyRecord, if_pos test]
  rfl

theorem State.historyRecord_idle (other : b.rd .PLn_STATE_STATE p ≠ 2) : b.historyRecord p = b := by
  rw [State.historyRecord, if_neg (by simp [other])]

/-- HISTORY_RECORD at a plane that records. -/
theorem State.historyRecord_completes (s : State) (locked : b.rd .PLn_STATE_STATE p = 2) (band : b.bit .PLn_STATE_FMAX_HIT p = false)
    (slope : b.bit .PLn_STATE_SLOPE_HIT p = false) (on : b.bit .PLn_CTRL_EN p = true) :
    ∃ u, finish s (b.historyRecord p) = .next u ∧ (u.planes[p]).hist = b.recorded p ∧
      (b.rd .PLn_HO_CFG_GUARD p + 1 ≤ (b.recorded p).length → u.bit .PLn_STATE_HIST_VALID p = true) ∧
      State.Keeps b { u with planes := b.planes } (fun f n => f == .PLn_STATE_HIST_VALID && n == p.val) := by
  rw [State.historyRecord_records locked band slope on]
  refine finish_completes fun u settled => ?_
  by_cases long : b.rd .PLn_HO_CFG_GUARD p + 1 ≤ (b.recorded p).length
  · rw [if_pos long] at settled
    refine ⟨?_, fun _ => ?_, settled.keepsButPlanes rfl fun f n out => ?_⟩
    · rw [settled.planes, State.wr_planes, State.setPlane_plane]
    · rw [settled.bit _ _ rfl, State.bit, State.rd_wr_self]
      rfl
    · rw [State.rd_wr, if_neg, State.setPlane_rd]
      rintro ⟨rfl, rfl⟩
      simp at out
  · rw [if_neg long] at settled
    refine ⟨?_, fun h => absurd h long, settled.keepsButPlanes rfl fun _ _ _ => rfl⟩
    rw [settled.planes, State.setPlane_plane]

/-! ## The growth (R61) -/

/-- A second of growth touches the plane alone, and of its growth makes `Growth.second`. -/
theorem State.growthSecond_completes (s : State) :
    ∃ u, finish s (b.growthSecond p) = .next u ∧ (u.planes[p]).growth = (b.planes[p]).growth.second (b.growthD p) ∧
      (∀ q, q ≠ p → u.planes[q] = b.planes[q]) ∧ State.Keeps b { u with planes := b.planes } (fun _ _ => false) := by
  refine finish_completes fun u settled => ⟨?_, fun q other => ?_, settled.keepsButPlanes rfl fun _ _ _ => rfl⟩
  · rw [settled.planes, State.growthSecond, State.setPlane_plane]
  · rw [settled.planes, State.growthSecond, State.setPlane_other _ _ other]

theorem Growth.second_bounded {g : Growth} {d : Nat} (runs : g.run = true) (bounded : d ≠ 0xFFFFFFFF) :
    g.second d = { g with r := g.r + (d : Rat) / 1000000, h := g.h + (g.r + (d : Rat) / 1000000) } := by
  simp [Growth.second, runs, bounded]

theorem Growth.second_unbounded {g : Growth} (runs : g.run = true) : g.second 0xFFFFFFFF = { g with unb := true } := by
  simp [Growth.second, runs]

/-- The declaration of d in force by the model's standing (R61). -/
theorem State.growthD_eq : b.growthD p = if b.bit .MODEL_CTRL_APPLIED = false then b.rd .PLn_HOD_XO p
    else if 3600 < b.rd .MODEL_AGE then b.rd .PLn_HOD_DEGR p else b.rd .PLn_HOD_ASSIST p := by
  by_cases applied : b.bit .MODEL_CTRL_APPLIED = true <;> simp [State.growthD, State.assist, State.modelOld, applied]

/-! ## The drift model's commands (R82, R83) -/

variable {m : Master} {v : Word}

theorem State.regWrite_modelCtrl (answers : b.answers m .MODEL_CTRL) : b.regWrite m .MODEL_CTRL 0 v = b.writeModelCtrl m v :=
  State.regWrite_word answers rfl v

/-- What a write of MODEL_CTRL asks for: a LOAD counts of master 3 alone (R82). -/
def asksLoad (m : Master) (v : Word) : Bool := fieldOf .MODEL_CTRL_LOAD v == 1 && m == .keeper
def asksClear (v : Word) : Bool := fieldOf .MODEL_CTRL_CLEAR v == 1

/-- The state with an action pending: CLEAR where `clear`, otherwise LOAD. -/
def State.withPending (s : State) (clear : Bool) : State :=
  ({ s with xo := { s.xo with pend := some (if clear then .clear else .load) } } : State).wr .MODEL_CTRL_PENDING 0 1

/-- A write of MODEL_CTRL by what it asks for. -/
theorem State.writeModelCtrl_eq (b : State) (m : Master) (v : Word) : b.writeModelCtrl m v =
    (let s := b.writeWord .MODEL_CTRL 0 v
     if !asksLoad m v && !asksClear v then s
     else if s.xo.pend == some .load || (asksLoad m v && asksClear v) then (s.withPending (asksClear v)).hwSet .MODEL_CTRL_LOAD_LOST 0 1
     else s.withPending (asksClear v)) := rfl

theorem State.hwSet_xo (s : State) (f : Field) (n x : Nat) : (s.hwSet f n x).xo = s.xo := rfl

theorem State.writeWord_xo (s : State) (r : Reg) (n : Nat) (v : Word) : (s.writeWord r n v).xo = s.xo := by
  rw [State.writeWord, State.writeReg_rest]

/-- A write that asks for nothing leaves the model's course alone. -/
theorem State.writeModelCtrl_idle (load : asksLoad m v = false) (clear : asksClear v = false) : (b.writeModelCtrl m v).xo = b.xo := by
  rw [State.writeModelCtrl_eq, load, clear]
  exact b.writeWord_xo .MODEL_CTRL 0 v

theorem State.withPending_xo (s : State) (clear : Bool) : (s.withPending clear).xo.pend = some (if clear then .clear else .load) := rfl

theorem State.withPending_bit (s : State) (clear : Bool) : (s.withPending clear).bit .MODEL_CTRL_PENDING = true := by
  rw [State.bit, State.withPending, State.rd_wr_self]
  rfl

/-- A write that asks for an action makes it the pending one; a LOAD that another takes the place of is lost (R82, R83). -/
theorem State.writeModelCtrl_pends (asks : (asksLoad m v || asksClear v) = true) (settled : Settles (b.writeModelCtrl m v) u) :
    u.xo.pend = some (if asksClear v then .clear else .load) ∧ u.bit .MODEL_CTRL_PENDING = true ∧
      (b.xo.pend = some .load ∨ (asksLoad m v && asksClear v) = true → u.bit .MODEL_CTRL_LOAD_LOST = true) := by
  have acts : ¬ (!asksLoad m v && !asksClear v) = true := by
    rw [← Bool.not_or, asks]
    decide
  rw [State.writeModelCtrl_eq] at settled
  simp only [if_neg acts, State.writeWord_xo] at settled
  rw [settled.xo, settled.bit _ _ rfl, settled.bit _ _ rfl]
  by_cases lost : (b.xo.pend == some .load || (asksLoad m v && asksClear v)) = true
  · rw [if_pos lost]
    refine ⟨State.withPending_xo _ _, ?_, fun _ => ?_⟩
    · rw [State.bit, State.rd_hwSet, if_neg (by simp)]
      exact State.withPending_bit _ _
    · rw [State.bit, State.rd_hwSet, if_pos ⟨rfl, rfl⟩, show Field.MODEL_CTRL_LOAD_LOST.info.width = 1 from rfl, Nat.pow_one,
        Nat.or_mod_two_eq_one.2 (.inr rfl)]
      rfl
  · rw [if_neg lost]
    refine ⟨State.withPending_xo _ _, State.withPending_bit _ _, fun lossy => absurd ?_ lost⟩
    rcases lossy with h | h
    · rw [h]; rfl
    · rw [h, Bool.or_true]

/-- The words of MODEL_LOAD, with CLEAR or without, and of MODEL_CLEAR. -/
def loadWord (clear : Bool) : Word := cmdWord [(.MODEL_CTRL_LOAD, 1), (.MODEL_CTRL_CLEAR, clear.toNat)]
def clearWord : Word := cmdWord [(.MODEL_CTRL_CLEAR, 1)]

theorem asksLoad_loadWord (m : Master) (clear : Bool) : asksLoad m (loadWord clear) = (m == .keeper) := by
  have load : ∀ c, fieldOf .MODEL_CTRL_LOAD (loadWord c) = 1 := by decide
  rw [asksLoad, load]
  rfl

theorem asksClear_loadWord : ∀ clear, asksClear (loadWord clear) = clear := by decide

theorem asksClear_clearWord : asksClear clearWord = true := by decide

/-- LOAD by master 3 is pending, or where CLEAR came with it that, the LOAD being lost (R82, R83). -/
theorem State.modelLoad_keeper (s : State) (clear : Bool) : ∃ u, finish s (b.writeModelCtrl .keeper (loadWord clear)) = .next u ∧
    u.xo.pend = some (if clear then .clear else .load) ∧ u.bit .MODEL_CTRL_PENDING = true ∧
      (b.xo.pend = some .load ∨ clear = true → u.bit .MODEL_CTRL_LOAD_LOST = true) := by
  refine finish_completes fun u settled => ?_
  have pends := State.writeModelCtrl_pends (by rw [asksLoad_loadWord]; rfl) settled
  rwa [asksLoad_loadWord, asksClear_loadWord] at pends

/-- LOAD by another master is no request (R82). -/
theorem State.modelLoad_other (s : State) (other : m ≠ .keeper) :
    ∃ u, finish s (b.writeModelCtrl m (loadWord false)) = .next u ∧ u.xo = b.xo := by
  have load : asksLoad m (loadWord false) = false := by
    rw [asksLoad_loadWord]
    exact beq_false_of_ne other
  exact finish_completes fun u settled => settled.xo.trans (State.writeModelCtrl_idle load (asksClear_loadWord false))

/-- CLEAR, of whatever master, is pending (R83). -/
theorem State.modelClear_pends (s : State) (clear : asksClear v = true) : ∃ u, finish s (b.writeModelCtrl m v) = .next u ∧
    u.xo.pend = some .clear ∧ u.bit .MODEL_CTRL_PENDING = true ∧ (b.xo.pend = some .load → u.bit .MODEL_CTRL_LOAD_LOST = true) := by
  refine finish_completes fun u settled => ?_
  obtain ⟨pend, pending, lost⟩ := State.writeModelCtrl_pends (by rw [clear, Bool.or_true]) settled
  rw [clear] at pend
  exact ⟨pend, pending, fun h => lost (.inl h)⟩

/-! ## The model's age (R83) -/

/-- `t` is `s` but for the register fields that `p` names. -/
structure FieldsOnly (p : Field → Bool) (s t : State) : Prop where
  rest : t = { s with regs := t.regs }
  regs : ∀ f n, p f = false → t.rd f n = s.rd f n

theorem FieldsOnly.refl (p : Field → Bool) (s : State) : FieldsOnly p s s := ⟨rfl, fun _ _ _ => rfl⟩

theorem FieldsOnly.trans {p : Field → Bool} {s t u : State} (a : FieldsOnly p s t) (b : FieldsOnly p t u) : FieldsOnly p s u where
  rest := by rw [b.rest, a.rest]
  regs f n out := (b.regs f n out).trans (a.regs f n out)

theorem FieldsOnly.wr {p : Field → Bool} (s : State) (f : Field) (n v : Nat) (named : p f = true) : FieldsOnly p s (s.wr f n v) where
  rest := rfl
  regs g k out := State.rd_wr_ne s (fun same => by rw [same, out] at named; cases named) n k v

/-- The age one second on, saturating. -/
def State.nextAge (b : State) : Nat := min (b.rd .MODEL_AGE + 1) (2 ^ Field.MODEL_AGE.info.width - 1)

theorem State.incSat_age : (b.incSat .MODEL_AGE 0).rd .MODEL_AGE = b.nextAge := by
  have wide : (0 : Nat) < 2 ^ Field.MODEL_AGE.info.width := Nat.two_pow_pos _
  unfold State.incSat State.nextAge
  dsimp only
  split
  · rename_i below
    rw [State.rd_wr_self, Nat.mod_eq_of_lt below]
    omega
  · rw [State.rd_wr_self, Nat.mod_eq_of_lt (by omega)]
    omega

/-- Showing the age's standing at the planes. -/
theorem State.showOld_only (s : State) :
    FieldsOnly (· == .PLn_STATE_MODEL_OLD) s (s.forAll 4 (fun s p => s.wrB .PLn_STATE_MODEL_OLD p s.modelOld)) :=
  State.forAll_induct (FieldsOnly.refl _) (fun _ _ _ => FieldsOnly.trans) 4 _ (fun s p => FieldsOnly.wr s _ p _ rfl) s

/-- The fields of the model's age. -/
def Field.ofAge (f : Field) : Bool := f == .MODEL_AGE || f == .MODEL_CTRL_OLD || f == .PLn_STATE_MODEL_OLD

theorem State.modelAge_only (b : State) : FieldsOnly Field.ofAge b b.modelAge := by
  have aged : FieldsOnly Field.ofAge b (b.incSat .MODEL_AGE 0) := by
    unfold State.incSat
    dsimp only
    split <;> exact FieldsOnly.wr _ _ _ _ rfl
  have shown := State.showOld_only ((b.incSat .MODEL_AGE 0).wrB .MODEL_CTRL_OLD 0 (b.incSat .MODEL_AGE 0).modelOld)
  refine (aged.trans (FieldsOnly.wr _ .MODEL_CTRL_OLD 0 _ rfl)).trans ⟨shown.rest, fun f n out => shown.regs f n ?_⟩
  exact (Bool.or_eq_false_iff.1 out).2

theorem State.modelAge_reads : b.modelAge.rd .MODEL_AGE = b.nextAge ∧ b.modelAge.bit .MODEL_CTRL_OLD = decide (3600 < b.nextAge) := by
  have shown := State.showOld_only ((b.incSat .MODEL_AGE 0).wrB .MODEL_CTRL_OLD 0 (b.incSat .MODEL_AGE 0).modelOld)
  have old : (b.incSat .MODEL_AGE 0).modelOld = decide (3600 < b.nextAge) := by rw [State.modelOld, State.incSat_age]
  constructor
  · exact (shown.regs _ _ rfl).trans ((State.rd_wr_ne _ (by simp) ..).trans State.incSat_age)
  · rw [State.bit, show b.modelAge.rd .MODEL_CTRL_OLD = _ from shown.regs _ _ rfl, State.wrB, State.rd_wr_self, old]
    cases decide (3600 < b.nextAge) <;> rfl

end

/-! ## The statement -/

/-- Settles O17: the record of a second and a second of growth by their cases, the commands of MODEL_CTRL by what their words ask for,
and the age by the fields that a second of it writes. -/
theorem historyGrowthModel : Obligations.HistoryGrowthModel := by
  intro s t p m c b x h d age
  have effective : b.growthD p = d := State.growthD_eq
  refine ⟨State.historyRecord_completes s, fun other => finish_keeps s (State.historyRecord_idle other) _, fun runs bounded => ?_,
    fun runs unbounded => ?_, fun answers => ?_, ?_⟩
  · obtain ⟨u, hu, growth, others, keeps⟩ := b.growthSecond_completes (p := p) s
    rw [effective, Growth.second_bounded runs bounded] at growth
    exact ⟨u, hu, by rw [growth], by rw [growth], others, keeps⟩
  · obtain ⟨u, hu, growth, others, keeps⟩ := b.growthSecond_completes (p := p) s
    rw [effective, unbounded, Growth.second_unbounded runs] at growth
    exact ⟨u, hu, growth, others, keeps⟩
  · have loads : ∀ clear, exec (.modelLoad t m clear) s = finish s (b.writeModelCtrl m (loadWord clear)) := fun clear => by
      rw [← State.regWrite_modelCtrl answers]
      rfl
    have clears : exec (.modelClear t m) s = finish s (b.writeModelCtrl m clearWord) := by
      rw [← State.regWrite_modelCtrl answers]
      rfl
    unfold Completes
    rw [loads, loads, loads, clears]
    refine ⟨fun keeper => keeper ▸ State.modelLoad_keeper s c, State.modelLoad_other s, fun other => ?_,
      State.modelClear_pends s asksClear_clearWord⟩
    obtain ⟨u, hu, pend, pending, -⟩ := State.modelClear_pends (b := b) (m := m) s (asksClear_loadWord true)
    exact ⟨u, hu, pend, pending⟩
  · refine finish_completes fun u settled => ?_
    obtain ⟨reads, old⟩ := b.modelAge_reads
    have only := b.modelAge_only
    refine ⟨(settled.regs _ _ rfl).trans reads, (settled.bit _ _ rfl).trans old, ?_⟩
    exact State.Keeps.settle ⟨by rw [only.rest], fun f n out _ => only.regs f n out⟩ settled

end Sys2Proof.Machine
end

section
/-!
PROOFS. The writes of a plane's registers (O14): a write of PLn_PBO moves the shadow offset too.
-/
namespace Sys2Proof.Machine

/-! ## A buildout written while the shadow loop runs

What moves PBO at once moves O_s the other way (R65: O_s estimates φ_cand − φ_pl − PBO), so a committed write of PLn_PBO changes the
plane's shadow loop as soon as that has been seeded; the statement has all planes stand over it. -/

/-- A part with its supplies good whose plane 0 runs its shadow loop, seeded, on link 0. -/
def State.shadowing : State :=
  let s : State := { State.reset with boot := { BootState.init with supplies := true }, timebase := true }
  let s := ((s.wr .DEV_STATE_TIMING 0 4).wr .PLn_SHADOW_STAT_SRC 0 16).wr .PLn_SHADOW_STAT_RUN 0 1
  s.setPlane 0 { PlaneState.init with shadow := { Shadow.init with seeded := true } }

/-- The state in which a write of 1 to PL0_PBO leaves that part, before it settles. -/
def State.buildoutWritten : State := (State.shadowing.enter 0).regWrite .pcie .PLn_PBO 0 1

theorem State.shadowing_answers : (State.shadowing.enter 0).answers .pcie .PLn_PBO := ⟨by decide +kernel, by decide +kernel⟩

theorem State.shadowing_offset : ((State.shadowing.enter 0).planes[0]).shadow.offset = 0 := by decide +kernel

/-- PBO moved by 1/64 ps, and the offset by −1/64 ps. -/
theorem State.buildoutWritten_offset : (State.buildoutWritten.planes[0]).shadow.offset = -1 / 64 := by decide +kernel

theorem State.buildoutWritten_planes_ne : State.buildoutWritten.planes ≠ (State.shadowing.enter 0).planes := by
  intro same
  have offset := State.buildoutWritten_offset
  rw [same, State.shadowing_offset] at offset
  exact absurd offset (by decide +kernel)

/-- Refutes O14: a write of 1 to PL0_PBO of `State.shadowing` moves the offset of its seeded shadow loop (R65), while the clause for
PLn_PBO has every plane kept. -/
theorem not_planeWrites : ¬ Obligations.PlaneWrites := by
  intro h
  obtain ⟨-, -, write, -⟩ := h State.shadowing 0 .pcie 0 1
  obtain ⟨u, answer, -, -, -, frame⟩ := write State.shadowing_answers
  obtain ⟨w, finished, settled, -⟩ := finish_settles State.shadowing State.buildoutWritten
  obtain rfl : u = w := Host.Outcome.next.inj (answer.symm.trans finished)
  exact State.buildoutWritten_planes_ne (settled.planes.symm.trans frame.planes)

end Sys2Proof.Machine
end

section
/-!
PROOFS. A plane's step at a tick (O13): what the swap of a pending commit copies, and that the rest of the step leaves the copy alone.
-/
namespace Sys2Proof.Machine

/-! ## What stands over an update -/

/-- The fields that a plane's step asks for after a swap. -/
def Field.followed (f : Field) : Bool := f == .PLn_COMMIT_RESULT || f == .PLn_CTRL_BLEED || f == .CAL_STATE_RUN

/-- `t` is `s` after work of plane `p` that leaves its snapshot, its first acquisition and the fields of `Field.followed` alone. -/
structure Follows (p : Fin 4) (s t : State) : Prop where
  snap : (t.planes[p]).snap = (s.planes[p]).snap
  acq : (t.planes[p]).acq = (s.planes[p]).acq
  regs : ∀ f n, f.followed = true → t.rd f n = s.rd f n

section
variable {p : Fin 4} {s t u : State}

theorem Follows.refl (p : Fin 4) (s : State) : Follows p s s := ⟨rfl, rfl, fun _ _ _ => rfl⟩

theorem Follows.trans (a : Follows p s t) (b : Follows p t u) : Follows p s u :=
  ⟨b.snap.trans a.snap, b.acq.trans a.acq, fun f n h => (b.regs f n h).trans (a.regs f n h)⟩

theorem Follows.ite (c : Prop) [Decidable c] (a : Follows p s t) (b : Follows p s u) : Follows p s (if c then t else u) := by
  split <;> assumption

theorem Field.followed_quiet {f : Field} (h : f.followed = true) : f.signal = false := by
  revert h
  cases f <;> decide

theorem Signals.follows (h : Signals s t) : Follows p s t :=
  ⟨by rw [h.planes], by rw [h.planes], fun f n followed => h.regs f n (Field.followed_quiet followed)⟩

theorem Follows.wr (s : State) (f : Field) (n v : Nat) (other : f.followed = false) : Follows p s (s.wr f n v) :=
  ⟨rfl, rfl, fun g k followed => State.rd_wr_ne s (fun same => by rw [same, followed] at other; cases other) n k v⟩

theorem Follows.flag (s : State) (f : Field) (n : Nat) (other : f.followed = false) : Follows p s (s.flag f n) :=
  ((Follows.wr s f n _ other).trans (Signals.noteSet _ _ _ _).follows).trans (State.flag_signals s f n).follows

theorem Follows.setPlane (s : State) (x : PlaneState) (snap : x.snap = (s.planes[p]).snap) (acq : x.acq = (s.planes[p]).acq) :
    Follows p s (s.setPlane p x) :=
  ⟨by rw [State.setPlane_plane, snap], by rw [State.setPlane_plane, acq], fun _ _ _ => rfl⟩

theorem Follows.forAll (k : Nat) (f : State → Fin k → State) (h : ∀ s i, Follows p s (f s i)) (s : State) :
    Follows p s (s.forAll k f) :=
  State.forAll_induct (Follows.refl p) (fun _ _ _ => Follows.trans) k f h s

end

/-! ## The operations of an update -/

section
variable (s : State) (p : Fin 4)

theorem State.limitFlag_follows (f : Field) (b : Bool) (other : f.followed = false) : Follows p s (s.limitFlag f p b) := by
  unfold State.limitFlag
  exact (Follows.wr s f p _ other).trans (Follows.ite _ (Follows.flag _ _ _ rfl) (Follows.refl _ _))

theorem State.putWord_follows (c : Int) : Follows p s (s.putWord p c).1 :=
  ((s.limitFlag_follows p .PLn_STATE_FMAX_HIT _ rfl).trans (State.limitFlag_follows _ p .PLn_STATE_SLOPE_HIT _ rfl)).trans
    (Follows.setPlane _ _ rfl rfl)

theorem State.noteUpdate_follows (c : Int) (e : Rat) : Follows p s (s.noteUpdate p c e) := by
  unfold State.noteUpdate
  extract_lets pl b s1 s2 s3 c64
  have recorded : Follows p s s1 := Follows.setPlane s _ rfl rfl
  have noted : Follows p s1 s3 := ((Follows.wr s1 .PLn_UPD_SEQ p _ rfl).trans (Follows.wr _ .PLn_UPD_VALID p _ rfl)).trans
    (State.pulse_signals _ _).follows
  exact (recorded.trans noted).trans (Follows.ite _ (State.post_signals _ _).follows (Follows.refl _ _))

theorem State.loopUpdate_follows (c : Nat) (e : Rat) : Follows p s (s.loopUpdate p c e) := by
  unfold State.loopUpdate
  extract_lets tu bw s1 k pl c0 es i v w r s2 pl2 pl3
  have limited : Follows p s s2 := (s.limitFlag_follows p .PLn_STATE_BW_CLAMP _ rfl).trans (State.putWord_follows _ p _)
  have kept : pl3.snap = (s2.planes[p]).snap ∧ pl3.acq = (s2.planes[p]).acq := by
    by_cases hit : r.2 = true
    · rw [show pl3 = { pl2 with w := wordFrac pl2.c } from if_pos hit]
      exact ⟨rfl, rfl⟩
    · rw [show pl3 = { pl2 with i := i, w := w } from if_neg hit]
      exact ⟨rfl, rfl⟩
  exact (limited.trans (Follows.setPlane _ _ kept.1 kept.2)).trans (State.noteUpdate_follows _ p _ _)

theorem State.freezeTerms_follows (c : Nat) : Follows p s (s.freezeTerms p c) := Follows.setPlane _ _ rfl rfl

theorem State.setPlState_follows (st : Nat) : Follows p s (s.setPlState p st) := by
  unfold State.setPlState
  refine Follows.ite _ (Follows.refl p s) ?_
  extract_lets forced pl s1 s2 s3 s4 s5
  have left : Follows p s s1 := Follows.setPlane s _ rfl rfl
  have entered : Follows p s s2 := (left.trans (Follows.wr s1 .PLn_STATE_STATE p _ rfl)).trans (Follows.flag _ _ _ rfl)
  have told : Follows p s2 s4 := (Follows.ite _ (Follows.flag _ _ _ rfl) (Follows.refl _ _)).trans
    ((State.pulse_signals _ _).trans (State.log_signals _ _ _)).follows
  have early : Follows p s4 s5 := Follows.ite _
    (Follows.forAll 64 _ (fun _ n => Follows.ite _ (Follows.wr _ .OUTn_STAT_EARLY n _ rfl) (Follows.refl _ _)) _) (Follows.refl _ _)
  exact ((entered.trans told).trans early).trans (Follows.ite _ (State.raise_signals _ _ _).follows (Follows.refl _ _))

theorem State.lockTest_follows (e : Rat) (free : Bool) : Follows p s (s.lockTest p e free) := by
  unfold State.lockTest
  split
  · exact Follows.ite _ (Follows.ite _ (s.setPlState_follows p 2) (Follows.setPlane _ _ rfl rfl)) (Follows.setPlane _ _ rfl rfl)
  · exact Follows.ite _ (Follows.ite _ (s.setPlState_follows p 1) (Follows.setPlane _ _ rfl rfl)) (Follows.setPlane _ _ rfl rfl)
  · exact Follows.refl p s

/-- An update that is not the first of an acquisition. -/
theorem State.updateActive_follows (c : Nat) (e : Rat) (free : Bool) (acquired : (s.planes[p]).acq = none) :
    Follows p s (s.updateActive p c e free) := by
  have whole : s.acquireFirst p e = (s, e) := by simp only [State.acquireFirst, acquired]
  unfold State.updateActive
  rw [whole]
  exact ((s.loopUpdate_follows p c e).trans (State.freezeTerms_follows _ p c)).trans (State.lockTest_follows _ p e free)

/-! ## The operations of a swap -/

theorem State.setPbo_follows (v : Nat) : Follows p s (s.setPbo p v) := by
  unfold State.setPbo State.shiftShadow
  exact (Follows.wr s .PLn_PBO p v rfl).trans (Follows.ite _ (Follows.setPlane _ _ rfl rfl) (Follows.refl _ _))

theorem State.loadDefaults_follows (c : Nat) : Follows p s (s.loadDefaults p c) := by
  unfold State.loadDefaults
  exact ((((((Follows.wr _ .PLn_BW p _ rfl).trans (Follows.wr _ .PLn_LOOP_DAMP p _ rfl)).trans (Follows.wr _ .PLn_LOOP_M p _ rfl)).trans
    (Follows.wr _ .PLn_LOCK_LTHR p _ rfl)).trans (Follows.wr _ .PLn_LOCK_LTIME p _ rfl)).trans
    (Follows.wr _ .PLn_UNLOCK_UTHR p _ rfl)).trans (Follows.wr _ .PLn_UNLOCK_UCNT p _ rfl)

theorem State.beginFollow_follows (c : Nat) : Follows p s (s.beginFollow p c) := by
  unfold State.beginFollow
  extract_lets time pl a s1 r pl2
  have begun : Follows p s s1 := Follows.trans (Follows.setPlane s _ (by exact rfl) (by exact rfl)) (Follows.setPlane _ _ rfl rfl)
  refine Follows.trans (begun.trans ?_) (Follows.wr _ .PLn_STATE_ANCHORED p _ rfl)
  exact Follows.setPlane s1 _ rfl rfl

theorem State.calAbort_idle (idle : s.bit .CAL_STATE_RUN = false) : s.calAbort = s := by
  rw [State.calAbort, idle]
  rfl

/-- A swap copies the state that it meets (R68, step 1), and leaves the region in its window. -/
theorem State.swapPlane_takes (r : Region) (idle : s.bit .CAL_STATE_RUN = false) :
    ((s.swapPlane p r).planes[p]).snap = some (s.takeSnapshot p) ∧ (s.swapPlane p r).rd .PLn_COMMIT_RESULT p = resWindow ∧
      (s.swapPlane p r).bit .PLn_CTRL_BLEED p = s.bit .PLn_CTRL_BLEED p := by
  unfold State.swapPlane
  extract_lets cand ready snap off pl s1 s2 s3 s4 s5 s6 s7
  have taken : (s1.planes[p]).snap = some snap ∧ (s1.planes[p]).acq = none := by
    rw [show s1.planes[p] = _ from State.setPlane_plane ..]
    exact ⟨rfl, rfl⟩
  have moved : Follows p s1 s3 := (s1.setPbo_follows p _).trans (Follows.wr _ .PLn_RSUM p _ rfl)
  have loaded : Follows p s3 s5 := (Follows.wr _ .PLn_REFSEL_SRC p _ rfl).trans
    (Follows.ite _ (Follows.refl _ _) (State.loadDefaults_follows _ p cand))
  have followed : Follows p s1 (s6.setPlState p (if ready then 2 else 1)) :=
    ((moved.trans loaded).trans (s5.beginFollow_follows p cand)).trans (s6.setPlState_follows p _)
  obtain ⟨snapped, acquired⟩ := taken
  have quiet : ((s6.setPlState p (if ready then 2 else 1)).wr .PLn_COMMIT_RESULT p resWindow).bit .CAL_STATE_RUN = false := by
    rw [State.bit, State.rd_wr_ne _ (by simp), followed.regs _ _ rfl]
    exact idle
  have windowed : s7 = (s6.setPlState p (if ready then 2 else 1)).wr .PLn_COMMIT_RESULT p resWindow := State.calAbort_idle _ quiet
  have updated : Follows p s7 (match s7.freshErr p cand with
      | some e => s7.updateActive p cand e false
      | none => s7) := by
    split
    · exact s7.updateActive_follows p cand _ false (by rw [windowed]; exact followed.acq.trans acquired)
    · exact Follows.refl p s7
  refine ⟨updated.snap.trans ?_, (updated.regs _ _ rfl).trans ?_, (congrArg (· != 0) (updated.regs .PLn_CTRL_BLEED p rfl)).trans ?_⟩
  · rw [windowed]
    exact followed.snap.trans snapped
  · rw [windowed, State.rd_wr_self]
    rfl
  · rw [windowed, State.rd_wr_ne _ (by simp), followed.regs _ _ rfl]
    rfl

theorem State.dropSwitch_follows (before : Nat) : Follows p s (s.dropSwitch p before) :=
  Follows.ite _ (Follows.setPlane _ _ rfl rfl) (Follows.refl _ _)

theorem State.holdWord_follows : Follows p s (s.holdWord p) := by
  unfold State.holdWord
  extract_lets pl x c
  refine Follows.trans ?_ (State.putWord_follows _ p c)
  exact Follows.setPlane s _ rfl rfl

theorem State.planeWord_follows : Follows p s (s.planeWord p) := by
  unfold State.planeWord
  extract_lets s1 pl sent fbw lo keep old words reg
  have worded : Follows p s s1 := by
    show Follows p s (match s.rd .PLn_STATE_STATE p with
      | 0 => (s.wr .PLn_STATE_FMAX_HIT p 0).wr .PLn_STATE_SLOPE_HIT p 0
      | 3 => s.holdWord p
      | 4 => (s.putWord p (toSigned 48 (s.rd .PLn_STEER p))).1
      | _ => s)
    split
    · exact (Follows.wr s _ p _ rfl).trans (Follows.wr _ _ p _ rfl)
    · exact s.holdWord_follows p
    · exact s.putWord_follows p _
    · exact Follows.refl p s
  refine worded.trans ?_
  exact Follows.setPlane s1 _ rfl rfl

/-- After a swap at its tick a plane's step runs no other update: what is left sends the word (R54, R68). -/
theorem State.planeStep_follows (a w : State) (begun : (s.holdCmd p).reCandidate p = a) (moves : a.planeMove p = w)
    (pending : a.rd .PLn_COMMIT_RESULT p = 2) (window : w.rd .PLn_COMMIT_RESULT p = 3) (still : w.bit .PLn_CTRL_BLEED p = false) :
    Follows p w (s.planeStep p) := by
  unfold State.planeStep
  rw [begun]
  extract_lets s0 swapped before win s1 didSwap recalled switch c s2 st free s3 res s4 s5 s6 s7 g s8
  have dropped : Follows p w s1 := by
    rw [← moves]
    exact State.dropSwitch_follows _ p before
  have swaps : didSwap = true := by
    show (a.rd .PLn_COMMIT_RESULT p == 2 && s1.rd .PLn_COMMIT_RESULT p == 3) = true
    rw [pending, dropped.regs _ _ rfl, window]
    rfl
  have same2 : s2 = s1 := if_pos (by rw [swaps]; rfl)
  have same3 : s3 = s1 := (if_pos swaps).trans same2
  have same4 : s4 = s1 := (if_pos (by rw [swaps]; rfl)).trans same3
  have bound : free = false := by
    show (st == before && !didSwap && !recalled && !switch) = false
    rw [swaps]
    simp
  have same5 : s5 = s1 := by
    show s4.swapAtReady p res free = s1
    rw [bound, State.swapAtReady]
    split <;> simp [same4]
  have same6 : s6 = s1 := by
    have off : s1.bit .PLn_CTRL_BLEED p = false := (congrArg (· != 0) (dropped.regs .PLn_CTRL_BLEED p rfl)).trans still
    show s5.bleed p = s1
    rw [same5, State.bleed, off]
    simp
  have sent : Follows p w s7 := by
    refine dropped.trans ?_
    rw [← same6]
    exact s6.planeWord_follows p
  have aged : Follows p s7 s8 := Follows.ite _ (Follows.wr s7 .PLn_HO_AGE p _ rfl) (Follows.refl _ _)
  exact ((sent.trans aged).trans (Follows.wr _ .PLn_STATE_ASSIST p _ rfl)).trans (Follows.wr _ .PLn_STATE_MODEL_OLD p _ rfl)

/-- A plane that runs and follows a source, or holds over, takes the swap of its pending commit at the candidate's update (R53, R54,
R68); `w` is the state with MODE's return to 0 seen (R56). -/
theorem State.planeMove_swaps (w : State) (seen : s.reloadSteer p = w) {r : Region} (on : w.bit .PLn_CTRL_EN p = true)
    (unforced : w.forced p = 0) (loops : w.bit .PLn_CTRL_MODE p = false) (left : w.rd .PLn_STATE_STATE p ≠ 0)
    (unsteered : w.rd .PLn_STATE_STATE p ≠ 4) (region : (w.planes[p]).region = some r) (pending : w.rd .PLn_COMMIT_RESULT p = 2)
    (sampled : (w.freshErr p (w.rd .PLn_SHADOW_STAT_SRC p)).isSome = true) : s.planeMove p = w.swapPlane p r := by
  unfold State.planeMove
  simp only [seen, on, unforced, loops, if_neg left, if_neg unsteered, region, pending, sampled, Bool.not_true, Bool.false_eq_true,
    if_false, ne_eq, not_true_eq_false, if_true]

end

/-! ## A swap at the tick that sees MODE return to 0

A plane that has been forced into HOLDOVER while it steered keeps MODE at 1, and with it what the reload of R56 is still to do. One write
of PL0_CTRL may end both FORCE_HO and MODE after a commit has been issued. The next tick then reloads the integrator and the third pole
from PL0_STEER before it swaps, so the snapshot of R68 holds the reloaded values and not those that the plane held before the tick. -/

/-- The region of that commit: master 1 has opened it, and it prefers the active source, IN0. -/
def steerRegion : Region := ⟨0, false, 0, some 1, 0, 0, 0, false⟩

/-- Plane 0 at such a tick: in HOLDOVER from IN0 with a commit to ATOM_IN pending, a sample of it fresh, PL0_STEER at 0, and an
integrator of 2⁻²⁰ from before it steered. -/
def State.steerReleased : State :=
  let s : State := ((State.reset.wr .PLn_CTRL_EN 0 1).wr .PLn_STATE_STATE 0 3).wr .PLn_REFSEL_SRC 0 0
  let s := (((s.wr .PLn_SHADOW_STAT_SRC 0 20).wr .PLn_SHADOW_STAT_READY 0 1).wr .PLn_COMMIT_RESULT 0 2).wr .PLn_COMMIT_BUSY 0 1
  let s : State := { s with xo := { s.xo with fresh := [⟨0, 0, 0, none⟩] } }
  s.setPlane 0 { PlaneState.init with i := 1 / 2 ^ 20, w := 1 / 2 ^ 20, steered := true, region := some steerRegion }

/-- That state as the transitions of R53 find it, and with the reload done. -/
def State.steerSeen : State := (State.steerReleased.holdCmd 0).reCandidate 0
def State.steerReloaded : State := State.steerSeen.reloadSteer 0

theorem State.steerReloaded_snapshot : (State.steerReloaded.takeSnapshot 0).i = 0 := by decide +kernel

/-- The snapshot that the step of that state takes. -/
theorem State.steerReleased_snap :
    ((State.steerReleased.planeStep 0).planes[(0 : Fin 4)]).snap = some (State.steerReloaded.takeSnapshot 0) := by
  have moves := State.steerSeen.planeMove_swaps 0 State.steerReloaded rfl (r := steerRegion) (by decide +kernel) (by decide +kernel)
    (by decide +kernel) (by decide +kernel) (by decide +kernel) (by decide +kernel) (by decide +kernel) (by decide +kernel)
  obtain ⟨snap, window, bleed⟩ := State.steerReloaded.swapPlane_takes 0 steerRegion (by decide +kernel)
  have step := State.steerReleased.planeStep_follows 0 State.steerSeen _ rfl moves (by decide +kernel) window
    (bleed.trans (by decide +kernel))
  exact step.snap.trans snap

/-- Refutes O13: at the step of `State.steerReleased` the plane reloads its integrator from PL0_STEER (R56) and then swaps, so that the
snapshot holds 0, while the clause for the swap has it hold the 2⁻²⁰ from before the tick. -/
theorem not_planeTick : ¬ Obligations.PlaneTick := by
  rintro ⟨-, -, transitions⟩
  obtain ⟨-, -, -, -, -, -, -, -, -, -, swap, -⟩ := transitions State.steerReleased 0 steerRegion
    (State.steerReleased.takeSnapshot 0) 0
  obtain ⟨-, -, -, -, -, -, -, z, taken, -, -, integrator, -⟩ := swap ⟨by decide +kernel, by decide +kernel, by decide +kernel⟩
    (by decide +kernel) (by decide +kernel) (.inr (by decide +kernel)) (by decide +kernel)
  obtain rfl : State.steerReloaded.takeSnapshot 0 = z := Option.some.inj (State.steerReleased_snap.symm.trans taken)
  rw [State.steerReloaded_snapshot] at integrator
  exact absurd integrator (by decide +kernel)

end Sys2Proof.Machine
end
